-- ==== Sys2Proof/Word.lean ====
section
/-! DEFINITION. The plain words of the CY9 and the sparse table that holds every numbered store
(memory, register files, queues of slots): a list of key and value, keys rising. -/

namespace Sys2Proof

abbrev Byte := BitVec 8
abbrev Word32 := BitVec 32
abbrev DWord := BitVec 64
/-- One vector register or queue entry: 8 KiB (01 R29). -/
abbrev VWord := BitVec 65536
/-- One bit for each 32-bit lane (01 R29). -/
abbrev LaneMask := BitVec 2048

/-- A sparse store: what a key that is not listed holds is said by whoever reads it. -/
abbrev Tbl (α : Type) := List (Nat × α)

/-- What the store holds at `k`; `d` where it lists nothing. -/
def Tbl.look {α : Type} (d : α) : Tbl α → Nat → α
  | [], _ => d
  | (j, x) :: r, k => if j = k then x else Tbl.look d r k

/-- The entry at `k`, if one is listed. -/
def Tbl.find {α : Type} : Tbl α → Nat → Option α
  | [], _ => none
  | (j, x) :: r, k => if j = k then some x else Tbl.find r k

/-- The store with `x` at `k`, keys kept rising. -/
def Tbl.put {α : Type} : Tbl α → Nat → α → Tbl α
  | [], k, x => [(k, x)]
  | (j, y) :: r, k, x =>
    if j = k then (k, x) :: r
    else if k < j then (k, x) :: (j, y) :: r
    else (j, y) :: Tbl.put r k x

/-- The store with nothing listed at `k`. -/
def Tbl.del {α : Type} : Tbl α → Nat → Tbl α
  | [], _ => []
  | (j, y) :: r, k => if j = k then Tbl.del r k else (j, y) :: Tbl.del r k

/-- As `put`, but a value equal to the default `d` is not listed (the canonical form). -/
def Tbl.set {α : Type} [DecidableEq α] (d : α) (t : Tbl α) (k : Nat) (x : α) : Tbl α :=
  if x = d then Tbl.del t k else Tbl.put t k x

/-- The store with `f` applied to what it holds at `k`. -/
def Tbl.upd {α : Type} (d : α) (t : Tbl α) (k : Nat) (f : α → α) : Tbl α :=
  Tbl.put t k (f (Tbl.look d t k))

/-- Keys strictly rising from `lo`. -/
def Tbl.rising {α : Type} : Nat → Tbl α → Bool
  | _, [] => true
  | lo, (k, _) :: r => decide (lo ≤ k) && Tbl.rising (k + 1) r

/-- The canonical form: keys strictly rising and no entry equal to the default. -/
def Tbl.wf {α : Type} [DecidableEq α] (d : α) (t : Tbl α) : Bool :=
  Tbl.rising 0 t && t.all (fun e => !decide (e.2 = d))

end Sys2Proof
end

