-- ==== Sys2Proof/Syntax.lean ====
section
/-! DEFINITION. The instructions of the CY9: one constructor for each row of spec/opcode_table.json.
A row that is an instruction word carries its format's fields (01 R31); a row that is an event of the
device carries where it happens and what arrives. Reserved fields stand in the format and WellFormed
demands that they be zero (01 R15). -/

namespace Sys2Proof

/-- C.R (01 R31). -/
structure CR where
  tok : BitVec 4
  d : BitVec 6
  a : BitVec 6
  b : BitVec 6
  deriving DecidableEq, Repr

/-- C.I (01 R31). -/
structure CI where
  tok : BitVec 4
  d : BitVec 6
  a : BitVec 6
  imm : BitVec 8
  deriving DecidableEq, Repr

/-- C.U (01 R31). -/
structure CU where
  tok : BitVec 4
  d : BitVec 6
  imm : BitVec 14
  deriving DecidableEq, Repr

/-- C.K (01 R31): `r` is the S field, `idx` the special-register index. -/
structure CK where
  tok : BitVec 4
  r : BitVec 6
  idx : BitVec 12
  deriving DecidableEq, Repr

/-- L (01 R31): a long-form command; CLASS and CMD are the constructor's. -/
structure LW where
  tok : BitVec 4
  d : BitVec 6
  a : BitVec 6
  b : BitVec 6
  stamp : BitVec 16
  deriving DecidableEq, Repr

/-- A.R (01 R31). -/
structure AR where
  tok : BitVec 4
  d : BitVec 5
  a : BitVec 5
  b : BitVec 5
  deriving DecidableEq, Repr

/-- A.I (01 R31). -/
structure AI where
  tok : BitVec 4
  d : BitVec 5
  a : BitVec 5
  imm : BitVec 10
  deriving DecidableEq, Repr

/-- A.U (01 R31). -/
structure AU where
  tok : BitVec 4
  d : BitVec 5
  imm : BitVec 15
  deriving DecidableEq, Repr

/-- A.M (01 R31). -/
structure AM where
  tok : BitVec 4
  rt : BitVec 5
  rb : BitVec 5
  off : BitVec 10
  deriving DecidableEq, Repr

/-- A.X (01 R31): `w` is FN `<3:0>`; FN `<4>` is the constructor's (02 R47). -/
structure AX where
  tok : BitVec 4
  rt : BitVec 5
  rb : BitVec 5
  ri : BitVec 5
  w : BitVec 4
  deriving DecidableEq, Repr

/-- A.L (01 R31): `w64` is XOP bit 0 of the rows that come in two widths (02 R48). -/
structure AL where
  tok : BitVec 4
  w64 : Bool
  d : BitVec 5
  a : BitVec 5
  b : BitVec 5
  c : BitVec 5
  scope : BitVec 2
  ord : Bool
  qs : BitVec 3
  imm : BitVec 16
  deriving DecidableEq, Repr

/-- V.R (01 R31). -/
structure VR where
  tok : BitVec 4
  d : BitVec 6
  a : BitVec 6
  b : BitVec 6
  deriving DecidableEq, Repr

/-- V.K (01 R31). -/
structure VK where
  tok : BitVec 4
  d : BitVec 6
  a : BitVec 6
  ks : BitVec 4
  deriving DecidableEq, Repr

/-- V.I (01 R31). -/
structure VI where
  tok : BitVec 4
  kd : BitVec 4
  imm : BitVec 16
  deriving DecidableEq, Repr

/-- V.L (01 R31). -/
structure VL where
  tok : BitVec 4
  d : BitVec 6
  a : BitVec 6
  b : BitVec 6
  c : BitVec 6
  msk : BitVec 3
  men : Bool
  qsel : BitVec 4
  rm : BitVec 3
  ty : BitVec 5
  mz : Bool
  aux : BitVec 3
  deriving DecidableEq, Repr

/-- S.B (01 R31). -/
structure SB where
  a : BitVec 6
  b : BitVec 6
  off : BitVec 12
  deriving DecidableEq, Repr

/-- S.J (01 R31). -/
structure SJ where
  off : BitVec 24
  deriving DecidableEq, Repr

/-- S.L (01 R31). -/
structure SL where
  cnt : BitVec 12
  fin : BitVec 12
  deriving DecidableEq, Repr

/-- S.X (01 R31, R33): target bits `<55:2>`. -/
structure SX where
  tgt : BitVec 54
  deriving DecidableEq, Repr

/-- What a Benvas packet carries (18 R442). -/
inductive PacketKind where
  | write | flagAdd | handleMove | readRequest | readReply
  deriving DecidableEq, Repr

/-- A state handle on its way between chips (14 R378). -/
structure HandleImage where
  handle : DWord
  asid : Nat
  nh : Nat
  dk : Nat
  dv : Nat
  nextSeq : Nat
  snapshot : Bool
  poisoned : Bool
  nv : Bool
  of : Bool
  die : Nat
  backing : Nat
  image : Tbl Byte
  deriving DecidableEq, Repr

/-- One Benvas packet (18 R442). `job` names the sender's own job and is not sent; `via` is the link and the SEQ of a packet that was first sent on
another link, which is down (18 R444, R460). -/
structure Packet where
  kind : PacketKind
  src : Nat
  dst : Nat
  asid : Nat
  addr : Nat
  data : List Byte
  job : Nat
  via : Option (Nat × Nat) := none
  deriving DecidableEq, Repr

/-- A received Ethernet frame, FCS stripped, and its hardware timestamp (18 R445). -/
structure Frame802 where
  bytes : List Byte
  sec : Nat
  ns : Nat
  deriving DecidableEq, Repr

/-- A host access through CXL.mem at a device physical address (08 R198). -/
inductive HostAccess where
  | read (pa n : Nat)
  | readCached (line : Nat)
  | write (pa : Nat) (data : List Byte)
  | atomicAdd (pa : Nat) (x : DWord)
  | atomicOr (pa : Nat) (x : DWord)
  | writeOwn (pa : Nat) (data : List Byte)   -- the host's own memory
  deriving DecidableEq, Repr

/-- What met an uncorrectable error (17 R427, R428). -/
inductive ErrorAt where
  | task (sk : Nat)          -- an A-engine demand access, or the Skillet's own storage
  | job (win : Nat)          -- an engine job of the die
  | hostRead                 -- a host read through CXL.mem
  | crockPage (page : Nat)   -- a Crock page (14 R352)
  | unitOnly                 -- no agent concerned
  deriving DecidableEq, Repr

/-- An error as the unit that found it reports it (17 R428). -/
structure ErrorEvent where
  die : Nat
  unit : Nat
  bank : Nat
  kind : Nat
  addr : Nat
  synd : DWord
  at_ : ErrorAt
  storage : Bool             -- the Skillet's own registers or storage failed (17 R427)
  deriving DecidableEq, Repr

/-- What the scrubber found in a granule (17 R424, R425). -/
inductive ScrubFind where
  | good | corrected | uncorrectable
  deriving DecidableEq, Repr

/-- One row of the opcode table. -/
inductive Instr where
  | nop (f : CU)
  | add (f : CR)
  | sub (f : CR)
  | mul (f : CR)
  | mulh (f : CR)
  | mulhn (f : CR)
  | div (f : CR)
  | divn (f : CR)
  | rem (f : CR)
  | remn (f : CR)
  | and (f : CR)
  | or (f : CR)
  | xor (f : CR)
  | andn (f : CR)
  | shl (f : CR)
  | shr (f : CR)
  | sra (f : CR)
  | rot (f : CR)
  | min (f : CR)
  | max (f : CR)
  | minn (f : CR)
  | maxn (f : CR)
  | slt (f : CR)
  | sltn (f : CR)
  | seq (f : CR)
  | sel (f : CR)
  | clz (f : CR)
  | ctz (f : CR)
  | popc (f : CR)
  | bfx (f : CR)
  | bfi (f : CR)
  | addi (f : CI)
  | andi (f : CI)
  | ori (f : CI)
  | xori (f : CI)
  | shli (f : CI)
  | shri (f : CI)
  | srai (f : CI)
  | ldc (f : CI)
  | stc (f : CI)
  | li (f : CU)
  | lih (f : CU)
  | addpc (f : CU)
  | srd (f : CK)
  | swt (f : CK)
  | sendCa (f : CR)
  | sendCv (f : CR)
  | recvAc (f : CR)
  | recvVc (f : CR)
  | beq (f : SB)
  | bne (f : SB)
  | blt (f : SB)
  | bge (f : SB)
  | bltn (f : SB)
  | bgen (f : SB)
  | jmp (f : SJ)
  | call (f : SJ)
  | jmpLong (f : SX)
  | callLong (f : SX)
  | callr (f : SB)
  | ret (f : SB)
  | loop (f : SL)
  | loopr (f : SL)
  | loopm (f : SL)
  | ldI8 (f : AM)
  | ldN8 (f : AM)
  | ldI16 (f : AM)
  | ldN16 (f : AM)
  | ldI32 (f : AM)
  | ldN32 (f : AM)
  | ld64 (f : AM)
  | st8 (f : AM)
  | st16 (f : AM)
  | st32 (f : AM)
  | st64 (f : AM)
  | ldIndexed (f : AX)
  | ldIndexedS (f : AX)
  | stIndexed (f : AX)
  | ldI8S (f : AM)
  | ldN8S (f : AM)
  | ldI16S (f : AM)
  | ldN16S (f : AM)
  | ldI32S (f : AM)
  | ldN32S (f : AM)
  | ld64S (f : AM)
  | vld (f : AM)
  | vldS (f : AM)
  | vst (f : AM)
  | vlds (f : AX)
  | vldsS (f : AX)
  | vldx (f : AX)
  | vldxS (f : AX)
  | vsts (f : AX)
  | vstx (f : AX)
  | adda (f : AR)
  | suba (f : AR)
  | mova (f : AR)
  | sendAAc (f : AR)
  | sendAAv (f : AR)
  | recvACa (f : AR)
  | recvAVa (f : AR)
  | addai (f : AI)
  | shla (f : AI)
  | mulai (f : AI)
  | lia (f : AU)
  | spld (f : AL)
  | spldVector (f : AL)
  | spst (f : AL)
  | spstVector (f : AL)
  | lda (f : AL)
  | stl (f : AL)
  | fence (f : AL)
  | aadd (f : AL)
  | aand (f : AL)
  | aor (f : AL)
  | axor (f : AL)
  | aswap (f : AL)
  | acas (f : AL)
  | amin (f : AL)
  | amax (f : AL)
  | aminn (f : AL)
  | amaxn (f : AL)
  | waita (f : AL)
  | pfb (f : AL)
  | chkp (f : AL)
  | chkpQueue (f : AL)
  | vadd (f : VR)
  | vsub (f : VR)
  | vmul (f : VR)
  | vmin (f : VR)
  | vmax (f : VR)
  | vand (f : VR)
  | vor (f : VR)
  | vxor (f : VR)
  | vmov (f : VR)
  | vnot (f : VR)
  | vabs (f : VR)
  | vneg (f : VR)
  | vaddK (f : VK)
  | vsubK (f : VK)
  | vmulK (f : VK)
  | vminK (f : VK)
  | vmaxK (f : VK)
  | vshl (f : VK)
  | vshr (f : VK)
  | vsra (f : VK)
  | vbcast (f : VK)
  | vslup (f : VK)
  | vsldn (f : VK)
  | kli (f : VI)
  | kadd (f : VR)
  | kmov (f : VR)
  | sendVVc (f : VR)
  | sendVVa (f : VR)
  | recvVCv (f : VR)
  | recvVAv (f : VR)
  | vcfg (f : VL)
  | vaddLong (f : VL)
  | vsubLong (f : VL)
  | vmulLong (f : VL)
  | vfma (f : VL)
  | vfms (f : VL)
  | vfnma (f : VL)
  | vdiv (f : VL)
  | vsqrt (f : VL)
  | vrcp (f : VL)
  | vrsq (f : VL)
  | vminLong (f : VL)
  | vmaxLong (f : VL)
  | vabsLong (f : VL)
  | vnegLong (f : VL)
  | vcpys (f : VL)
  | vandLong (f : VL)
  | vorLong (f : VL)
  | vxorLong (f : VL)
  | vnotLong (f : VL)
  | vshlLong (f : VL)
  | vshrLong (f : VL)
  | vsraLong (f : VL)
  | vadds (f : VL)
  | vsubs (f : VL)
  | vcmp (f : VL)
  | vsel (f : VL)
  | vmop (f : VL)
  | vcvt (f : VL)
  | vqmax (f : VL)
  | vqcvt (f : VL)
  | vqcvtx (f : VL)
  | vredsum (f : VL)
  | vredmax (f : VL)
  | vredmin (f : VL)
  | vredamax (f : VL)
  | vperm (f : VL)
  | vslupLong (f : VL)
  | vsldnLong (f : VL)
  | vbcastLong (f : VL)
  | viota (f : VL)
  | vcompr (f : VL)
  | vext (f : VL)
  | vins (f : VL)
  | vmovLong (f : VL)
  | vtlu (f : VL)
  | vtld (f : VL)
  | spawn (f : LW)
  | spawnl (f : LW)
  | join (f : LW)
  | tend (f : LW)
  | yield (f : LW)
  | galloc (f : LW)
  | gfree (f : LW)
  | greshape (f : LW)
  | glease (f : LW)
  | grel (f : LW)
  | gfmt (f : LW)
  | gmma (f : LW)
  | gdrain (f : LW)
  | gzero (f : LW)
  | gsave (f : LW)
  | grest (f : LW)
  | gstat (f : LW)
  | cpy (f : LW)
  | cpyg (f : LW)
  | cpys (f : LW)
  | cpyr (f : LW)
  | cwait (f : LW)
  | ctest (f : LW)
  | swait (f : LW)
  | ssig (f : LW)
  | sadd (f : LW)
  | srdv (f : LW)
  | bar (f : LW)
  | bara (f : LW)
  | barw (f : LW)
  | elect (f : LW)
  | fwrd (f : LW)
  | fwstep (f : LW)
  | fwstepFrw (f : LW)
  | fwstepFwr (f : LW)
  | fwseq (f : LW)
  | fwgrad (f : LW)
  | fwfade (f : LW)
  | fwzero (f : LW)
  | fwld (f : LW)
  | fwst (f : LW)
  | shnew (f : LW)
  | shsnap (f : LW)
  | shfork (f : LW)
  | shavg (f : LW)
  | shroll (f : LW)
  | shmove (f : LW)
  | shpin (f : LW)
  | shfree (f : LW)
  | shstat (f : LW)
  | trap (f : LW)
  | sysc (f : LW)
  | brk (f : LW)
  | eretResume (f : LW)
  | tlbi (f : LW)
  | cwb (f : LW)
  | cinv (f : LW)
  | ppt (f : LW)
  | dsetMerge (f : LW)
  | rlogStatus (f : LW)
  | mcackAck (f : LW)
  | eretEndTask (f : LW)
  | eretHandlerEnd (f : LW)
  | dsetAdvance (f : LW)
  | rlogRelease (f : LW)
  | rlogClose (f : LW)
  | mcackRerun (f : LW)
  | mcackEndLaunch (f : LW)
  | jobctlRestart (f : CK)
  | jobctlAbort (f : CK)
  | engineDeadlock (sk : Nat)
  | loadDataArrival (sk q i : Nat)
  | pageWalkComplete (die asid va : Nat)
  | cacheEviction (die line : Nat)
  | waitaWake (sk : Nat)
  | waitaTimeout (sk : Nat)
  | prefetchComplete (sk id : Nat)
  | dequePop (sk : Nat)
  | stealClaim (thief victim : Nat)
  | stealTake (thief : Nat)
  | taskStart (sk : Nat)
  | completionRelease (sk : Nat)
  | joinSpinExpiry (sk : Nat)
  | taskResume (sk : Nat)
  | notify (die slot qid : Nat)
  | packetCapture (die slot : Nat)
  | dispatchDecision (die : Nat)
  | batchDraw (launch die : Nat)
  | teamSliceExpiry (launch team : Nat)
  | levelChange (die slot : Nat)
  | launchEnd (launch : Nat)
  | dieLost (die : Nat)
  | preemptionRequest (sk pt : Nat)
  | checkpoint (sk : Nat)
  | drainTimeout (sk : Nat)
  | trapEntry (sk : Nat)
  | asyncFaultDelivery (sk : Nat)
  | handlerTimeout (sk : Nat)
  | leaseGrant (die slab : Nat)
  | leaseRevocation (die slab : Nat)
  | jobWindowAccept (sk : Nat)
  | griddleJobStart (die slab : Nat)
  | griddleJobComplete (die slab : Nat)
  | griddleJobHalt (die slab : Nat)
  | greshapeAct (die slab : Nat)
  | gfreeRelease (die slab : Nat)
  | colanderJobStart (die win : Nat)
  | colanderChunkLand (die win chunk : Nat)
  | colanderJobComplete (die win : Nat)
  | colanderJobHalt (die win chunk : Nat)
  | phaseWaitResume (sk : Nat)
  | whiskAccept (sk : Nat)
  | whiskJobStart (die : Nat)
  | whiskCommit (die : Nat)
  | whiskJobHalt (die : Nat)
  | ladlePageIn (h : Nat)
  | ladleEviction (die : Nat)
  | handleCommandAccept (sk : Nat)
  | shnewAction (h : Nat)
  | shsnapAction (h : Nat)
  | shforkAction (h : Nat)
  | shavgAction (h : Nat)
  | shrollAction (h : Nat)
  | shmoveAction (h : Nat)
  | shpinAction (h : Nat)
  | shfreeAction (h : Nat)
  | handleMoveReceive (m : HandleImage)
  | handleMoveAck (h : Nat)
  | roundClose (launch : Nat)
  | sfcTick (launch : Nat)
  | stampOverrun (sk : Nat)
  | replayDivergence (die qid : Nat)
  | hostCxlAccess (x : HostAccess)
  | backInvalidateResponse (line : Nat)
  | ingestFrameArrival (port : Nat) (frame : List Byte)
  | ingestRecordWrite (port stream : Nat)
  | benvasPacketReceive (link : Nat) (via : Option (Nat × Nat)) (flits : List (List Byte))
  | benvasAckReceive (link seq : Nat)
  | benvasNakReceive (link seq : Nat)
  | ackTimer (link : Nat)
  | replayTimeout (link : Nat)
  | laneFailure (link lane : Nat)
  | linkRetrainComplete (link : Nat) (wide : Bool)
  | fullWidthRetry (link : Nat) (ok : Bool)
  | melperLaneLoss (lane : Nat)
  | ucieLinkRetrain (dieA dieB : Nat) (ok : Bool)
  | machineCheck (e : ErrorEvent)
  | mcAckTimeout (die seq : Nat)
  | refreshRow (die stack row : Nat)
  | hbmOverTemperature (die stack : Nat)
  | hbmTemperatureRecovery (die stack : Nat)
  | spinelHeartbeat (die stack : Nat)
  | refreshTakeover (die stack : Nat) (handover : Bool)
  | spinelResume (die stack : Nat)
  | scrubRead (die granule : Nat) (found : ScrubFind)
  | scrubWriteBack (die granule : Nat)
  | plateRepair (die plate : Nat)
  | skilletSpareMap (die logical : Nat)
  | crockBankRemap (die bank : Nat)
  | postPackageRepair (die stack row : Nat)
  | powerManagerStep (down : Bool)
  | thermalThrottle
  | thermalRecovery
  | thermalTrip
  | coldReset
  | updateStartTimeout (comp : Nat)
  | hostTlbi (die : Nat)
  | layinv (die : Nat) (v : DWord)
  | registerWrite (off : Nat) (v : DWord)
  | mapq
  | unmapq
  | destroyq
  | freeh
  | ttreg
  | window
  | rdrep
  | mcackh
  | endl
  | stream
  | route
  | inbound
  | update
  | attest
  | ident
  | hostSnoop (die line : Nat) (inv : Bool)
  | launchClassification (launch die ops bytes : Nat)
  | componentStart (comp : Nat)
  | powerLoss
  deriving DecidableEq, Repr

end Sys2Proof
end

