-- ==== Sys2Proof/WellFormed.lean ====
section
/-! DEFINITION. Which terms of Instr are instructions the opcode map assigns: reserved and unused fields
zero (01 R15, 02 R45 to R52), queue operands and types among those accepted (01 R32, 06 R142). -/

namespace Sys2Proof

/-- A six-bit field that names a k register (01 R31). -/
def kField (x : BitVec 6) : Bool := decide (x < 16)

/-- A six-bit field that names an m register (01 R31). -/
def mField (x : BitVec 6) : Bool := decide (x < 8)

/-- F32, F64 (03 R53). -/
def tyFloat (t : BitVec 5) : Bool := t == 0 || t == 1

/-- I32, N32 (03 R53). -/
def tyInt (t : BitVec 5) : Bool := t == 0x18 || t == 0x19

/-- F32 F64 I32 N32 (06 R146). -/
def tyArith (t : BitVec 5) : Bool := tyFloat t || tyInt t

/-- F32 I32 N32 (06 R159). -/
def tyLane (t : BitVec 5) : Bool := t == 0 || tyInt t

/-- I8 N8 I16 N16 I32 N32 (06 R148). -/
def tySat (t : BitVec 5) : Bool := tyInt t || t == 0x09 || t == 0x0A || t == 0x1A || t == 0x1B

/-- The codes a VCVT accepts: 0x00 to 0x0C and 0x18 to 0x1B (06 R152). -/
def tyCvt (t : BitVec 5) : Bool := decide (t ≤ 0x0C) || (decide (0x18 ≤ t) && decide (t ≤ 0x1B))

/-- The codes of the quantisation pipeline: 0x02 to 0x17 (06 R154, R156). -/
def tyQuant (t : BitVec 5) : Bool := decide (2 ≤ t) && decide (t ≤ 0x17)

/-- RM codes 0b000 to 0b101 (01 R32). -/
def rmAny (r : BitVec 3) : Bool := decide (r < 6)

/-- RM of an arithmetic instruction: zero for integer types (06 R146). -/
def rmArith (r : BitVec 3) (t : BitVec 5) : Bool := rmAny r && (tyFloat t || r == 0)

/-- QSEL, queue operands, MEN, MSK and MZ of a V.L word (01 R32, 06 R142): `qd qa qb qc` say which of VD, VA,
VB and VC may name a queue, `mask` whether the instruction takes a mask. -/
def vlShape (f : VL) (qd qa qb qc mask : Bool) : Bool :=
  (!f.qsel.getLsbD 3 || (qd && decide (f.d < 2))) &&
  (!f.qsel.getLsbD 2 || (qa && decide (f.a < 4))) &&
  (!f.qsel.getLsbD 1 || (qb && decide (f.b < 4))) &&
  (!f.qsel.getLsbD 0 || (qc && decide (f.c < 4))) &&
  (mask || !f.men) && (f.men || (f.msk == 0 && !f.mz))

/-- The operand fields of an instruction hold what the map allows. Every event is well formed. -/
def Instr.wellFormed : Instr → Bool
  | .nop f => f.d == 0 && f.imm == 0
  | .add _ => true
  | .sub _ => true
  | .mul _ => true
  | .mulh _ => true
  | .mulhn _ => true
  | .div _ => true
  | .divn _ => true
  | .rem _ => true
  | .remn _ => true
  | .and _ => true
  | .or _ => true
  | .xor _ => true
  | .andn _ => true
  | .shl _ => true
  | .shr _ => true
  | .sra _ => true
  | .rot _ => true
  | .min _ => true
  | .max _ => true
  | .minn _ => true
  | .maxn _ => true
  | .slt _ => true
  | .sltn _ => true
  | .seq _ => true
  | .sel _ => true
  | .clz f => f.b == 0
  | .ctz f => f.b == 0
  | .popc f => f.b == 0
  | .bfx _ => true
  | .bfi _ => true
  | .addi _ => true
  | .andi _ => true
  | .ori _ => true
  | .xori _ => true
  | .shli f => decide (f.imm < 64)
  | .shri f => decide (f.imm < 64)
  | .srai f => decide (f.imm < 64)
  | .ldc _ => true
  | .stc _ => true
  | .li _ => true
  | .lih _ => true
  | .addpc _ => true
  | .srd _ => true
  | .swt _ => true
  | .sendCa f => f.d == 0 && f.b == 0
  | .sendCv f => f.d == 0 && f.b == 0
  | .recvAc f => f.a == 0 && f.b == 0
  | .recvVc f => f.a == 0 && f.b == 0
  | .beq _ => true
  | .bne _ => true
  | .blt _ => true
  | .bge _ => true
  | .bltn _ => true
  | .bgen _ => true
  | .jmp _ => true
  | .call _ => true
  | .jmpLong _ => true
  | .callLong _ => true
  | .callr f => f.b == 0 && f.off == 0
  | .ret f => f.a == 0 && f.b == 0 && f.off == 0
  | .loop f => f.fin != 0
  | .loopr f => f.fin != 0 && decide (f.cnt < 64)
  | .loopm f => f.fin != 0 && decide (f.cnt < 16)
  | .ldI8 _ => true
  | .ldN8 _ => true
  | .ldI16 _ => true
  | .ldN16 _ => true
  | .ldI32 _ => true
  | .ldN32 _ => true
  | .ld64 _ => true
  | .st8 _ => true
  | .st16 _ => true
  | .st32 _ => true
  | .st64 _ => true
  | .ldIndexed f => decide (f.w < 7)
  | .ldIndexedS f => decide (f.w < 7)
  | .stIndexed f => decide (f.w < 4)
  | .ldI8S _ => true
  | .ldN8S _ => true
  | .ldI16S _ => true
  | .ldN16S _ => true
  | .ldI32S _ => true
  | .ldN32S _ => true
  | .ld64S _ => true
  | .vld f => decide (f.rt < 2)
  | .vldS f => decide (f.rt < 2)
  | .vst f => decide (f.rt < 2)
  | .vlds f => decide (f.rt < 2) && f.w == 0
  | .vldsS f => decide (f.rt < 2) && f.w == 0
  | .vldx f => decide (f.rt < 2) && decide (f.ri < 2) && f.w == 0
  | .vldxS f => decide (f.rt < 2) && decide (f.ri < 2) && f.w == 0
  | .vsts f => decide (f.rt < 2) && f.w == 0
  | .vstx f => decide (f.rt < 2) && decide (f.ri < 2) && f.rt != f.ri && f.w == 0
  | .adda _ => true
  | .suba _ => true
  | .mova f => f.b == 0
  | .sendAAc f => f.d == 0 && f.b == 0
  | .sendAAv f => f.d == 0 && f.b == 0
  | .recvACa f => f.a == 0 && f.b == 0
  | .recvAVa f => f.a == 0 && f.b == 0
  | .addai _ => true
  | .shla f => decide (f.imm < 64)
  | .mulai _ => true
  | .lia _ => true
  | .spld f => !f.w64 && f.scope == 0 && !f.ord && f.b == 0 && f.c == 0 && f.qs == 0
  | .spldVector f => !f.w64 && f.scope == 0 && !f.ord && f.d == 0 && f.b == 0 && f.c == 0 && (f.qs == 1 || f.qs == 2)
  | .spst f => !f.w64 && f.scope == 0 && !f.ord && f.d == 0 && f.c == 0 && f.qs == 0
  | .spstVector f => !f.w64 && f.scope == 0 && !f.ord && f.d == 0 && f.b == 0 && f.c == 0 && (f.qs == 3 || f.qs == 4)
  | .lda f => f.b == 0 && f.c == 0 && f.qs == 0
  | .stl f => f.d == 0 && f.c == 0 && f.qs == 0
  | .fence f => !f.w64 && f.d == 0 && f.a == 0 && f.b == 0 && f.c == 0 && f.qs == 0 && f.imm == 0
  | .aadd f => f.c == 0 && f.qs == 0
  | .aand f => f.c == 0 && f.qs == 0
  | .aor f => f.c == 0 && f.qs == 0
  | .axor f => f.c == 0 && f.qs == 0
  | .aswap f => f.c == 0 && f.qs == 0
  | .acas f => f.qs == 0
  | .amin f => f.c == 0 && f.qs == 0
  | .amax f => f.c == 0 && f.qs == 0
  | .aminn f => f.c == 0 && f.qs == 0
  | .amaxn f => f.c == 0 && f.qs == 0
  | .waita f => !f.w64 && f.qs == 0
  | .pfb f => !f.w64 && f.scope == 0 && !f.ord && f.d == 0 && f.qs == 0
  | .chkp f => !f.w64 && f.scope == 0 && !f.ord && f.d == 0 && f.b == 0 && f.c == 0 && f.imm == 0 && f.qs == 0
  | .chkpQueue f => !f.w64 && f.scope == 0 && !f.ord && f.a == 0 && f.d == 0 && f.b == 0 && f.c == 0 && f.imm == 0 && (f.qs == 1 || f.qs == 2 || f.qs == 3 || f.qs == 4)
  | .vadd _ => true
  | .vsub _ => true
  | .vmul _ => true
  | .vmin _ => true
  | .vmax _ => true
  | .vand _ => true
  | .vor _ => true
  | .vxor _ => true
  | .vmov f => f.b == 0
  | .vnot f => f.b == 0
  | .vabs f => f.b == 0
  | .vneg f => f.b == 0
  | .vaddK _ => true
  | .vsubK _ => true
  | .vmulK _ => true
  | .vminK _ => true
  | .vmaxK _ => true
  | .vshl _ => true
  | .vshr _ => true
  | .vsra _ => true
  | .vbcast f => f.a == 0
  | .vslup _ => true
  | .vsldn _ => true
  | .kli _ => true
  | .kadd f => kField f.d && kField f.a && kField f.b
  | .kmov f => kField f.d && kField f.a && f.b == 0
  | .sendVVc f => f.d == 0 && kField f.a && f.b == 0
  | .sendVVa f => f.d == 0 && kField f.a && f.b == 0
  | .recvVCv f => kField f.d && f.a == 0 && f.b == 0
  | .recvVAv f => kField f.d && f.a == 0 && f.b == 0
  | .vcfg f => f == ⟨f.tok, f.d, f.a, 0, 0, 0, false, 0, 0, 0, false, 0⟩ && kField f.d && kField f.a
  | .vaddLong f => vlShape f true true false false true && kField f.b && f.c == 0 && f.aux == 0 && tyArith f.ty && rmArith f.rm f.ty
  | .vsubLong f => vlShape f true true false false true && kField f.b && f.c == 0 && f.aux == 0 && tyArith f.ty && rmArith f.rm f.ty
  | .vmulLong f => vlShape f true true false false true && kField f.b && f.c == 0 && f.aux == 0 && tyArith f.ty && rmArith f.rm f.ty
  | .vfma f => vlShape f true true true true true && f.aux == 0 && tyFloat f.ty && rmAny f.rm
  | .vfms f => vlShape f true true true true true && f.aux == 0 && tyFloat f.ty && rmAny f.rm
  | .vfnma f => vlShape f true true true true true && f.aux == 0 && tyFloat f.ty && rmAny f.rm
  | .vdiv f => vlShape f true true true false true && f.c == 0 && f.aux == 0 && tyFloat f.ty && rmAny f.rm
  | .vsqrt f => vlShape f true true false false true && f.b == 0 && f.c == 0 && f.aux == 0 && tyFloat f.ty && rmAny f.rm
  | .vrcp f => vlShape f true true false false true && f.b == 0 && f.c == 0 && f.aux == 0 && tyFloat f.ty && rmAny f.rm
  | .vrsq f => vlShape f true true false false true && f.b == 0 && f.c == 0 && f.aux == 0 && tyFloat f.ty && rmAny f.rm
  | .vminLong f => vlShape f true true false false true && kField f.b && f.c == 0 && f.aux == 0 && f.rm == 0 && tyArith f.ty
  | .vmaxLong f => vlShape f true true false false true && kField f.b && f.c == 0 && f.aux == 0 && f.rm == 0 && tyArith f.ty
  | .vabsLong f => vlShape f true true false false true && f.b == 0 && f.c == 0 && f.aux == 0 && f.rm == 0 && (tyFloat f.ty || f.ty == 0x18)
  | .vnegLong f => vlShape f true true false false true && f.b == 0 && f.c == 0 && f.aux == 0 && f.rm == 0 && (tyFloat f.ty || f.ty == 0x18)
  | .vcpys f => vlShape f true true true false true && f.c == 0 && f.aux == 0 && f.rm == 0 && tyFloat f.ty
  | .vandLong f => vlShape f true true true false true && f.c == 0 && f.aux == 0 && f.rm == 0 && tyInt f.ty
  | .vorLong f => vlShape f true true true false true && f.c == 0 && f.aux == 0 && f.rm == 0 && tyInt f.ty
  | .vxorLong f => vlShape f true true true false true && f.c == 0 && f.aux == 0 && f.rm == 0 && tyInt f.ty
  | .vnotLong f => vlShape f true true false false true && f.b == 0 && f.c == 0 && f.aux == 0 && f.rm == 0 && tyInt f.ty
  | .vshlLong f => vlShape f true true false false true && kField f.b && f.c == 0 && f.aux == 0 && f.rm == 0 && tyInt f.ty
  | .vshrLong f => vlShape f true true false false true && kField f.b && f.c == 0 && f.aux == 0 && f.rm == 0 && tyInt f.ty
  | .vsraLong f => vlShape f true true false false true && kField f.b && f.c == 0 && f.aux == 0 && f.rm == 0 && tyInt f.ty
  | .vadds f => vlShape f true true true false true && f.c == 0 && f.aux == 0 && f.rm == 0 && tySat f.ty
  | .vsubs f => vlShape f true true true false true && f.c == 0 && f.aux == 0 && f.rm == 0 && tySat f.ty
  | .vcmp f => vlShape f false true true false true && mField f.d && f.c == 0 && f.rm == 0 && tyArith f.ty && decide (f.aux < 7) && (tyFloat f.ty || f.aux != 6)
  | .vsel f => vlShape f true true true false true && f.men && !f.mz && f.c == 0 && f.aux == 0 && f.rm == 0 && tyArith f.ty
  | .vmop f => f == ⟨f.tok, f.d, f.a, f.b, 0, 0, false, 0, 0, 0, false, f.aux⟩ && mField f.d && mField f.a && mField f.b && decide (f.aux < 7) && (decide (f.aux < 4) || f.b == 0) && (decide (f.aux < 5) || f.a == 0)
  | .vcvt f => vlShape f true true false false true && f.b == 0 && f.aux == 0 && rmAny f.rm && tyCvt f.ty && decide (f.c < 32) && tyCvt (f.c.setWidth 5) && f.ty != f.c.setWidth 5
  | .vqmax f => vlShape f false true false false false && f.b == 0 && f.c == 0 && f.aux == 0 && f.rm == 0 && tyQuant f.ty
  | .vqcvt f => vlShape f true false false false false && f.a == 0 && f.c == 0 && f.aux == 0 && rmAny f.rm && tyQuant f.ty
  | .vqcvtx f => vlShape f true false false false false && f.a == 0 && f.c == 0 && f.aux == 0 && rmAny f.rm && tyQuant f.ty
  | .vredsum f => vlShape f false true false false true && kField f.d && !f.mz && f.b == 0 && f.c == 0 && f.aux == 0 && tyArith f.ty && (f.rm == 0 || (tyFloat f.ty && f.rm == 1))
  | .vredmax f => vlShape f false true false false true && kField f.d && !f.mz && f.b == 0 && f.c == 0 && f.aux == 0 && tyArith f.ty && (f.rm == 0 || (tyFloat f.ty && f.rm == 1))
  | .vredmin f => vlShape f false true false false true && kField f.d && !f.mz && f.b == 0 && f.c == 0 && f.aux == 0 && tyArith f.ty && (f.rm == 0 || (tyFloat f.ty && f.rm == 1))
  | .vredamax f => vlShape f false true false false true && kField f.d && !f.mz && f.b == 0 && f.c == 0 && f.aux == 0 && tyArith f.ty && (f.rm == 0 || (tyFloat f.ty && f.rm == 1))
  | .vperm f => vlShape f true true true false true && f.c == 0 && f.aux == 0 && f.rm == 0 && tyLane f.ty
  | .vslupLong f => vlShape f true true false false true && kField f.b && f.c == 0 && f.aux == 0 && f.rm == 0 && tyLane f.ty
  | .vsldnLong f => vlShape f true true false false true && kField f.b && f.c == 0 && f.aux == 0 && f.rm == 0 && tyLane f.ty
  | .vbcastLong f => vlShape f true false false false true && kField f.b && f.a == 0 && f.c == 0 && f.aux == 0 && f.rm == 0 && tyLane f.ty
  | .viota f => vlShape f true false false false true && f.a == 0 && f.b == 0 && f.c == 0 && f.aux == 0 && f.rm == 0 && tyLane f.ty
  | .vcompr f => vlShape f true true false false true && f.men && kField f.b && f.c == 0 && f.aux == 0 && f.rm == 0 && tyLane f.ty
  | .vext f => vlShape f false true false false false && kField f.d && kField f.b && f.c == 0 && f.aux == 0 && f.rm == 0 && tyLane f.ty
  | .vins f => vlShape f false false false false false && kField f.a && kField f.b && f.c == 0 && f.aux == 0 && f.rm == 0 && tyLane f.ty
  | .vmovLong f => vlShape f true true false false true && f.b == 0 && f.c == 0 && f.aux == 0 && f.rm == 0 && tyLane f.ty
  | .vtlu f => vlShape f true true true false true && f.c == 0 && f.aux == 0 && f.ty == 0 && decide (f.rm < 2)
  | .vtld f => vlShape f true true true false true && f.c == 0 && f.aux == 0 && f.ty == 0 && decide (f.rm < 2)
  | .spawn f => decide (f.b < 60)
  | .spawnl f => decide (f.b < 60)
  | .join f => f.d == 0 && f.b == 0
  | .tend f => f.tok == 0 && f.d == 0 && f.a == 0 && f.b == 0
  | .yield f => f.a == 0 && f.b == 0
  | .galloc f => f.b == 0
  | .gfree f => f.d == 0 && f.b == 0
  | .greshape _ => true
  | .glease f => f.d == 0
  | .grel f => f.d == 0 && f.b == 0
  | .gfmt f => f.d == 0
  | .gmma _ => true
  | .gdrain _ => true
  | .gzero f => f.d == 0 && f.b == 0
  | .gsave _ => true
  | .grest _ => true
  | .gstat _ => true
  | .cpy f => f.a == 0
  | .cpyg f => f.a == 0
  | .cpys f => f.a == 0
  | .cpyr f => f.a == 0
  | .cwait f => f.d == 0
  | .ctest f => f.b == 0
  | .swait f => f.d == 0
  | .ssig f => f.d == 0 && f.b == 0
  | .sadd _ => true
  | .srdv f => f.b == 0
  | .bar f => f.d == 0 && f.b == 0
  | .bara f => f.b == 0
  | .barw f => f.d == 0
  | .elect f => f.b == 0
  | .fwrd _ => true
  | .fwstep _ => true
  | .fwstepFrw _ => true
  | .fwstepFwr _ => true
  | .fwseq _ => true
  | .fwgrad _ => true
  | .fwfade _ => true
  | .fwzero _ => true
  | .fwld _ => true
  | .fwst _ => true
  | .shnew _ => true
  | .shsnap _ => true
  | .shfork _ => true
  | .shavg f => f.d == 0
  | .shroll f => f.d == 0
  | .shmove _ => true
  | .shpin f => f.d == 0
  | .shfree f => f.d == 0 && f.b == 0
  | .shstat _ => true
  | .trap f => f.d == 0 && f.b == 0
  | .sysc f => f.d == 0 && f.b == 0
  | .brk f => f.tok == 0 && f.d == 0 && f.a == 0 && f.b == 0
  | .eretResume f => f.tok == 0 && f.d == 0 && f.b == 0
  | .eretEndTask f => f.tok == 0 && f.d == 0 && f.b == 0
  | .eretHandlerEnd f => f.tok == 0 && f.d == 0 && f.b == 0
  | .tlbi f => f.d == 0
  | .cwb f => f.d == 0
  | .cinv f => f.d == 0
  | .ppt _ => true
  | .dsetMerge _ => true
  | .dsetAdvance _ => true
  | .rlogStatus _ => true
  | .rlogRelease _ => true
  | .rlogClose _ => true
  | .mcackAck _ => true
  | .mcackRerun _ => true
  | .mcackEndLaunch _ => true
  | .jobctlRestart f => f.idx == 0x804
  | .jobctlAbort f => f.idx == 0x804
  | .engineDeadlock _ => true
  | .loadDataArrival _ _ _ => true
  | .pageWalkComplete _ _ _ => true
  | .cacheEviction _ _ => true
  | .waitaWake _ => true
  | .waitaTimeout _ => true
  | .prefetchComplete _ _ => true
  | .dequePop _ => true
  | .stealClaim _ _ => true
  | .stealTake _ => true
  | .taskStart _ => true
  | .completionRelease _ => true
  | .joinSpinExpiry _ => true
  | .taskResume _ => true
  | .notify _ _ _ => true
  | .packetCapture _ _ => true
  | .dispatchDecision _ => true
  | .batchDraw _ _ => true
  | .teamSliceExpiry _ _ => true
  | .levelChange _ _ => true
  | .launchEnd _ => true
  | .dieLost _ => true
  | .preemptionRequest _ _ => true
  | .checkpoint _ => true
  | .drainTimeout _ => true
  | .trapEntry _ => true
  | .asyncFaultDelivery _ => true
  | .handlerTimeout _ => true
  | .leaseGrant _ _ => true
  | .leaseRevocation _ _ => true
  | .jobWindowAccept _ => true
  | .griddleJobStart _ _ => true
  | .griddleJobComplete _ _ => true
  | .griddleJobHalt _ _ => true
  | .greshapeAct _ _ => true
  | .gfreeRelease _ _ => true
  | .colanderJobStart _ _ => true
  | .colanderChunkLand _ _ _ => true
  | .colanderJobComplete _ _ => true
  | .colanderJobHalt _ _ _ => true
  | .phaseWaitResume _ => true
  | .whiskAccept _ => true
  | .whiskJobStart _ => true
  | .whiskCommit _ => true
  | .whiskJobHalt _ => true
  | .ladlePageIn _ => true
  | .ladleEviction _ => true
  | .handleCommandAccept _ => true
  | .shnewAction _ => true
  | .shsnapAction _ => true
  | .shforkAction _ => true
  | .shavgAction _ => true
  | .shrollAction _ => true
  | .shmoveAction _ => true
  | .shpinAction _ => true
  | .shfreeAction _ => true
  | .handleMoveReceive _ => true
  | .handleMoveAck _ => true
  | .roundClose _ => true
  | .sfcTick _ => true
  | .stampOverrun _ => true
  | .replayDivergence _ _ => true
  | .hostCxlAccess _ => true
  | .backInvalidateResponse _ => true
  | .ingestFrameArrival _ _ => true
  | .ingestRecordWrite _ _ => true
  | .benvasPacketReceive _ _ _ => true
  | .benvasAckReceive _ _ => true
  | .benvasNakReceive _ _ => true
  | .ackTimer _ => true
  | .replayTimeout _ => true
  | .laneFailure _ _ => true
  | .linkRetrainComplete _ _ => true
  | .fullWidthRetry _ _ => true
  | .melperLaneLoss _ => true
  | .ucieLinkRetrain _ _ _ => true
  | .machineCheck _ => true
  | .mcAckTimeout _ _ => true
  | .refreshRow _ _ _ => true
  | .hbmOverTemperature _ _ => true
  | .hbmTemperatureRecovery _ _ => true
  | .spinelHeartbeat _ _ => true
  | .refreshTakeover _ _ _ => true
  | .spinelResume _ _ => true
  | .scrubRead _ _ _ => true
  | .scrubWriteBack _ _ => true
  | .plateRepair _ _ => true
  | .skilletSpareMap _ _ => true
  | .crockBankRemap _ _ => true
  | .postPackageRepair _ _ _ => true
  | .powerManagerStep _ => true
  | .thermalThrottle => true
  | .thermalRecovery => true
  | .thermalTrip => true
  | .coldReset => true
  | .updateStartTimeout _ => true
  | .hostTlbi _ => true
  | .layinv _ _ => true
  | .registerWrite _ _ => true
  | .mapq => true
  | .unmapq => true
  | .destroyq => true
  | .freeh => true
  | .ttreg => true
  | .window => true
  | .rdrep => true
  | .mcackh => true
  | .endl => true
  | .stream => true
  | .route => true
  | .inbound => true
  | .update => true
  | .attest => true
  | .ident => true
  | .hostSnoop _ _ _ => true
  | .launchClassification _ _ _ _ => true
  | .componentStart _ => true
  | .powerLoss => true

/-- The rows that have instruction words of their own: not the events, and not the rows that an operand's value
chooses among the rows of one encoding (12 R306, R313, 15 R401, R402, 17 R429). -/
def Instr.hasWord : Instr → Bool
  | .nop _ => true
  | .add _ => true
  | .sub _ => true
  | .mul _ => true
  | .mulh _ => true
  | .mulhn _ => true
  | .div _ => true
  | .divn _ => true
  | .rem _ => true
  | .remn _ => true
  | .and _ => true
  | .or _ => true
  | .xor _ => true
  | .andn _ => true
  | .shl _ => true
  | .shr _ => true
  | .sra _ => true
  | .rot _ => true
  | .min _ => true
  | .max _ => true
  | .minn _ => true
  | .maxn _ => true
  | .slt _ => true
  | .sltn _ => true
  | .seq _ => true
  | .sel _ => true
  | .clz _ => true
  | .ctz _ => true
  | .popc _ => true
  | .bfx _ => true
  | .bfi _ => true
  | .addi _ => true
  | .andi _ => true
  | .ori _ => true
  | .xori _ => true
  | .shli _ => true
  | .shri _ => true
  | .srai _ => true
  | .ldc _ => true
  | .stc _ => true
  | .li _ => true
  | .lih _ => true
  | .addpc _ => true
  | .srd _ => true
  | .swt _ => true
  | .sendCa _ => true
  | .sendCv _ => true
  | .recvAc _ => true
  | .recvVc _ => true
  | .beq _ => true
  | .bne _ => true
  | .blt _ => true
  | .bge _ => true
  | .bltn _ => true
  | .bgen _ => true
  | .jmp _ => true
  | .call _ => true
  | .jmpLong _ => true
  | .callLong _ => true
  | .callr _ => true
  | .ret _ => true
  | .loop _ => true
  | .loopr _ => true
  | .loopm _ => true
  | .ldI8 _ => true
  | .ldN8 _ => true
  | .ldI16 _ => true
  | .ldN16 _ => true
  | .ldI32 _ => true
  | .ldN32 _ => true
  | .ld64 _ => true
  | .st8 _ => true
  | .st16 _ => true
  | .st32 _ => true
  | .st64 _ => true
  | .ldIndexed _ => true
  | .ldIndexedS _ => true
  | .stIndexed _ => true
  | .ldI8S _ => true
  | .ldN8S _ => true
  | .ldI16S _ => true
  | .ldN16S _ => true
  | .ldI32S _ => true
  | .ldN32S _ => true
  | .ld64S _ => true
  | .vld _ => true
  | .vldS _ => true
  | .vst _ => true
  | .vlds _ => true
  | .vldsS _ => true
  | .vldx _ => true
  | .vldxS _ => true
  | .vsts _ => true
  | .vstx _ => true
  | .adda _ => true
  | .suba _ => true
  | .mova _ => true
  | .sendAAc _ => true
  | .sendAAv _ => true
  | .recvACa _ => true
  | .recvAVa _ => true
  | .addai _ => true
  | .shla _ => true
  | .mulai _ => true
  | .lia _ => true
  | .spld _ => true
  | .spldVector _ => true
  | .spst _ => true
  | .spstVector _ => true
  | .lda _ => true
  | .stl _ => true
  | .fence _ => true
  | .aadd _ => true
  | .aand _ => true
  | .aor _ => true
  | .axor _ => true
  | .aswap _ => true
  | .acas _ => true
  | .amin _ => true
  | .amax _ => true
  | .aminn _ => true
  | .amaxn _ => true
  | .waita _ => true
  | .pfb _ => true
  | .chkp _ => true
  | .chkpQueue _ => true
  | .vadd _ => true
  | .vsub _ => true
  | .vmul _ => true
  | .vmin _ => true
  | .vmax _ => true
  | .vand _ => true
  | .vor _ => true
  | .vxor _ => true
  | .vmov _ => true
  | .vnot _ => true
  | .vabs _ => true
  | .vneg _ => true
  | .vaddK _ => true
  | .vsubK _ => true
  | .vmulK _ => true
  | .vminK _ => true
  | .vmaxK _ => true
  | .vshl _ => true
  | .vshr _ => true
  | .vsra _ => true
  | .vbcast _ => true
  | .vslup _ => true
  | .vsldn _ => true
  | .kli _ => true
  | .kadd _ => true
  | .kmov _ => true
  | .sendVVc _ => true
  | .sendVVa _ => true
  | .recvVCv _ => true
  | .recvVAv _ => true
  | .vcfg _ => true
  | .vaddLong _ => true
  | .vsubLong _ => true
  | .vmulLong _ => true
  | .vfma _ => true
  | .vfms _ => true
  | .vfnma _ => true
  | .vdiv _ => true
  | .vsqrt _ => true
  | .vrcp _ => true
  | .vrsq _ => true
  | .vminLong _ => true
  | .vmaxLong _ => true
  | .vabsLong _ => true
  | .vnegLong _ => true
  | .vcpys _ => true
  | .vandLong _ => true
  | .vorLong _ => true
  | .vxorLong _ => true
  | .vnotLong _ => true
  | .vshlLong _ => true
  | .vshrLong _ => true
  | .vsraLong _ => true
  | .vadds _ => true
  | .vsubs _ => true
  | .vcmp _ => true
  | .vsel _ => true
  | .vmop _ => true
  | .vcvt _ => true
  | .vqmax _ => true
  | .vqcvt _ => true
  | .vqcvtx _ => true
  | .vredsum _ => true
  | .vredmax _ => true
  | .vredmin _ => true
  | .vredamax _ => true
  | .vperm _ => true
  | .vslupLong _ => true
  | .vsldnLong _ => true
  | .vbcastLong _ => true
  | .viota _ => true
  | .vcompr _ => true
  | .vext _ => true
  | .vins _ => true
  | .vmovLong _ => true
  | .vtlu _ => true
  | .vtld _ => true
  | .spawn _ => true
  | .spawnl _ => true
  | .join _ => true
  | .tend _ => true
  | .yield _ => true
  | .galloc _ => true
  | .gfree _ => true
  | .greshape _ => true
  | .glease _ => true
  | .grel _ => true
  | .gfmt _ => true
  | .gmma _ => true
  | .gdrain _ => true
  | .gzero _ => true
  | .gsave _ => true
  | .grest _ => true
  | .gstat _ => true
  | .cpy _ => true
  | .cpyg _ => true
  | .cpys _ => true
  | .cpyr _ => true
  | .cwait _ => true
  | .ctest _ => true
  | .swait _ => true
  | .ssig _ => true
  | .sadd _ => true
  | .srdv _ => true
  | .bar _ => true
  | .bara _ => true
  | .barw _ => true
  | .elect _ => true
  | .fwrd _ => true
  | .fwstep _ => true
  | .fwstepFrw _ => true
  | .fwstepFwr _ => true
  | .fwseq _ => true
  | .fwgrad _ => true
  | .fwfade _ => true
  | .fwzero _ => true
  | .fwld _ => true
  | .fwst _ => true
  | .shnew _ => true
  | .shsnap _ => true
  | .shfork _ => true
  | .shavg _ => true
  | .shroll _ => true
  | .shmove _ => true
  | .shpin _ => true
  | .shfree _ => true
  | .shstat _ => true
  | .trap _ => true
  | .sysc _ => true
  | .brk _ => true
  | .eretResume _ => true
  | .eretEndTask _ => false
  | .eretHandlerEnd _ => false
  | .tlbi _ => true
  | .cwb _ => true
  | .cinv _ => true
  | .ppt _ => true
  | .dsetMerge _ => true
  | .dsetAdvance _ => false
  | .rlogStatus _ => true
  | .rlogRelease _ => false
  | .rlogClose _ => false
  | .mcackAck _ => true
  | .mcackRerun _ => false
  | .mcackEndLaunch _ => false
  | .jobctlRestart _ => false
  | .jobctlAbort _ => false
  | .engineDeadlock _ => false
  | .loadDataArrival _ _ _ => false
  | .pageWalkComplete _ _ _ => false
  | .cacheEviction _ _ => false
  | .waitaWake _ => false
  | .waitaTimeout _ => false
  | .prefetchComplete _ _ => false
  | .dequePop _ => false
  | .stealClaim _ _ => false
  | .stealTake _ => false
  | .taskStart _ => false
  | .completionRelease _ => false
  | .joinSpinExpiry _ => false
  | .taskResume _ => false
  | .notify _ _ _ => false
  | .packetCapture _ _ => false
  | .dispatchDecision _ => false
  | .batchDraw _ _ => false
  | .teamSliceExpiry _ _ => false
  | .levelChange _ _ => false
  | .launchEnd _ => false
  | .dieLost _ => false
  | .preemptionRequest _ _ => false
  | .checkpoint _ => false
  | .drainTimeout _ => false
  | .trapEntry _ => false
  | .asyncFaultDelivery _ => false
  | .handlerTimeout _ => false
  | .leaseGrant _ _ => false
  | .leaseRevocation _ _ => false
  | .jobWindowAccept _ => false
  | .griddleJobStart _ _ => false
  | .griddleJobComplete _ _ => false
  | .griddleJobHalt _ _ => false
  | .greshapeAct _ _ => false
  | .gfreeRelease _ _ => false
  | .colanderJobStart _ _ => false
  | .colanderChunkLand _ _ _ => false
  | .colanderJobComplete _ _ => false
  | .colanderJobHalt _ _ _ => false
  | .phaseWaitResume _ => false
  | .whiskAccept _ => false
  | .whiskJobStart _ => false
  | .whiskCommit _ => false
  | .whiskJobHalt _ => false
  | .ladlePageIn _ => false
  | .ladleEviction _ => false
  | .handleCommandAccept _ => false
  | .shnewAction _ => false
  | .shsnapAction _ => false
  | .shforkAction _ => false
  | .shavgAction _ => false
  | .shrollAction _ => false
  | .shmoveAction _ => false
  | .shpinAction _ => false
  | .shfreeAction _ => false
  | .handleMoveReceive _ => false
  | .handleMoveAck _ => false
  | .roundClose _ => false
  | .sfcTick _ => false
  | .stampOverrun _ => false
  | .replayDivergence _ _ => false
  | .hostCxlAccess _ => false
  | .backInvalidateResponse _ => false
  | .ingestFrameArrival _ _ => false
  | .ingestRecordWrite _ _ => false
  | .benvasPacketReceive _ _ _ => false
  | .benvasAckReceive _ _ => false
  | .benvasNakReceive _ _ => false
  | .ackTimer _ => false
  | .replayTimeout _ => false
  | .laneFailure _ _ => false
  | .linkRetrainComplete _ _ => false
  | .fullWidthRetry _ _ => false
  | .melperLaneLoss _ => false
  | .ucieLinkRetrain _ _ _ => false
  | .machineCheck _ => false
  | .mcAckTimeout _ _ => false
  | .refreshRow _ _ _ => false
  | .hbmOverTemperature _ _ => false
  | .hbmTemperatureRecovery _ _ => false
  | .spinelHeartbeat _ _ => false
  | .refreshTakeover _ _ _ => false
  | .spinelResume _ _ => false
  | .scrubRead _ _ _ => false
  | .scrubWriteBack _ _ => false
  | .plateRepair _ _ => false
  | .skilletSpareMap _ _ => false
  | .crockBankRemap _ _ => false
  | .postPackageRepair _ _ _ => false
  | .powerManagerStep _ => false
  | .thermalThrottle => false
  | .thermalRecovery => false
  | .thermalTrip => false
  | .coldReset => false
  | .updateStartTimeout _ => false
  | .hostTlbi _ => false
  | .layinv _ _ => false
  | .registerWrite _ _ => false
  | .mapq => false
  | .unmapq => false
  | .destroyq => false
  | .freeh => false
  | .ttreg => false
  | .window => false
  | .rdrep => false
  | .mcackh => false
  | .endl => false
  | .stream => false
  | .route => false
  | .inbound => false
  | .update => false
  | .attest => false
  | .ident => false
  | .hostSnoop _ _ _ => false
  | .launchClassification _ _ _ _ => false
  | .componentStart _ => false
  | .powerLoss => false

/-- The rows that are events of the device. -/
def Instr.isEvent : Instr → Bool
  | .nop _ => false
  | .add _ => false
  | .sub _ => false
  | .mul _ => false
  | .mulh _ => false
  | .mulhn _ => false
  | .div _ => false
  | .divn _ => false
  | .rem _ => false
  | .remn _ => false
  | .and _ => false
  | .or _ => false
  | .xor _ => false
  | .andn _ => false
  | .shl _ => false
  | .shr _ => false
  | .sra _ => false
  | .rot _ => false
  | .min _ => false
  | .max _ => false
  | .minn _ => false
  | .maxn _ => false
  | .slt _ => false
  | .sltn _ => false
  | .seq _ => false
  | .sel _ => false
  | .clz _ => false
  | .ctz _ => false
  | .popc _ => false
  | .bfx _ => false
  | .bfi _ => false
  | .addi _ => false
  | .andi _ => false
  | .ori _ => false
  | .xori _ => false
  | .shli _ => false
  | .shri _ => false
  | .srai _ => false
  | .ldc _ => false
  | .stc _ => false
  | .li _ => false
  | .lih _ => false
  | .addpc _ => false
  | .srd _ => false
  | .swt _ => false
  | .sendCa _ => false
  | .sendCv _ => false
  | .recvAc _ => false
  | .recvVc _ => false
  | .beq _ => false
  | .bne _ => false
  | .blt _ => false
  | .bge _ => false
  | .bltn _ => false
  | .bgen _ => false
  | .jmp _ => false
  | .call _ => false
  | .jmpLong _ => false
  | .callLong _ => false
  | .callr _ => false
  | .ret _ => false
  | .loop _ => false
  | .loopr _ => false
  | .loopm _ => false
  | .ldI8 _ => false
  | .ldN8 _ => false
  | .ldI16 _ => false
  | .ldN16 _ => false
  | .ldI32 _ => false
  | .ldN32 _ => false
  | .ld64 _ => false
  | .st8 _ => false
  | .st16 _ => false
  | .st32 _ => false
  | .st64 _ => false
  | .ldIndexed _ => false
  | .ldIndexedS _ => false
  | .stIndexed _ => false
  | .ldI8S _ => false
  | .ldN8S _ => false
  | .ldI16S _ => false
  | .ldN16S _ => false
  | .ldI32S _ => false
  | .ldN32S _ => false
  | .ld64S _ => false
  | .vld _ => false
  | .vldS _ => false
  | .vst _ => false
  | .vlds _ => false
  | .vldsS _ => false
  | .vldx _ => false
  | .vldxS _ => false
  | .vsts _ => false
  | .vstx _ => false
  | .adda _ => false
  | .suba _ => false
  | .mova _ => false
  | .sendAAc _ => false
  | .sendAAv _ => false
  | .recvACa _ => false
  | .recvAVa _ => false
  | .addai _ => false
  | .shla _ => false
  | .mulai _ => false
  | .lia _ => false
  | .spld _ => false
  | .spldVector _ => false
  | .spst _ => false
  | .spstVector _ => false
  | .lda _ => false
  | .stl _ => false
  | .fence _ => false
  | .aadd _ => false
  | .aand _ => false
  | .aor _ => false
  | .axor _ => false
  | .aswap _ => false
  | .acas _ => false
  | .amin _ => false
  | .amax _ => false
  | .aminn _ => false
  | .amaxn _ => false
  | .waita _ => false
  | .pfb _ => false
  | .chkp _ => false
  | .chkpQueue _ => false
  | .vadd _ => false
  | .vsub _ => false
  | .vmul _ => false
  | .vmin _ => false
  | .vmax _ => false
  | .vand _ => false
  | .vor _ => false
  | .vxor _ => false
  | .vmov _ => false
  | .vnot _ => false
  | .vabs _ => false
  | .vneg _ => false
  | .vaddK _ => false
  | .vsubK _ => false
  | .vmulK _ => false
  | .vminK _ => false
  | .vmaxK _ => false
  | .vshl _ => false
  | .vshr _ => false
  | .vsra _ => false
  | .vbcast _ => false
  | .vslup _ => false
  | .vsldn _ => false
  | .kli _ => false
  | .kadd _ => false
  | .kmov _ => false
  | .sendVVc _ => false
  | .sendVVa _ => false
  | .recvVCv _ => false
  | .recvVAv _ => false
  | .vcfg _ => false
  | .vaddLong _ => false
  | .vsubLong _ => false
  | .vmulLong _ => false
  | .vfma _ => false
  | .vfms _ => false
  | .vfnma _ => false
  | .vdiv _ => false
  | .vsqrt _ => false
  | .vrcp _ => false
  | .vrsq _ => false
  | .vminLong _ => false
  | .vmaxLong _ => false
  | .vabsLong _ => false
  | .vnegLong _ => false
  | .vcpys _ => false
  | .vandLong _ => false
  | .vorLong _ => false
  | .vxorLong _ => false
  | .vnotLong _ => false
  | .vshlLong _ => false
  | .vshrLong _ => false
  | .vsraLong _ => false
  | .vadds _ => false
  | .vsubs _ => false
  | .vcmp _ => false
  | .vsel _ => false
  | .vmop _ => false
  | .vcvt _ => false
  | .vqmax _ => false
  | .vqcvt _ => false
  | .vqcvtx _ => false
  | .vredsum _ => false
  | .vredmax _ => false
  | .vredmin _ => false
  | .vredamax _ => false
  | .vperm _ => false
  | .vslupLong _ => false
  | .vsldnLong _ => false
  | .vbcastLong _ => false
  | .viota _ => false
  | .vcompr _ => false
  | .vext _ => false
  | .vins _ => false
  | .vmovLong _ => false
  | .vtlu _ => false
  | .vtld _ => false
  | .spawn _ => false
  | .spawnl _ => false
  | .join _ => false
  | .tend _ => false
  | .yield _ => false
  | .galloc _ => false
  | .gfree _ => false
  | .greshape _ => false
  | .glease _ => false
  | .grel _ => false
  | .gfmt _ => false
  | .gmma _ => false
  | .gdrain _ => false
  | .gzero _ => false
  | .gsave _ => false
  | .grest _ => false
  | .gstat _ => false
  | .cpy _ => false
  | .cpyg _ => false
  | .cpys _ => false
  | .cpyr _ => false
  | .cwait _ => false
  | .ctest _ => false
  | .swait _ => false
  | .ssig _ => false
  | .sadd _ => false
  | .srdv _ => false
  | .bar _ => false
  | .bara _ => false
  | .barw _ => false
  | .elect _ => false
  | .fwrd _ => false
  | .fwstep _ => false
  | .fwstepFrw _ => false
  | .fwstepFwr _ => false
  | .fwseq _ => false
  | .fwgrad _ => false
  | .fwfade _ => false
  | .fwzero _ => false
  | .fwld _ => false
  | .fwst _ => false
  | .shnew _ => false
  | .shsnap _ => false
  | .shfork _ => false
  | .shavg _ => false
  | .shroll _ => false
  | .shmove _ => false
  | .shpin _ => false
  | .shfree _ => false
  | .shstat _ => false
  | .trap _ => false
  | .sysc _ => false
  | .brk _ => false
  | .eretResume _ => false
  | .eretEndTask _ => false
  | .eretHandlerEnd _ => false
  | .tlbi _ => false
  | .cwb _ => false
  | .cinv _ => false
  | .ppt _ => false
  | .dsetMerge _ => false
  | .dsetAdvance _ => false
  | .rlogStatus _ => false
  | .rlogRelease _ => false
  | .rlogClose _ => false
  | .mcackAck _ => false
  | .mcackRerun _ => false
  | .mcackEndLaunch _ => false
  | .jobctlRestart _ => false
  | .jobctlAbort _ => false
  | .engineDeadlock _ => true
  | .loadDataArrival _ _ _ => true
  | .pageWalkComplete _ _ _ => true
  | .cacheEviction _ _ => true
  | .waitaWake _ => true
  | .waitaTimeout _ => true
  | .prefetchComplete _ _ => true
  | .dequePop _ => true
  | .stealClaim _ _ => true
  | .stealTake _ => true
  | .taskStart _ => true
  | .completionRelease _ => true
  | .joinSpinExpiry _ => true
  | .taskResume _ => true
  | .notify _ _ _ => true
  | .packetCapture _ _ => true
  | .dispatchDecision _ => true
  | .batchDraw _ _ => true
  | .teamSliceExpiry _ _ => true
  | .levelChange _ _ => true
  | .launchEnd _ => true
  | .dieLost _ => true
  | .preemptionRequest _ _ => true
  | .checkpoint _ => true
  | .drainTimeout _ => true
  | .trapEntry _ => true
  | .asyncFaultDelivery _ => true
  | .handlerTimeout _ => true
  | .leaseGrant _ _ => true
  | .leaseRevocation _ _ => true
  | .jobWindowAccept _ => true
  | .griddleJobStart _ _ => true
  | .griddleJobComplete _ _ => true
  | .griddleJobHalt _ _ => true
  | .greshapeAct _ _ => true
  | .gfreeRelease _ _ => true
  | .colanderJobStart _ _ => true
  | .colanderChunkLand _ _ _ => true
  | .colanderJobComplete _ _ => true
  | .colanderJobHalt _ _ _ => true
  | .phaseWaitResume _ => true
  | .whiskAccept _ => true
  | .whiskJobStart _ => true
  | .whiskCommit _ => true
  | .whiskJobHalt _ => true
  | .ladlePageIn _ => true
  | .ladleEviction _ => true
  | .handleCommandAccept _ => true
  | .shnewAction _ => true
  | .shsnapAction _ => true
  | .shforkAction _ => true
  | .shavgAction _ => true
  | .shrollAction _ => true
  | .shmoveAction _ => true
  | .shpinAction _ => true
  | .shfreeAction _ => true
  | .handleMoveReceive _ => true
  | .handleMoveAck _ => true
  | .roundClose _ => true
  | .sfcTick _ => true
  | .stampOverrun _ => true
  | .replayDivergence _ _ => true
  | .hostCxlAccess _ => true
  | .backInvalidateResponse _ => true
  | .ingestFrameArrival _ _ => true
  | .ingestRecordWrite _ _ => true
  | .benvasPacketReceive _ _ _ => true
  | .benvasAckReceive _ _ => true
  | .benvasNakReceive _ _ => true
  | .ackTimer _ => true
  | .replayTimeout _ => true
  | .laneFailure _ _ => true
  | .linkRetrainComplete _ _ => true
  | .fullWidthRetry _ _ => true
  | .melperLaneLoss _ => true
  | .ucieLinkRetrain _ _ _ => true
  | .machineCheck _ => true
  | .mcAckTimeout _ _ => true
  | .refreshRow _ _ _ => true
  | .hbmOverTemperature _ _ => true
  | .hbmTemperatureRecovery _ _ => true
  | .spinelHeartbeat _ _ => true
  | .refreshTakeover _ _ _ => true
  | .spinelResume _ _ => true
  | .scrubRead _ _ _ => true
  | .scrubWriteBack _ _ => true
  | .plateRepair _ _ => true
  | .skilletSpareMap _ _ => true
  | .crockBankRemap _ _ => true
  | .postPackageRepair _ _ _ => true
  | .powerManagerStep _ => true
  | .thermalThrottle => true
  | .thermalRecovery => true
  | .thermalTrip => true
  | .coldReset => true
  | .updateStartTimeout _ => true
  | .hostTlbi _ => true
  | .layinv _ _ => true
  | .registerWrite _ _ => true
  | .mapq => true
  | .unmapq => true
  | .destroyq => true
  | .freeh => true
  | .ttreg => true
  | .window => true
  | .rdrep => true
  | .mcackh => true
  | .endl => true
  | .stream => true
  | .route => true
  | .inbound => true
  | .update => true
  | .attest => true
  | .ident => true
  | .hostSnoop _ _ _ => true
  | .launchClassification _ _ _ _ => true
  | .componentStart _ => true
  | .powerLoss => true

end Sys2Proof
end

