-- ==== Sys2Proof/Decode.lean ====
section
/-! DEFINITION. The decoder, total on any words and bytes, and the encoder (01 R13 to R15, R31 to R34, 02 R43 to
R52). The decoder first finds the row that tag, major opcode and function assign, then refuses a word whose
reserved or unused fields are not zero. -/

namespace Sys2Proof

/-- Why bytes are not an instruction. -/
inductive DecodeError where
  | short          -- fewer bytes than the word or pair of words takes
  | unassigned     -- tag, major opcode and function name no row (02 R43)
  | reservedField  -- a reserved or unused field is not zero, or an operand is not accepted (01 R15)
  deriving DecidableEq, Repr

/-- The engine tag `<31:30>` (01 R13). -/
def tagOf (w : Word32) : BitVec 2 := w.extractLsb' 30 2

/-- The major opcode `<29:24>` (01 R13). -/
def majorOf (w : Word32) : BitVec 6 := w.extractLsb' 24 6

/-- The token field `<23:20>` (01 R22). -/
def tokOf (w : Word32) : BitVec 4 := w.extractLsb' 20 4

/-- Whether a word is the first of a long form (01 R14). -/
def isLong (w : Word32) : Bool := majorOf w == 0x3f

/-- The word length in bytes (01 R14, R16). -/
def lenOf (w : Word32) : Nat := if isLong w then 8 else 4

def unpackCR (w : Word32) : CR := ⟨tokOf w, w.extractLsb' 14 6, w.extractLsb' 8 6, w.extractLsb' 2 6⟩
def unpackCI (w : Word32) : CI := ⟨tokOf w, w.extractLsb' 14 6, w.extractLsb' 8 6, w.extractLsb' 0 8⟩
def unpackCU (w : Word32) : CU := ⟨tokOf w, w.extractLsb' 14 6, w.extractLsb' 0 14⟩
def unpackCK (w : Word32) : CK := ⟨tokOf w, w.extractLsb' 14 6, w.extractLsb' 2 12⟩
def unpackL (w0 w1 : Word32) : LW :=
  ⟨tokOf w0, w0.extractLsb' 14 6, w0.extractLsb' 8 6, w0.extractLsb' 2 6, w1.extractLsb' 0 16⟩
def unpackAR (w : Word32) : AR := ⟨tokOf w, w.extractLsb' 15 5, w.extractLsb' 10 5, w.extractLsb' 5 5⟩
def unpackAI (w : Word32) : AI := ⟨tokOf w, w.extractLsb' 15 5, w.extractLsb' 10 5, w.extractLsb' 0 10⟩
def unpackAU (w : Word32) : AU := ⟨tokOf w, w.extractLsb' 15 5, w.extractLsb' 0 15⟩
def unpackAM (w : Word32) : AM := ⟨tokOf w, w.extractLsb' 15 5, w.extractLsb' 10 5, w.extractLsb' 0 10⟩
def unpackAX (w : Word32) : AX :=
  ⟨tokOf w, w.extractLsb' 15 5, w.extractLsb' 10 5, w.extractLsb' 5 5, w.extractLsb' 0 4⟩
def unpackVR (w : Word32) : VR := ⟨tokOf w, w.extractLsb' 14 6, w.extractLsb' 8 6, w.extractLsb' 2 6⟩
def unpackVK (w : Word32) : VK := ⟨tokOf w, w.extractLsb' 14 6, w.extractLsb' 8 6, w.extractLsb' 4 4⟩
def unpackVI (w : Word32) : VI := ⟨tokOf w, w.extractLsb' 16 4, w.extractLsb' 0 16⟩
def unpackVL (w0 w1 : Word32) : VL :=
  ⟨tokOf w0, w0.extractLsb' 6 6, w0.extractLsb' 0 6, w1.extractLsb' 26 6, w1.extractLsb' 20 6,
   w1.extractLsb' 17 3, w1.getLsbD 16, w1.extractLsb' 12 4, w1.extractLsb' 9 3, w1.extractLsb' 4 5,
   w1.getLsbD 3, w1.extractLsb' 0 3⟩
def unpackSB (w : Word32) : SB := ⟨w.extractLsb' 18 6, w.extractLsb' 12 6, w.extractLsb' 0 12⟩
def unpackSJ (w : Word32) : SJ := ⟨w.extractLsb' 0 24⟩
def unpackSL (w : Word32) : SL := ⟨w.extractLsb' 12 12, w.extractLsb' 0 12⟩
def unpackSX (w0 w1 : Word32) : SX := ⟨w0.extractLsb' 0 24 ++ w1.extractLsb' 2 30⟩


/-- C.R groups (02 R45). -/
def rowCR (maj : BitVec 6) (fn : BitVec 2) (f : CR) : Option Instr :=
  match maj, fn with
  | 0x02#6, 0x00#2 => some (.add f)
  | 0x02#6, 0x01#2 => some (.sub f)
  | 0x02#6, 0x02#2 => some (.mul f)
  | 0x02#6, 0x03#2 => some (.mulh f)
  | 0x03#6, 0x00#2 => some (.mulhn f)
  | 0x03#6, 0x01#2 => some (.div f)
  | 0x03#6, 0x02#2 => some (.divn f)
  | 0x03#6, 0x03#2 => some (.rem f)
  | 0x04#6, 0x00#2 => some (.remn f)
  | 0x04#6, 0x01#2 => some (.and f)
  | 0x04#6, 0x02#2 => some (.or f)
  | 0x04#6, 0x03#2 => some (.xor f)
  | 0x05#6, 0x00#2 => some (.andn f)
  | 0x05#6, 0x01#2 => some (.shl f)
  | 0x05#6, 0x02#2 => some (.shr f)
  | 0x05#6, 0x03#2 => some (.sra f)
  | 0x06#6, 0x00#2 => some (.rot f)
  | 0x06#6, 0x01#2 => some (.min f)
  | 0x06#6, 0x02#2 => some (.max f)
  | 0x06#6, 0x03#2 => some (.minn f)
  | 0x07#6, 0x00#2 => some (.maxn f)
  | 0x07#6, 0x01#2 => some (.slt f)
  | 0x07#6, 0x02#2 => some (.sltn f)
  | 0x07#6, 0x03#2 => some (.seq f)
  | 0x08#6, 0x00#2 => some (.sel f)
  | 0x08#6, 0x01#2 => some (.clz f)
  | 0x08#6, 0x02#2 => some (.ctz f)
  | 0x08#6, 0x03#2 => some (.popc f)
  | 0x09#6, 0x00#2 => some (.bfx f)
  | 0x09#6, 0x01#2 => some (.bfi f)
  | 0x1e#6, 0x01#2 => some (.sendCa f)
  | 0x1e#6, 0x02#2 => some (.sendCv f)
  | 0x1f#6, 0x01#2 => some (.recvAc f)
  | 0x1f#6, 0x02#2 => some (.recvVc f)
  | _, _ => none

/-- C.I majors (02 R45). -/
def rowCI (maj : BitVec 6) (f : CI) : Option Instr :=
  match maj with
  | 0x10#6 => some (.addi f)
  | 0x11#6 => some (.andi f)
  | 0x12#6 => some (.ori f)
  | 0x13#6 => some (.xori f)
  | 0x14#6 => some (.shli f)
  | 0x15#6 => some (.shri f)
  | 0x16#6 => some (.srai f)
  | 0x17#6 => some (.ldc f)
  | 0x18#6 => some (.stc f)
  | _ => none

/-- C.U majors (02 R45). -/
def rowCU (maj : BitVec 6) (f : CU) : Option Instr :=
  match maj with
  | 0x01#6 => some (.nop f)
  | 0x19#6 => some (.li f)
  | 0x1a#6 => some (.lih f)
  | 0x1b#6 => some (.addpc f)
  | _ => none

/-- C.K majors (02 R45). -/
def rowCK (maj : BitVec 6) (f : CK) : Option Instr :=
  match maj with
  | 0x1c#6 => some (.srd f)
  | 0x1d#6 => some (.swt f)
  | _ => none

/-! Long-form commands of VAR 0 by CLASS and OP (01 R34, 02 R51). -/

/-- Class 0x01. -/
noncomputable def rowL1 (op : BitVec 8) (f : LW) : Option Instr :=
  match op with
  | 0x01#8 => some (.spawn f)
  | 0x02#8 => some (.spawnl f)
  | 0x03#8 => some (.join f)
  | 0x04#8 => some (.tend f)
  | 0x05#8 => some (.yield f)
  | _ => none

/-- Class 0x02. -/
noncomputable def rowL2 (op : BitVec 8) (f : LW) : Option Instr :=
  match op with
  | 0x01#8 => some (.galloc f)
  | 0x02#8 => some (.gfree f)
  | 0x03#8 => some (.greshape f)
  | 0x04#8 => some (.glease f)
  | 0x05#8 => some (.grel f)
  | 0x06#8 => some (.gfmt f)
  | 0x07#8 => some (.gmma f)
  | 0x08#8 => some (.gdrain f)
  | 0x09#8 => some (.gzero f)
  | 0x0a#8 => some (.gsave f)
  | 0x0b#8 => some (.grest f)
  | 0x0c#8 => some (.gstat f)
  | _ => none

/-- Class 0x03. -/
noncomputable def rowL3 (op : BitVec 8) (f : LW) : Option Instr :=
  match op with
  | 0x01#8 => some (.cpy f)
  | 0x02#8 => some (.cpyg f)
  | 0x03#8 => some (.cpys f)
  | 0x04#8 => some (.cpyr f)
  | 0x05#8 => some (.cwait f)
  | 0x06#8 => some (.ctest f)
  | _ => none

/-- Class 0x04. -/
noncomputable def rowL4 (op : BitVec 8) (f : LW) : Option Instr :=
  match op with
  | 0x01#8 => some (.swait f)
  | 0x02#8 => some (.ssig f)
  | 0x03#8 => some (.sadd f)
  | 0x04#8 => some (.srdv f)
  | 0x05#8 => some (.bar f)
  | 0x06#8 => some (.bara f)
  | 0x07#8 => some (.barw f)
  | 0x08#8 => some (.elect f)
  | _ => none

/-- Class 0x05. -/
noncomputable def rowL5 (op : BitVec 8) (f : LW) : Option Instr :=
  match op with
  | 0x01#8 => some (.fwrd f)
  | 0x02#8 => some (.fwstep f)
  | 0x03#8 => some (.fwseq f)
  | 0x04#8 => some (.fwgrad f)
  | 0x05#8 => some (.fwfade f)
  | 0x06#8 => some (.fwzero f)
  | 0x07#8 => some (.fwld f)
  | 0x08#8 => some (.fwst f)
  | _ => none

/-- Class 0x06. -/
noncomputable def rowL6 (op : BitVec 8) (f : LW) : Option Instr :=
  match op with
  | 0x01#8 => some (.shnew f)
  | 0x02#8 => some (.shsnap f)
  | 0x03#8 => some (.shfork f)
  | 0x04#8 => some (.shavg f)
  | 0x05#8 => some (.shroll f)
  | 0x06#8 => some (.shmove f)
  | 0x07#8 => some (.shpin f)
  | 0x08#8 => some (.shfree f)
  | 0x09#8 => some (.shstat f)
  | _ => none

/-- Class 0x07. -/
noncomputable def rowL7 (op : BitVec 8) (f : LW) : Option Instr :=
  match op with
  | 0x01#8 => some (.trap f)
  | 0x02#8 => some (.eretResume f)
  | 0x03#8 => some (.sysc f)
  | 0x04#8 => some (.tlbi f)
  | 0x05#8 => some (.cwb f)
  | 0x06#8 => some (.cinv f)
  | 0x07#8 => some (.ppt f)
  | 0x08#8 => some (.brk f)
  | _ => none

/-- Class 0x08. -/
noncomputable def rowL8 (op : BitVec 8) (f : LW) : Option Instr :=
  match op with
  | 0x01#8 => some (.dsetMerge f)
  | 0x02#8 => some (.rlogStatus f)
  | _ => none

/-- Class 0x09. -/
noncomputable def rowL9 (op : BitVec 8) (f : LW) : Option Instr :=
  match op with
  | 0x01#8 => some (.mcackAck f)
  | _ => none

/-- FWSTEP's other two orders: VAR 1 and 2 (02 R51). -/
noncomputable def rowLVar (var : BitVec 2) (f : LW) : Option Instr :=
  match var with
  | 0x01#2 => some (.fwstepFrw f)
  | 0x02#2 => some (.fwstepFwr f)
  | _ => none

/-- Long-form commands by CLASS, VAR and OP (01 R34, 02 R51). -/
noncomputable def rowL (cl : BitVec 6) (var : BitVec 2) (op : BitVec 8) (f : LW) : Option Instr :=
  if var == 0 then
    match cl with
    | 0x01#6 => rowL1 op f
    | 0x02#6 => rowL2 op f
    | 0x03#6 => rowL3 op f
    | 0x04#6 => rowL4 op f
    | 0x05#6 => rowL5 op f
    | 0x06#6 => rowL6 op f
    | 0x07#6 => rowL7 op f
    | 0x08#6 => rowL8 op f
    | 0x09#6 => rowL9 op f
    | _ => none
  else if cl == 0x05 && op == 0x02 then rowLVar var f
  else none

/-- S.B majors (02 R46). -/
def rowSB (maj : BitVec 6) (f : SB) : Option Instr :=
  match maj with
  | 0x01#6 => some (.beq f)
  | 0x02#6 => some (.bne f)
  | 0x03#6 => some (.blt f)
  | 0x04#6 => some (.bge f)
  | 0x05#6 => some (.bltn f)
  | 0x06#6 => some (.bgen f)
  | 0x0a#6 => some (.callr f)
  | 0x0b#6 => some (.ret f)
  | _ => none

/-- S.J majors (02 R46). -/
def rowSJ (maj : BitVec 6) (f : SJ) : Option Instr :=
  match maj with
  | 0x08#6 => some (.jmp f)
  | 0x09#6 => some (.call f)
  | _ => none

/-- S.L majors (02 R46). -/
def rowSL (maj : BitVec 6) (f : SL) : Option Instr :=
  match maj with
  | 0x0c#6 => some (.loop f)
  | 0x0d#6 => some (.loopr f)
  | 0x0e#6 => some (.loopm f)
  | _ => none

/-- S.X by LK (02 R46). -/
def rowSX (lk : BitVec 2) (f : SX) : Option Instr :=
  match lk with
  | 0x00#2 => some (.jmpLong f)
  | 0x01#2 => some (.callLong f)
  | _ => none

/-- A.M majors (02 R47). -/
def rowAM (maj : BitVec 6) (f : AM) : Option Instr :=
  match maj with
  | 0x01#6 => some (.ldI8 f)
  | 0x02#6 => some (.ldN8 f)
  | 0x03#6 => some (.ldI16 f)
  | 0x04#6 => some (.ldN16 f)
  | 0x05#6 => some (.ldI32 f)
  | 0x06#6 => some (.ldN32 f)
  | 0x07#6 => some (.ld64 f)
  | 0x08#6 => some (.st8 f)
  | 0x09#6 => some (.st16 f)
  | 0x0a#6 => some (.st32 f)
  | 0x0b#6 => some (.st64 f)
  | 0x11#6 => some (.ldI8S f)
  | 0x12#6 => some (.ldN8S f)
  | 0x13#6 => some (.ldI16S f)
  | 0x14#6 => some (.ldN16S f)
  | 0x15#6 => some (.ldI32S f)
  | 0x16#6 => some (.ldN32S f)
  | 0x17#6 => some (.ld64S f)
  | 0x18#6 => some (.vld f)
  | 0x19#6 => some (.vldS f)
  | 0x1a#6 => some (.vst f)
  | _ => none

/-- A.X majors with FN `<4>` (02 R47). -/
def rowAX (maj : BitVec 6) (sp : BitVec 1) (f : AX) : Option Instr :=
  match maj, sp with
  | 0x0c#6, 0x00#1 => some (.ldIndexed f)
  | 0x0c#6, 0x01#1 => some (.ldIndexedS f)
  | 0x0d#6, 0x00#1 => some (.stIndexed f)
  | 0x1b#6, 0x00#1 => some (.vlds f)
  | 0x1b#6, 0x01#1 => some (.vldsS f)
  | 0x1c#6, 0x00#1 => some (.vldx f)
  | 0x1c#6, 0x01#1 => some (.vldxS f)
  | 0x1d#6, 0x00#1 => some (.vsts f)
  | 0x1e#6, 0x00#1 => some (.vstx f)
  | _, _ => none

/-- A.R groups (02 R47). -/
def rowAR (maj : BitVec 6) (fn : BitVec 5) (f : AR) : Option Instr :=
  match maj, fn with
  | 0x30#6, 0x00#5 => some (.adda f)
  | 0x30#6, 0x01#5 => some (.suba f)
  | 0x30#6, 0x02#5 => some (.mova f)
  | 0x31#6, 0x01#5 => some (.sendAAc f)
  | 0x31#6, 0x02#5 => some (.sendAAv f)
  | 0x32#6, 0x01#5 => some (.recvACa f)
  | 0x32#6, 0x02#5 => some (.recvAVa f)
  | _, _ => none

/-- A.I majors (02 R47). -/
def rowAI (maj : BitVec 6) (f : AI) : Option Instr :=
  match maj with
  | 0x33#6 => some (.addai f)
  | 0x34#6 => some (.shla f)
  | 0x35#6 => some (.mulai f)
  | _ => none

/-- A.U majors (02 R47). -/
def rowAU (maj : BitVec 6) (f : AU) : Option Instr :=
  match maj with
  | 0x36#6 => some (.lia f)
  | _ => none

/-- A.L words by XOP (02 R48); the pairs that come in two widths take the width from XOP bit 0, and the two rows
of SPLD, SPST and CHKP are told apart by QS (05 R120, R124). -/
def rowAL (xop : BitVec 8) (f : AL) : Option Instr :=
  match xop with
  | 0x01#8 => some (if f.qs == 0 then .spld f else .spldVector f)
  | 0x02#8 => some (if f.qs == 0 then .spst f else .spstVector f)
  | 0x08#8 => some (.lda f)
  | 0x09#8 => some (.lda f)
  | 0x0a#8 => some (.stl f)
  | 0x0b#8 => some (.stl f)
  | 0x0c#8 => some (.fence f)
  | 0x30#8 => some (.waita f)
  | 0x31#8 => some (.pfb f)
  | 0x32#8 => some (if f.qs == 0 then .chkp f else .chkpQueue f)
  | 0x10#8 => some (.aadd f)
  | 0x11#8 => some (.aadd f)
  | 0x12#8 => some (.aand f)
  | 0x13#8 => some (.aand f)
  | 0x14#8 => some (.aor f)
  | 0x15#8 => some (.aor f)
  | 0x16#8 => some (.axor f)
  | 0x17#8 => some (.axor f)
  | 0x18#8 => some (.aswap f)
  | 0x19#8 => some (.aswap f)
  | 0x1a#8 => some (.acas f)
  | 0x1b#8 => some (.acas f)
  | 0x1c#8 => some (.amin f)
  | 0x1d#8 => some (.amin f)
  | 0x1e#8 => some (.amax f)
  | 0x1f#8 => some (.amax f)
  | 0x20#8 => some (.aminn f)
  | 0x21#8 => some (.aminn f)
  | 0x22#8 => some (.amaxn f)
  | 0x23#8 => some (.amaxn f)
  | _ => none

/-- Whether an XOP is one of the pairs whose bit 0 is the width (02 R48). -/
def xopWide (xop : BitVec 8) : Bool :=
  (decide (0x08 ≤ xop) && decide (xop < 0x0C)) || (decide (0x10 ≤ xop) && decide (xop < 0x24))

/-- V.R groups (02 R49). -/
def rowVR (maj : BitVec 6) (fn : BitVec 2) (f : VR) : Option Instr :=
  match maj, fn with
  | 0x01#6, 0x00#2 => some (.vadd f)
  | 0x01#6, 0x01#2 => some (.vsub f)
  | 0x01#6, 0x02#2 => some (.vmul f)
  | 0x01#6, 0x03#2 => some (.vmin f)
  | 0x02#6, 0x00#2 => some (.vmax f)
  | 0x02#6, 0x01#2 => some (.vand f)
  | 0x02#6, 0x02#2 => some (.vor f)
  | 0x02#6, 0x03#2 => some (.vxor f)
  | 0x03#6, 0x00#2 => some (.vmov f)
  | 0x03#6, 0x01#2 => some (.vnot f)
  | 0x03#6, 0x02#2 => some (.vabs f)
  | 0x03#6, 0x03#2 => some (.vneg f)
  | 0x06#6, 0x00#2 => some (.kadd f)
  | 0x06#6, 0x01#2 => some (.kmov f)
  | 0x07#6, 0x01#2 => some (.sendVVc f)
  | 0x07#6, 0x02#2 => some (.sendVVa f)
  | 0x08#6, 0x01#2 => some (.recvVCv f)
  | 0x08#6, 0x02#2 => some (.recvVAv f)
  | _, _ => none

/-- V.K functions of major 0x04 (02 R49). -/
def rowVK (fn : BitVec 4) (f : VK) : Option Instr :=
  match fn with
  | 0x00#4 => some (.vaddK f)
  | 0x01#4 => some (.vsubK f)
  | 0x02#4 => some (.vmulK f)
  | 0x03#4 => some (.vminK f)
  | 0x04#4 => some (.vmaxK f)
  | 0x05#4 => some (.vshl f)
  | 0x06#4 => some (.vshr f)
  | 0x07#4 => some (.vsra f)
  | 0x08#4 => some (.vbcast f)
  | 0x09#4 => some (.vslup f)
  | 0x0a#4 => some (.vsldn f)
  | _ => none

/-- V.L words by XOP (02 R50). -/
def rowVL (xop : BitVec 8) (f : VL) : Option Instr :=
  match xop with
  | 0x01#8 => some (.vcfg f)
  | 0x10#8 => some (.vaddLong f)
  | 0x11#8 => some (.vsubLong f)
  | 0x12#8 => some (.vmulLong f)
  | 0x13#8 => some (.vfma f)
  | 0x14#8 => some (.vfms f)
  | 0x15#8 => some (.vfnma f)
  | 0x16#8 => some (.vdiv f)
  | 0x17#8 => some (.vsqrt f)
  | 0x18#8 => some (.vrcp f)
  | 0x19#8 => some (.vrsq f)
  | 0x1a#8 => some (.vminLong f)
  | 0x1b#8 => some (.vmaxLong f)
  | 0x1c#8 => some (.vabsLong f)
  | 0x1d#8 => some (.vnegLong f)
  | 0x1e#8 => some (.vcpys f)
  | 0x20#8 => some (.vandLong f)
  | 0x21#8 => some (.vorLong f)
  | 0x22#8 => some (.vxorLong f)
  | 0x23#8 => some (.vnotLong f)
  | 0x24#8 => some (.vshlLong f)
  | 0x25#8 => some (.vshrLong f)
  | 0x26#8 => some (.vsraLong f)
  | 0x27#8 => some (.vadds f)
  | 0x28#8 => some (.vsubs f)
  | 0x30#8 => some (.vcmp f)
  | 0x31#8 => some (.vsel f)
  | 0x32#8 => some (.vmop f)
  | 0x38#8 => some (.vcvt f)
  | 0x39#8 => some (.vqmax f)
  | 0x3a#8 => some (.vqcvt f)
  | 0x3b#8 => some (.vqcvtx f)
  | 0x40#8 => some (.vredsum f)
  | 0x41#8 => some (.vredmax f)
  | 0x42#8 => some (.vredmin f)
  | 0x43#8 => some (.vredamax f)
  | 0x48#8 => some (.vperm f)
  | 0x49#8 => some (.vslupLong f)
  | 0x4a#8 => some (.vsldnLong f)
  | 0x4b#8 => some (.vbcastLong f)
  | 0x4c#8 => some (.viota f)
  | 0x4d#8 => some (.vcompr f)
  | 0x4e#8 => some (.vext f)
  | 0x4f#8 => some (.vins f)
  | 0x50#8 => some (.vmovLong f)
  | 0x58#8 => some (.vtlu f)
  | 0x59#8 => some (.vtld f)
  | _ => none

/-- A.L fields; the width bit is read only where XOP has one. -/
def unpackAL (w0 w1 : Word32) : AL :=
  ⟨tokOf w0, xopWide (w0.extractLsb' 12 8) && w0.getLsbD 12, w0.extractLsb' 7 5, w0.extractLsb' 2 5,
   w1.extractLsb' 27 5, w1.extractLsb' 22 5, w1.extractLsb' 20 2, w1.getLsbD 19, w1.extractLsb' 16 3,
   w1.extractLsb' 0 16⟩

/-- C-tagged words (02 R45, R51). -/
noncomputable def decodeC (w0 w1 : Word32) : Option Instr :=
  if isLong w0 then
    if w0.extractLsb' 0 2 == 0 then
      rowL (w1.extractLsb' 26 6) (w1.extractLsb' 24 2) (w1.extractLsb' 16 8) (unpackL w0 w1)
    else none
  else
    match rowCR (majorOf w0) (w0.extractLsb' 0 2) (unpackCR w0) with
    | some i => some i
    | none =>
    match rowCI (majorOf w0) (unpackCI w0) with
    | some i => some i
    | none =>
    match rowCU (majorOf w0) (unpackCU w0) with
    | some i => some i
    | none => if w0.extractLsb' 0 2 == 0 then rowCK (majorOf w0) (unpackCK w0) else none

/-- A-tagged words (02 R47, R48). -/
def decodeA (w0 w1 : Word32) : Option Instr :=
  if isLong w0 then
    if w0.extractLsb' 0 2 == 0 then rowAL (w0.extractLsb' 12 8) (unpackAL w0 w1) else none
  else
    match rowAM (majorOf w0) (unpackAM w0) with
    | some i => some i
    | none =>
    match rowAX (majorOf w0) (w0.extractLsb' 4 1) (unpackAX w0) with
    | some i => some i
    | none =>
    match rowAR (majorOf w0) (w0.extractLsb' 0 5) (unpackAR w0) with
    | some i => some i
    | none =>
    match rowAI (majorOf w0) (unpackAI w0) with
    | some i => some i
    | none => rowAU (majorOf w0) (unpackAU w0)

/-- V-tagged words (02 R49, R50). -/
def decodeV (w0 w1 : Word32) : Option Instr :=
  if isLong w0 then rowVL (w0.extractLsb' 12 8) (unpackVL w0 w1)
  else if majorOf w0 == 0x04 then rowVK (w0.extractLsb' 0 4) (unpackVK w0)
  else if majorOf w0 == 0x05 then some (.kli (unpackVI w0))
  else rowVR (majorOf w0) (w0.extractLsb' 0 2) (unpackVR w0)

/-- S-tagged words (02 R46). -/
def decodeS (w0 w1 : Word32) : Option Instr :=
  if isLong w0 then rowSX (w1.extractLsb' 0 2) (unpackSX w0 w1)
  else
    match rowSB (majorOf w0) (unpackSB w0) with
    | some i => some i
    | none =>
    match rowSJ (majorOf w0) (unpackSJ w0) with
    | some i => some i
    | none => rowSL (majorOf w0) (unpackSL w0)

/-- The row that tag, major opcode and function assign. `w1` is read only by a long form. -/
noncomputable def decodeRow (w0 w1 : Word32) : Option Instr :=
  match tagOf w0 with
  | 0#2 => decodeC w0 w1
  | 1#2 => decodeA w0 w1
  | 2#2 => decodeV w0 w1
  | _ => decodeS w0 w1

/-- The instruction of one word, or of the two words of a long form. -/
noncomputable def decodeWords (w0 w1 : Word32) : Except DecodeError Instr :=
  match decodeRow w0 w1 with
  | none => .error .unassigned
  | some i => if i.wellFormed then .ok i else .error .reservedField

/-- A little-endian word (00 R6). -/
def wordOfBytes (b0 b1 b2 b3 : Byte) : Word32 := b3 ++ b2 ++ b1 ++ b0

/-- The instruction at the head of `bs`, and the bytes after it. -/
noncomputable def decodeBytes : List Byte → Except DecodeError (Instr × List Byte)
  | b0 :: b1 :: b2 :: b3 :: r =>
    let w0 := wordOfBytes b0 b1 b2 b3
    if isLong w0 then
      match r with
      | c0 :: c1 :: c2 :: c3 :: r' => (decodeWords w0 (wordOfBytes c0 c1 c2 c3)).map (fun i => (i, r'))
      | _ => .error .short
    else (decodeWords w0 0).map (fun i => (i, r))
  | _ => .error .short

/-- The TEND word pair, whatever its token and register fields, with RSVD zero (02 R52). -/
def isTendPair (w0 w1 : Word32) : Bool :=
  tagOf w0 == 0 && isLong w0 && w0.extractLsb' 0 2 == 0 && w1.extractLsb' 26 6 == 0x01 && w1.extractLsb' 16 10 == 0x004

/-- The ERET word pair (12 R311, R313). -/
def isEretPair (w0 w1 : Word32) : Bool :=
  tagOf w0 == 0 && isLong w0 && w0.extractLsb' 0 2 == 0 && w1.extractLsb' 26 6 == 0x07 && w1.extractLsb' 16 10 == 0x002

/-- The first word of a table row's instruction: bits `<31:0>`. -/
def tableWord0 (w : Nat) : Word32 := BitVec.ofNat 32 w

/-- The second word: bits `<63:32>`, zero where the table gives fewer. -/
def tableWord1 (nbits w : Nat) : Word32 := if nbits ≤ 32 then 0 else BitVec.ofNat 32 (w >>> 32)

/-- The instruction the decoder reads from bits numbered as spec/opcode_table.json numbers them: word 0 is bits
`<31:0>`, word 1 the bits above. -/
noncomputable def decodeTableWord (nbits w : Nat) : Option Instr :=
  match decodeWords (tableWord0 (w % 2 ^ nbits)) (tableWord1 nbits w) with
  | .ok i => some i
  | .error _ => none

/-! ### The encoder -/

def packCR (maj : BitVec 6) (fn : BitVec 2) (f : CR) : Word32 := 0#2 ++ maj ++ f.tok ++ f.d ++ f.a ++ f.b ++ fn
def packCI (maj : BitVec 6) (f : CI) : Word32 := 0#2 ++ maj ++ f.tok ++ f.d ++ f.a ++ f.imm
def packCU (maj : BitVec 6) (f : CU) : Word32 := 0#2 ++ maj ++ f.tok ++ f.d ++ f.imm
def packCK (maj : BitVec 6) (f : CK) : Word32 := 0#2 ++ maj ++ f.tok ++ f.r ++ f.idx ++ 0#2
def packL0 (f : LW) : Word32 := 0#2 ++ 0x3f#6 ++ f.tok ++ f.d ++ f.a ++ f.b ++ 0#2
def packL1 (cl : BitVec 6) (var : BitVec 2) (op : BitVec 8) (f : LW) : Word32 := cl ++ var ++ op ++ f.stamp
def packL (cl : BitVec 6) (var : BitVec 2) (op : BitVec 8) (f : LW) : List Word32 := [packL0 f, packL1 cl var op f]
def packSB (maj : BitVec 6) (f : SB) : Word32 := 3#2 ++ maj ++ f.a ++ f.b ++ f.off
def packSJ (maj : BitVec 6) (f : SJ) : Word32 := 3#2 ++ maj ++ f.off
def packSL (maj : BitVec 6) (f : SL) : Word32 := 3#2 ++ maj ++ f.cnt ++ f.fin
def packSX0 (f : SX) : Word32 := 3#2 ++ 0x3f#6 ++ f.tgt.extractLsb' 30 24
def packSX1 (lk : BitVec 2) (f : SX) : Word32 := f.tgt.extractLsb' 0 30 ++ lk
def packSX (lk : BitVec 2) (f : SX) : List Word32 := [packSX0 f, packSX1 lk f]
def packAR (maj : BitVec 6) (fn : BitVec 5) (f : AR) : Word32 := 1#2 ++ maj ++ f.tok ++ f.d ++ f.a ++ f.b ++ fn
def packAI (maj : BitVec 6) (f : AI) : Word32 := 1#2 ++ maj ++ f.tok ++ f.d ++ f.a ++ f.imm
def packAU (maj : BitVec 6) (f : AU) : Word32 := 1#2 ++ maj ++ f.tok ++ f.d ++ f.imm
def packAM (maj : BitVec 6) (f : AM) : Word32 := 1#2 ++ maj ++ f.tok ++ f.rt ++ f.rb ++ f.off
def packAX (maj : BitVec 6) (sp : BitVec 1) (f : AX) : Word32 :=
  1#2 ++ maj ++ f.tok ++ f.rt ++ f.rb ++ f.ri ++ sp ++ f.w
def packAL0 (xop : BitVec 8) (f : AL) : Word32 := 1#2 ++ 0x3f#6 ++ f.tok ++ xop ++ f.d ++ f.a ++ 0#2
def packAL1 (f : AL) : Word32 := f.b ++ f.c ++ f.scope ++ BitVec.ofBool f.ord ++ f.qs ++ f.imm
def packAL (xop : BitVec 8) (f : AL) : List Word32 := [packAL0 (xop ||| (BitVec.ofBool f.w64).setWidth 8) f, packAL1 f]
def packVR (maj : BitVec 6) (fn : BitVec 2) (f : VR) : Word32 := 2#2 ++ maj ++ f.tok ++ f.d ++ f.a ++ f.b ++ fn
def packVK (fn : BitVec 4) (f : VK) : Word32 := 2#2 ++ 0x04#6 ++ f.tok ++ f.d ++ f.a ++ f.ks ++ fn
def packVI (maj : BitVec 6) (f : VI) : Word32 := 2#2 ++ maj ++ f.tok ++ f.kd ++ f.imm
def packVL0 (xop : BitVec 8) (f : VL) : Word32 := 2#2 ++ 0x3f#6 ++ f.tok ++ xop ++ f.d ++ f.a
def packVL1 (f : VL) : Word32 :=
  f.b ++ f.c ++ f.msk ++ BitVec.ofBool f.men ++ f.qsel ++ f.rm ++ f.ty ++ BitVec.ofBool f.mz ++ f.aux
def packVL (xop : BitVec 8) (f : VL) : List Word32 := [packVL0 xop f, packVL1 f]


/-- The words of an instruction, from the tables of 01 R31 and 02 R45 to R51; an event has none. -/
def encode : Instr → List Word32
  | .nop f => [packCU 0x01 f]
  | .add f => [packCR 0x02 0 f]
  | .sub f => [packCR 0x02 1 f]
  | .mul f => [packCR 0x02 2 f]
  | .mulh f => [packCR 0x02 3 f]
  | .mulhn f => [packCR 0x03 0 f]
  | .div f => [packCR 0x03 1 f]
  | .divn f => [packCR 0x03 2 f]
  | .rem f => [packCR 0x03 3 f]
  | .remn f => [packCR 0x04 0 f]
  | .and f => [packCR 0x04 1 f]
  | .or f => [packCR 0x04 2 f]
  | .xor f => [packCR 0x04 3 f]
  | .andn f => [packCR 0x05 0 f]
  | .shl f => [packCR 0x05 1 f]
  | .shr f => [packCR 0x05 2 f]
  | .sra f => [packCR 0x05 3 f]
  | .rot f => [packCR 0x06 0 f]
  | .min f => [packCR 0x06 1 f]
  | .max f => [packCR 0x06 2 f]
  | .minn f => [packCR 0x06 3 f]
  | .maxn f => [packCR 0x07 0 f]
  | .slt f => [packCR 0x07 1 f]
  | .sltn f => [packCR 0x07 2 f]
  | .seq f => [packCR 0x07 3 f]
  | .sel f => [packCR 0x08 0 f]
  | .clz f => [packCR 0x08 1 f]
  | .ctz f => [packCR 0x08 2 f]
  | .popc f => [packCR 0x08 3 f]
  | .bfx f => [packCR 0x09 0 f]
  | .bfi f => [packCR 0x09 1 f]
  | .addi f => [packCI 0x10 f]
  | .andi f => [packCI 0x11 f]
  | .ori f => [packCI 0x12 f]
  | .xori f => [packCI 0x13 f]
  | .shli f => [packCI 0x14 f]
  | .shri f => [packCI 0x15 f]
  | .srai f => [packCI 0x16 f]
  | .ldc f => [packCI 0x17 f]
  | .stc f => [packCI 0x18 f]
  | .li f => [packCU 0x19 f]
  | .lih f => [packCU 0x1a f]
  | .addpc f => [packCU 0x1b f]
  | .srd f => [packCK 0x1c f]
  | .swt f => [packCK 0x1d f]
  | .sendCa f => [packCR 0x1e 1 f]
  | .sendCv f => [packCR 0x1e 2 f]
  | .recvAc f => [packCR 0x1f 1 f]
  | .recvVc f => [packCR 0x1f 2 f]
  | .beq f => [packSB 0x01 f]
  | .bne f => [packSB 0x02 f]
  | .blt f => [packSB 0x03 f]
  | .bge f => [packSB 0x04 f]
  | .bltn f => [packSB 0x05 f]
  | .bgen f => [packSB 0x06 f]
  | .jmp f => [packSJ 0x08 f]
  | .call f => [packSJ 0x09 f]
  | .jmpLong f => packSX 0 f
  | .callLong f => packSX 1 f
  | .callr f => [packSB 0x0a f]
  | .ret f => [packSB 0x0b f]
  | .loop f => [packSL 0x0c f]
  | .loopr f => [packSL 0x0d f]
  | .loopm f => [packSL 0x0e f]
  | .ldI8 f => [packAM 0x01 f]
  | .ldN8 f => [packAM 0x02 f]
  | .ldI16 f => [packAM 0x03 f]
  | .ldN16 f => [packAM 0x04 f]
  | .ldI32 f => [packAM 0x05 f]
  | .ldN32 f => [packAM 0x06 f]
  | .ld64 f => [packAM 0x07 f]
  | .st8 f => [packAM 0x08 f]
  | .st16 f => [packAM 0x09 f]
  | .st32 f => [packAM 0x0a f]
  | .st64 f => [packAM 0x0b f]
  | .ldIndexed f => [packAX 0x0c 0 f]
  | .ldIndexedS f => [packAX 0x0c 1 f]
  | .stIndexed f => [packAX 0x0d 0 f]
  | .ldI8S f => [packAM 0x11 f]
  | .ldN8S f => [packAM 0x12 f]
  | .ldI16S f => [packAM 0x13 f]
  | .ldN16S f => [packAM 0x14 f]
  | .ldI32S f => [packAM 0x15 f]
  | .ldN32S f => [packAM 0x16 f]
  | .ld64S f => [packAM 0x17 f]
  | .vld f => [packAM 0x18 f]
  | .vldS f => [packAM 0x19 f]
  | .vst f => [packAM 0x1a f]
  | .vlds f => [packAX 0x1b 0 f]
  | .vldsS f => [packAX 0x1b 1 f]
  | .vldx f => [packAX 0x1c 0 f]
  | .vldxS f => [packAX 0x1c 1 f]
  | .vsts f => [packAX 0x1d 0 f]
  | .vstx f => [packAX 0x1e 0 f]
  | .adda f => [packAR 0x30 0 f]
  | .suba f => [packAR 0x30 1 f]
  | .mova f => [packAR 0x30 2 f]
  | .sendAAc f => [packAR 0x31 1 f]
  | .sendAAv f => [packAR 0x31 2 f]
  | .recvACa f => [packAR 0x32 1 f]
  | .recvAVa f => [packAR 0x32 2 f]
  | .addai f => [packAI 0x33 f]
  | .shla f => [packAI 0x34 f]
  | .mulai f => [packAI 0x35 f]
  | .lia f => [packAU 0x36 f]
  | .spld f => packAL 0x01 f
  | .spldVector f => packAL 0x01 f
  | .spst f => packAL 0x02 f
  | .spstVector f => packAL 0x02 f
  | .lda f => packAL 0x08 f
  | .stl f => packAL 0x0a f
  | .fence f => packAL 0x0c f
  | .aadd f => packAL 0x10 f
  | .aand f => packAL 0x12 f
  | .aor f => packAL 0x14 f
  | .axor f => packAL 0x16 f
  | .aswap f => packAL 0x18 f
  | .acas f => packAL 0x1a f
  | .amin f => packAL 0x1c f
  | .amax f => packAL 0x1e f
  | .aminn f => packAL 0x20 f
  | .amaxn f => packAL 0x22 f
  | .waita f => packAL 0x30 f
  | .pfb f => packAL 0x31 f
  | .chkp f => packAL 0x32 f
  | .chkpQueue f => packAL 0x32 f
  | .vadd f => [packVR 0x01 0 f]
  | .vsub f => [packVR 0x01 1 f]
  | .vmul f => [packVR 0x01 2 f]
  | .vmin f => [packVR 0x01 3 f]
  | .vmax f => [packVR 0x02 0 f]
  | .vand f => [packVR 0x02 1 f]
  | .vor f => [packVR 0x02 2 f]
  | .vxor f => [packVR 0x02 3 f]
  | .vmov f => [packVR 0x03 0 f]
  | .vnot f => [packVR 0x03 1 f]
  | .vabs f => [packVR 0x03 2 f]
  | .vneg f => [packVR 0x03 3 f]
  | .vaddK f => [packVK 0 f]
  | .vsubK f => [packVK 1 f]
  | .vmulK f => [packVK 2 f]
  | .vminK f => [packVK 3 f]
  | .vmaxK f => [packVK 4 f]
  | .vshl f => [packVK 5 f]
  | .vshr f => [packVK 6 f]
  | .vsra f => [packVK 7 f]
  | .vbcast f => [packVK 8 f]
  | .vslup f => [packVK 9 f]
  | .vsldn f => [packVK 10 f]
  | .kli f => [packVI 0x05 f]
  | .kadd f => [packVR 0x06 0 f]
  | .kmov f => [packVR 0x06 1 f]
  | .sendVVc f => [packVR 0x07 1 f]
  | .sendVVa f => [packVR 0x07 2 f]
  | .recvVCv f => [packVR 0x08 1 f]
  | .recvVAv f => [packVR 0x08 2 f]
  | .vcfg f => packVL 0x01 f
  | .vaddLong f => packVL 0x10 f
  | .vsubLong f => packVL 0x11 f
  | .vmulLong f => packVL 0x12 f
  | .vfma f => packVL 0x13 f
  | .vfms f => packVL 0x14 f
  | .vfnma f => packVL 0x15 f
  | .vdiv f => packVL 0x16 f
  | .vsqrt f => packVL 0x17 f
  | .vrcp f => packVL 0x18 f
  | .vrsq f => packVL 0x19 f
  | .vminLong f => packVL 0x1a f
  | .vmaxLong f => packVL 0x1b f
  | .vabsLong f => packVL 0x1c f
  | .vnegLong f => packVL 0x1d f
  | .vcpys f => packVL 0x1e f
  | .vandLong f => packVL 0x20 f
  | .vorLong f => packVL 0x21 f
  | .vxorLong f => packVL 0x22 f
  | .vnotLong f => packVL 0x23 f
  | .vshlLong f => packVL 0x24 f
  | .vshrLong f => packVL 0x25 f
  | .vsraLong f => packVL 0x26 f
  | .vadds f => packVL 0x27 f
  | .vsubs f => packVL 0x28 f
  | .vcmp f => packVL 0x30 f
  | .vsel f => packVL 0x31 f
  | .vmop f => packVL 0x32 f
  | .vcvt f => packVL 0x38 f
  | .vqmax f => packVL 0x39 f
  | .vqcvt f => packVL 0x3a f
  | .vqcvtx f => packVL 0x3b f
  | .vredsum f => packVL 0x40 f
  | .vredmax f => packVL 0x41 f
  | .vredmin f => packVL 0x42 f
  | .vredamax f => packVL 0x43 f
  | .vperm f => packVL 0x48 f
  | .vslupLong f => packVL 0x49 f
  | .vsldnLong f => packVL 0x4a f
  | .vbcastLong f => packVL 0x4b f
  | .viota f => packVL 0x4c f
  | .vcompr f => packVL 0x4d f
  | .vext f => packVL 0x4e f
  | .vins f => packVL 0x4f f
  | .vmovLong f => packVL 0x50 f
  | .vtlu f => packVL 0x58 f
  | .vtld f => packVL 0x59 f
  | .spawn f => packL 0x01 0 0x01 f
  | .spawnl f => packL 0x01 0 0x02 f
  | .join f => packL 0x01 0 0x03 f
  | .tend f => packL 0x01 0 0x04 f
  | .yield f => packL 0x01 0 0x05 f
  | .galloc f => packL 0x02 0 0x01 f
  | .gfree f => packL 0x02 0 0x02 f
  | .greshape f => packL 0x02 0 0x03 f
  | .glease f => packL 0x02 0 0x04 f
  | .grel f => packL 0x02 0 0x05 f
  | .gfmt f => packL 0x02 0 0x06 f
  | .gmma f => packL 0x02 0 0x07 f
  | .gdrain f => packL 0x02 0 0x08 f
  | .gzero f => packL 0x02 0 0x09 f
  | .gsave f => packL 0x02 0 0x0a f
  | .grest f => packL 0x02 0 0x0b f
  | .gstat f => packL 0x02 0 0x0c f
  | .cpy f => packL 0x03 0 0x01 f
  | .cpyg f => packL 0x03 0 0x02 f
  | .cpys f => packL 0x03 0 0x03 f
  | .cpyr f => packL 0x03 0 0x04 f
  | .cwait f => packL 0x03 0 0x05 f
  | .ctest f => packL 0x03 0 0x06 f
  | .swait f => packL 0x04 0 0x01 f
  | .ssig f => packL 0x04 0 0x02 f
  | .sadd f => packL 0x04 0 0x03 f
  | .srdv f => packL 0x04 0 0x04 f
  | .bar f => packL 0x04 0 0x05 f
  | .bara f => packL 0x04 0 0x06 f
  | .barw f => packL 0x04 0 0x07 f
  | .elect f => packL 0x04 0 0x08 f
  | .fwrd f => packL 0x05 0 0x01 f
  | .fwstep f => packL 0x05 0 0x02 f
  | .fwstepFrw f => packL 0x05 1 0x02 f
  | .fwstepFwr f => packL 0x05 2 0x02 f
  | .fwseq f => packL 0x05 0 0x03 f
  | .fwgrad f => packL 0x05 0 0x04 f
  | .fwfade f => packL 0x05 0 0x05 f
  | .fwzero f => packL 0x05 0 0x06 f
  | .fwld f => packL 0x05 0 0x07 f
  | .fwst f => packL 0x05 0 0x08 f
  | .shnew f => packL 0x06 0 0x01 f
  | .shsnap f => packL 0x06 0 0x02 f
  | .shfork f => packL 0x06 0 0x03 f
  | .shavg f => packL 0x06 0 0x04 f
  | .shroll f => packL 0x06 0 0x05 f
  | .shmove f => packL 0x06 0 0x06 f
  | .shpin f => packL 0x06 0 0x07 f
  | .shfree f => packL 0x06 0 0x08 f
  | .shstat f => packL 0x06 0 0x09 f
  | .trap f => packL 0x07 0 0x01 f
  | .sysc f => packL 0x07 0 0x03 f
  | .brk f => packL 0x07 0 0x08 f
  | .eretResume f => packL 0x07 0 0x02 f
  | .eretEndTask f => packL 0x07 0 0x02 f
  | .eretHandlerEnd f => packL 0x07 0 0x02 f
  | .tlbi f => packL 0x07 0 0x04 f
  | .cwb f => packL 0x07 0 0x05 f
  | .cinv f => packL 0x07 0 0x06 f
  | .ppt f => packL 0x07 0 0x07 f
  | .dsetMerge f => packL 0x08 0 0x01 f
  | .dsetAdvance f => packL 0x08 0 0x01 f
  | .rlogStatus f => packL 0x08 0 0x02 f
  | .rlogRelease f => packL 0x08 0 0x02 f
  | .rlogClose f => packL 0x08 0 0x02 f
  | .mcackAck f => packL 0x09 0 0x01 f
  | .mcackRerun f => packL 0x09 0 0x01 f
  | .mcackEndLaunch f => packL 0x09 0 0x01 f
  | .jobctlRestart f => [packCK 0x1d f]
  | .jobctlAbort f => [packCK 0x1d f]
  | .engineDeadlock _ => []
  | .loadDataArrival _ _ _ => []
  | .pageWalkComplete _ _ _ => []
  | .cacheEviction _ _ => []
  | .waitaWake _ => []
  | .waitaTimeout _ => []
  | .prefetchComplete _ _ => []
  | .dequePop _ => []
  | .stealClaim _ _ => []
  | .stealTake _ => []
  | .taskStart _ => []
  | .completionRelease _ => []
  | .joinSpinExpiry _ => []
  | .taskResume _ => []
  | .notify _ _ _ => []
  | .packetCapture _ _ => []
  | .dispatchDecision _ => []
  | .batchDraw _ _ => []
  | .teamSliceExpiry _ _ => []
  | .levelChange _ _ => []
  | .launchEnd _ => []
  | .dieLost _ => []
  | .preemptionRequest _ _ => []
  | .checkpoint _ => []
  | .drainTimeout _ => []
  | .trapEntry _ => []
  | .asyncFaultDelivery _ => []
  | .handlerTimeout _ => []
  | .leaseGrant _ _ => []
  | .leaseRevocation _ _ => []
  | .jobWindowAccept _ => []
  | .griddleJobStart _ _ => []
  | .griddleJobComplete _ _ => []
  | .griddleJobHalt _ _ => []
  | .greshapeAct _ _ => []
  | .gfreeRelease _ _ => []
  | .colanderJobStart _ _ => []
  | .colanderChunkLand _ _ _ => []
  | .colanderJobComplete _ _ => []
  | .colanderJobHalt _ _ _ => []
  | .phaseWaitResume _ => []
  | .whiskAccept _ => []
  | .whiskJobStart _ => []
  | .whiskCommit _ => []
  | .whiskJobHalt _ => []
  | .ladlePageIn _ => []
  | .ladleEviction _ => []
  | .handleCommandAccept _ => []
  | .shnewAction _ => []
  | .shsnapAction _ => []
  | .shforkAction _ => []
  | .shavgAction _ => []
  | .shrollAction _ => []
  | .shmoveAction _ => []
  | .shpinAction _ => []
  | .shfreeAction _ => []
  | .handleMoveReceive _ => []
  | .handleMoveAck _ => []
  | .roundClose _ => []
  | .sfcTick _ => []
  | .stampOverrun _ => []
  | .replayDivergence _ _ => []
  | .hostCxlAccess _ => []
  | .backInvalidateResponse _ => []
  | .ingestFrameArrival _ _ => []
  | .ingestRecordWrite _ _ => []
  | .benvasPacketReceive _ _ _ => []
  | .benvasAckReceive _ _ => []
  | .benvasNakReceive _ _ => []
  | .ackTimer _ => []
  | .replayTimeout _ => []
  | .laneFailure _ _ => []
  | .linkRetrainComplete _ _ => []
  | .fullWidthRetry _ _ => []
  | .melperLaneLoss _ => []
  | .ucieLinkRetrain _ _ _ => []
  | .machineCheck _ => []
  | .mcAckTimeout _ _ => []
  | .refreshRow _ _ _ => []
  | .hbmOverTemperature _ _ => []
  | .hbmTemperatureRecovery _ _ => []
  | .spinelHeartbeat _ _ => []
  | .refreshTakeover _ _ _ => []
  | .spinelResume _ _ => []
  | .scrubRead _ _ _ => []
  | .scrubWriteBack _ _ => []
  | .plateRepair _ _ => []
  | .skilletSpareMap _ _ => []
  | .crockBankRemap _ _ => []
  | .postPackageRepair _ _ _ => []
  | .powerManagerStep _ => []
  | .thermalThrottle => []
  | .thermalRecovery => []
  | .thermalTrip => []
  | .coldReset => []
  | .updateStartTimeout _ => []
  | .hostTlbi _ => []
  | .layinv _ _ => []
  | .registerWrite _ _ => []
  | .mapq => []
  | .unmapq => []
  | .destroyq => []
  | .freeh => []
  | .ttreg => []
  | .window => []
  | .rdrep => []
  | .mcackh => []
  | .endl => []
  | .stream => []
  | .route => []
  | .inbound => []
  | .update => []
  | .attest => []
  | .ident => []
  | .hostSnoop _ _ _ => []
  | .launchClassification _ _ _ _ => []
  | .componentStart _ => []
  | .powerLoss => []

/-- What the decoder reads from the words the encoder gives. -/
noncomputable def decodeEncoded (i : Instr) : Except DecodeError Instr :=
  match encode i with
  | [w0] => decodeWords w0 0
  | [w0, w1] => decodeWords w0 w1
  | _ => .error .short

end Sys2Proof
end

