-- ==== Sys2Proof/Machine/Bits.lean ====
section
/-! DEFINITION. Bit fields, sign extension and byte order (00 R6, R10). -/

namespace Sys2Proof.Machine

/-- Bits `<hi:lo>` of a number (00 R10). -/
def bitsN (x hi lo : Nat) : Nat := (x >>> lo) % 2 ^ (hi + 1 - lo)

/-- Bit `<i>` of a number. -/
def bitN (x i : Nat) : Bool := x.testBit i

/-- `x` of width `n` read as two's complement (00 R10). -/
def signExt (x n : Nat) : Int :=
  if n = 0 then 0
  else if (x % 2 ^ n) < 2 ^ (n - 1) then ((x % 2 ^ n : Nat) : Int) else ((x % 2 ^ n : Nat) : Int) - (2 ^ n : Nat)

/-- An integer modulo 2^n, as an unsigned number. -/
def wrapN (x : Int) (n : Nat) : Nat := (x % ((2 ^ n : Nat) : Int)).toNat

/-- An integer modulo 2^64. -/
def wrapD (x : Int) : DWord := BitVec.ofInt 64 x

/-- A number as a doubleword. -/
abbrev dw (x : Nat) : DWord := BitVec.ofNat 64 x

/-- Bits `<hi:lo>` of a doubleword as a number. -/
def fld (x : DWord) (hi lo : Nat) : Nat := bitsN x.toNat hi lo

/-- Quotient rounded up. -/
def ceilDiv (a b : Nat) : Nat := (a + b - 1) / b

/-- A truth value as a bit. -/
def b2n (b : Bool) : Nat := if b then 1 else 0

/-- `n` little-endian bytes of a number (00 R6). -/
def leBytes : Nat → Nat → List Byte
  | 0, _ => []
  | n + 1, x => BitVec.ofNat 8 x :: leBytes n (x / 256)

/-- The number that little-endian bytes spell (00 R6). -/
def ofLe : List Byte → Nat
  | [] => 0
  | b :: r => b.toNat + 256 * ofLe r

/-- Byte `i` of a wide register or queue entry. -/
def byteAt {w : Nat} (x : BitVec w) (i : Nat) : Byte := x.extractLsb' (8 * i) 8

/-- A number cut to `n` bits and placed at bit `lo` of a word that is zero elsewhere. -/
def place (x n lo : Nat) : Nat := (x % 2 ^ n) <<< lo

/-- The bits of `x` under the mask replaced by `y`'s. -/
def mergeBits {w : Nat} (mask x y : BitVec w) : BitVec w := (x &&& ~~~mask) ||| (y &&& mask)

/-- `x` with `n` bits at `lo` replaced by `y`. -/
def insertBits {w : Nat} (x : BitVec w) (lo n : Nat) (y : Nat) : BitVec w :=
  mergeBits (BitVec.ofNat w ((2 ^ n - 1) <<< lo)) x (BitVec.ofNat w ((y % 2 ^ n) <<< lo))

/-- The doublewords of a byte list, eight bytes each. -/
def dwords : Nat → List Byte → List DWord
  | 0, _ => []
  | n + 1, bs => dw (ofLe (bs.take 8)) :: dwords n (bs.drop 8)

end Sys2Proof.Machine
end

