-- ==== Sys2Proof/Machine/Flags.lean ====
section
/-! DEFINITION. The floating-point flags and the fields of FPCTL (03 R70), and the rounding modes (03 R66). Every flag an
instruction computes is a set of bits at the flag's place in FPCTL. -/

namespace Sys2Proof.Machine

/-- A set of flags, each at its bit of FPCTL (03 R70). -/
abbrev FlagSet := DWord

def flNV : FlagSet := 0x100
def flDZ : FlagSet := 0x200
def flOF : FlagSet := 0x400
def flUF : FlagSet := 0x800
def flNX : FlagSet := 0x1000
def flSAT : FlagSet := 0x2000
def flZS : FlagSet := 0x4000

/-- The flag, if the condition holds. -/
def flIf (c : Bool) (f : FlagSet) : FlagSet := if c then f else 0

def fcRM (fp : DWord) : BitVec 3 := fp.extractLsb' 0 3
def fcFTZ (fp : DWord) : Bool := fp.getLsbD 3
def fcDAZ (fp : DWord) : Bool := fp.getLsbD 4
def fcSATF (fp : DWord) : Bool := fp.getLsbD 5

/-- What an SWT of `v` leaves in FPCTL: RW fields take the value, flags written as 1 are cleared (03 R70). -/
def fpctlWrite (old v : DWord) : DWord := (old &&& 0x7F00 &&& ~~~v) ||| (v &&& 0x3F)

/-- Whether an SWT to FPCTL is refused (03 R70). -/
def fpctlBad (v : DWord) : Bool := decide (6 ≤ fld v 2 0)

/-- A rounding mode in force (03 R66). -/
inductive RMode where
  | rne | rz | rdn | rup | sr
  deriving DecidableEq, Repr

/-- A rounding mode by its number (03 R70; 01 R32 RM): 0 and 1 RNE. -/
def rmodeOf (r : Nat) : RMode :=
  match r with
  | 2 => .rz | 3 => .rdn | 4 => .rup | 5 => .sr | _ => .rne

/-- One step of the stochastic-rounding generator: the new state (03 R67). -/
def nextSeed (s : DWord) : DWord :=
  let s := if s = 0 then 0x9E3779B97F4A7C15 else s
  let s := s ^^^ (s <<< 13)
  let s := s ^^^ (s >>> 7)
  s ^^^ (s <<< 17)

/-- The draw a state gives: its upper 32 bits (03 R67). -/
def drawOf (s : DWord) : Nat := fld s 63 32

end Sys2Proof.Machine
end

