-- ==== Sys2Proof/Machine/Num.lean ====
section
/-! DEFINITION. Number formats, exact values, rounding, arithmetic and conversion (03 R53 to R80, R462). A finite value is
sign, magnitude and power of two, exactly; quotients and roots carry a sticky bit below enough digits for every mode. -/

namespace Sys2Proof.Machine

/-! ### Formats (03 R55, R56) -/

/-- What a format has beside finite values: infinities and NaNs, NaNs alone (E4M3), neither. -/
inductive Specials where
  | ieee | nanOnly | finite
  deriving DecidableEq, Repr

structure FFmt where
  w : Nat
  f : Nat
  bias : Nat
  sp : Specials
  maxM : Nat
  maxE : Int
  deriving DecidableEq, Repr

def ieeeFmt (w f bias : Nat) : FFmt := ⟨w, f, bias, .ieee, 2 ^ (f + 1) - 1, (bias : Int) - f⟩
def fp64 : FFmt := ieeeFmt 64 52 1023
def fp32 : FFmt := ieeeFmt 32 23 127
def bf16 : FFmt := ieeeFmt 16 7 127
def fp16 : FFmt := ieeeFmt 16 10 15
def e5m2 : FFmt := ieeeFmt 8 2 15
def e4m3 : FFmt := ⟨8, 3, 7, .nanOnly, 14, 5⟩
def e3m2 : FFmt := ⟨6, 2, 3, .finite, 7, 2⟩
def e2m3 : FFmt := ⟨6, 3, 1, .finite, 15, -1⟩
def e2m1 : FFmt := ⟨4, 1, 1, .finite, 3, 1⟩

/-- The plain floating-point formats by type code (03 R53). -/
def floatFmt (ty : Nat) : Option FFmt :=
  match ty with
  | 0 => some fp32 | 1 => some fp64 | 2 => some bf16 | 3 => some fp16 | 4 => some e4m3 | 5 => some e5m2
  | 6 => some e3m2 | 7 => some e2m3 | 8 => some e2m1 | _ => none

/-- Width and signedness of the integer formats by type code (03 R53, R57). -/
def intFmt (ty : Nat) : Option (Nat × Bool) :=
  match ty with
  | 0x09 => some (8, true) | 0x0A => some (8, false) | 0x0B => some (4, true) | 0x0C => some (4, false)
  | 0x18 => some (32, true) | 0x19 => some (32, false) | 0x1A => some (16, true) | 0x1B => some (16, false)
  | _ => none

/-- Element width in bits of every type code, block elements included (03 R53). -/
def elemBits (ty : Nat) : Nat :=
  match ty with
  | 0x00 => 32 | 0x01 => 64 | 0x02 => 16 | 0x03 => 16 | 0x04 => 8 | 0x05 => 8 | 0x06 => 6 | 0x07 => 6 | 0x08 => 4
  | 0x09 => 8 | 0x0A => 8 | 0x0B => 4 | 0x0C => 4 | 0x0D => 8 | 0x0E => 8 | 0x0F => 6 | 0x10 => 6 | 0x11 => 4
  | 0x12 => 8 | 0x13 => 8 | 0x14 => 6 | 0x15 => 4 | 0x16 => 4 | 0x17 => 4 | 0x18 => 32 | 0x19 => 32 | 0x1A => 16
  | 0x1B => 16 | _ => 32

/-- The block families (03 R60). -/
inductive Family where
  | plain | mx | dx | fb
  deriving DecidableEq, Repr

def familyOf (ty : Nat) : Family :=
  if 0x0D ≤ ty ∧ ty ≤ 0x12 then .mx else if 0x13 ≤ ty ∧ ty ≤ 0x15 then .dx else if 0x16 ≤ ty ∧ ty ≤ 0x17 then .fb else .plain

/-- Elements in a block (03 R60). -/
def blockLen (ty : Nat) : Nat := if familyOf ty = .fb then 8 else 32
/-- Scale bytes of a block (03 R60). -/
def blockScales (ty : Nat) : Nat := if familyOf ty = .dx then 2 else 1

/-! ### Values -/

/-- A value: a NaN (signalling or not), an infinity, or a finite number (−1)^n × m × 2^e. -/
inductive FVal where
  | nan (sig : Bool)
  | inf (n : Bool)
  | fin (n : Bool) (m : Nat) (e : Int)
  deriving DecidableEq, Repr

def FVal.isNan : FVal → Bool
  | .nan _ => true
  | _ => false
def FVal.isSig : FVal → Bool
  | .nan b => b
  | _ => false
def FVal.isInf : FVal → Bool
  | .inf _ => true
  | _ => false
def FVal.isZero : FVal → Bool
  | .fin _ 0 _ => true
  | _ => false
def FVal.sign : FVal → Bool
  | .nan _ => false
  | .inf n => n
  | .fin n _ _ => n
def FVal.neg : FVal → FVal
  | .nan b => .nan b
  | .inf n => .inf (!n)
  | .fin n m e => .fin (!n) m e
def FVal.abs : FVal → FVal
  | .nan b => .nan b
  | .inf _ => .inf false
  | .fin _ m e => .fin false m e

/-- Least exponent of a format's subnormal spacing. -/
def FFmt.qmin (F : FFmt) : Int := 1 - (F.bias : Int) - F.f
/-- The sign bit alone. -/
def FFmt.signBit (F : FFmt) (n : Bool) : Nat := if n then 2 ^ (F.w - 1) else 0
/-- The exponent field of all ones, in place. -/
def FFmt.expOnes (F : FFmt) : Nat := (2 ^ (F.w - 1 - F.f) - 1) <<< F.f

/-- The value a code of a format has (03 R55, R56). -/
def FFmt.decode (F : FFmt) (x : Nat) : FVal :=
  let n := bitN x (F.w - 1)
  let E := bitsN x (F.w - 2) F.f
  let m := x % 2 ^ F.f
  let ones := 2 ^ (F.w - 1 - F.f) - 1
  if F.sp = .ieee ∧ E = ones then (if m = 0 then .inf n else .nan (!bitN m (F.f - 1)))
  else if F.sp = .nanOnly ∧ E = ones ∧ m = 2 ^ F.f - 1 then .nan false
  else if E = 0 then .fin n m F.qmin
  else .fin n (m + 2 ^ F.f) ((E : Int) - F.bias - F.f)

/-- The default NaN of a format (03 R58); zero for a format without NaNs. -/
def FFmt.dnan (F : FFmt) : Nat :=
  match F.sp with
  | .ieee => F.expOnes + 2 ^ (F.f - 1)
  | .nanOnly => F.expOnes + (2 ^ F.f - 1)
  | .finite => 0

def FFmt.infCode (F : FFmt) (n : Bool) : Nat := F.signBit n + F.expOnes

/-- The code of the finite magnitude k × 2^q, k at most 2^(f+1). -/
def FFmt.encFin (F : FFmt) (n : Bool) (k : Nat) (q : Int) : Nat :=
  let (k, q) := if k = 2 ^ (F.f + 1) then (2 ^ F.f, q + 1) else (k, q)
  F.signBit n + (if k < 2 ^ F.f then k else ((q + F.f + F.bias).toNat <<< F.f) + (k - 2 ^ F.f))

/-- The code of the largest finite magnitude. -/
def FFmt.maxCode (F : FFmt) (n : Bool) : Nat := F.encFin n F.maxM F.maxE

/-! ### Rounding (03 R66, R69, R72) -/

/-- What governs a rounding: mode, draw for SR, saturation, flushing. -/
structure RCtx where
  md : RMode := .rne
  draw : Nat := 0
  satf : Bool := false
  ftz : Bool := false
  deriving DecidableEq, Repr

/-- m / 2^sh (plus a sticky amount below one) rounded to an integer, and whether it was inexact (03 R66). -/
def roundInt (md : RMode) (draw : Nat) (n : Bool) (m sh : Nat) (st : Bool) : Nat × Bool :=
  let k := m >>> sh
  let r := m % 2 ^ sh
  if r = 0 ∧ !st then (k, false)
  else
    let up := match md with
      | .rne => decide (2 ^ sh < 2 * r) || (decide (2 * r = 2 ^ sh) && (st || k % 2 == 1))
      | .rz => false
      | .rdn => n
      | .rup => !n
      | .sr =>
        if n then !decide (draw < ((2 ^ sh - r) * 2 ^ 32 - b2n st) >>> sh)
        else decide (draw < (r * 2 ^ 32) >>> sh)
    (if up then k + 1 else k, true)

/-- Rounds m × 2^e to a multiple of 2^q. -/
def roundAt (c : RCtx) (n : Bool) (m : Nat) (e q : Int) (st : Bool) : Nat × Bool :=
  if q ≤ e then (m <<< (e - q).toNat, false) else roundInt c.md c.draw n m (q - e).toNat st

/-- Whether k × 2^q exceeds the largest finite magnitude. -/
def FFmt.exceeds (F : FFmt) (k : Nat) (q : Int) : Bool :=
  if F.maxE ≤ q then decide (F.maxM < k <<< (q - F.maxE).toNat) else decide (F.maxM <<< (F.maxE - q).toNat < k)

/-- An overflowed result (03 R72). -/
def FFmt.overflow (F : FFmt) (c : RCtx) (n : Bool) : Nat × FlagSet :=
  if c.satf then (F.maxCode n, flOF ||| flNX ||| flSAT)
  else
    let toInf := match c.md with
      | .rne => true | .sr => true | .rz => false | .rdn => n | .rup => !n
    match F.sp with
    | .ieee => (if toInf then F.infCode n else F.maxCode n, flOF ||| flNX)
    | .nanOnly => if toInf then (F.dnan, flOF ||| flNX ||| flNV) else (F.maxCode n, flOF ||| flNX)
    | .finite => (F.maxCode n, flOF ||| flNX)

/-- Round of a finite value into a format, with overflow, underflow and flushing (03 R66, R69, R70, R72). -/
def FFmt.round (F : FFmt) (c : RCtx) (n : Bool) (m : Nat) (e : Int) (st : Bool) : Nat × FlagSet :=
  if m = 0 then (F.signBit n, 0)
  else
    let qU : Int := (Nat.log2 m : Int) + e - F.f
    let q := max qU F.qmin
    let (k, nx) := roundAt c n m e q st
    if F.exceeds k q then F.overflow c n
    else if c.ftz ∧ k < 2 ^ F.f ∧ k ≠ 0 then (F.signBit n, flUF ||| flNX)
    else
      let tiny := decide (qU < F.qmin) && (let u := (roundAt c n m e qU st).1
        decide (u < 2 ^ (1 - (F.bias : Int) - qU).toNat))
      (F.encFin n k q, flIf nx flNX ||| flIf (nx && tiny) flUF)

/-- An arithmetic result put into a format: NaNs become the default NaN, infinities stand. -/
def FFmt.put (F : FFmt) (c : RCtx) (v : FVal) (st : Bool) : Nat × FlagSet :=
  match v with
  | .nan _ => (F.dnan, 0)
  | .inf n => (F.infCode n, 0)
  | .fin n m e => F.round c n m e st

/-- A conversion's result put into a format (03 R72, R74). -/
def FFmt.conv (F : FFmt) (c : RCtx) (v : FVal) (st : Bool) : Nat × FlagSet :=
  match v with
  | .nan sig => if F.sp = .finite then (0, flNV) else (F.dnan, flIf sig flNV)
  | .inf n =>
    if F.sp = .finite ∨ c.satf then (F.maxCode n, flSAT)
    else if F.sp = .nanOnly then (F.dnan, flNV)
    else (F.infCode n, 0)
  | .fin n m e => F.round c n m e st

/-! ### Integers (03 R57, R73) -/

/-- The range of an integer format. -/
def intLo (w : Nat) (sg : Bool) : Int := if sg then -((2 ^ (w - 1) : Nat) : Int) else 0
def intHi (w : Nat) (sg : Bool) : Int := if sg then ((2 ^ (w - 1) : Nat) : Int) - 1 else ((2 ^ w : Nat) : Int) - 1

/-- The value of an integer code. -/
def intVal (w : Nat) (sg : Bool) (x : Nat) : Int := if sg then signExt x w else ((x % 2 ^ w : Nat) : Int)

/-- Clamped into the range: the code, and whether it changed. -/
def intClamp (w : Nat) (sg : Bool) (v : Int) : Nat × Bool :=
  let u := max (intLo w sg) (min (intHi w sg) v)
  (wrapN u w, u != v)

/-- An integer as a value. -/
def FVal.ofInt (v : Int) : FVal := .fin (decide (v < 0)) v.natAbs 0

/-- A floating value converted to an integer format (03 R73). -/
def toIntFmt (w : Nat) (sg : Bool) (c : RCtx) (v : FVal) (st : Bool) : Nat × FlagSet :=
  match v with
  | .nan _ => (0, flNV)
  | .inf n => (wrapN (if n then intLo w sg else intHi w sg) w, flSAT ||| flNV ||| flNX)
  | .fin n m e =>
    let (k, nx) := roundAt c n m e 0 st
    let (x, ch) := intClamp w sg (if n then -(k : Int) else k)
    (x, if ch then flSAT ||| flNV ||| flNX else flIf nx flNX)

/-! ### Arithmetic (03 R55, R462): the exact result, and NV -/

/-- The integer both addends are multiples of: signed magnitude at exponent e0. -/
def signedAt (n : Bool) (m : Nat) (e e0 : Int) : Int :=
  let x : Int := ((m <<< (e - e0).toNat : Nat) : Int)
  if n then -x else x

/-- The sum of two values; `rdn` gives the sign of an exact zero of opposite signs (03 R66). -/
def FVal.add (rdn : Bool) (a b : FVal) : FVal × Bool :=
  match a, b with
  | .nan x, y => (.nan false, x || y.isSig)
  | _, .nan y => (.nan false, y)
  | .inf x, .inf y => if x = y then (.inf x, false) else (.nan false, true)
  | .inf x, .fin _ _ _ => (.inf x, false)
  | .fin _ _ _, .inf y => (.inf y, false)
  | .fin n m e, .fin n' m' e' =>
    let e0 := min e e'
    let s := signedAt n m e e0 + signedAt n' m' e' e0
    if s = 0 then (.fin (if n = n' then n else rdn) 0 0, false)
    else (.fin (decide (s < 0)) s.natAbs e0, false)

/-- The exact product. -/
def FVal.mul (a b : FVal) : FVal × Bool :=
  match a, b with
  | .nan x, y => (.nan false, x || y.isSig)
  | _, .nan y => (.nan false, y)
  | .inf x, .inf y => (.inf (x != y), false)
  | .inf x, .fin n m _ => if m = 0 then (.nan false, true) else (.inf (x != n), false)
  | .fin n m _, .inf y => if m = 0 then (.nan false, true) else (.inf (n != y), false)
  | .fin n m e, .fin n' m' e' => (.fin (n != n') (m * m') (e + e'), false)

/-- a × b + c with one rounding to come (03 R462: a zero times an infinity is invalid whatever the addend). -/
def FVal.fma (rdn : Bool) (a b c : FVal) : FVal × Bool :=
  let (p, nv) := a.mul b
  match p with
  | .nan _ => (.nan false, nv || c.isSig)
  | p => let (s, nv') := p.add rdn c; (s, nv || nv')

/-- Digits kept below the quotient's and root's leading one. -/
def guardBits : Nat := 128

/-- The quotient: value, sticky, NV, DZ. -/
def FVal.div (a b : FVal) : FVal × Bool × FlagSet :=
  match a, b with
  | .nan x, y => (.nan false, false, flIf (x || y.isSig) flNV)
  | _, .nan y => (.nan false, false, flIf y flNV)
  | .inf _, .inf _ => (.nan false, false, flNV)
  | .inf x, .fin n _ _ => (.inf (x != n), false, 0)
  | .fin n _ _, .inf y => (.fin (n != y) 0 0, false, 0)
  | .fin n m e, .fin n' m' e' =>
    if m' = 0 then (if m = 0 then (.nan false, false, flNV) else (.inf (n != n'), false, flDZ))
    else if m = 0 then (.fin (n != n') 0 0, false, 0)
    else
      let sh := guardBits + Nat.log2 m'
      let x := m <<< sh
      (.fin (n != n') (x / m') (e - e' - sh), x % m' != 0, 0)

/-- The integer square root of a number below 4^(i). -/
def isqrtFrom (n : Nat) : Nat → Nat → Nat
  | 0, r => r
  | i + 1, r => isqrtFrom n i (if (r + 2 ^ i) * (r + 2 ^ i) ≤ n then r + 2 ^ i else r)
def isqrt (n : Nat) : Nat := isqrtFrom n (Nat.log2 n / 2 + 1) 0

/-- The square root: value, sticky, NV. -/
def FVal.sqrt (a : FVal) : FVal × Bool × FlagSet :=
  match a with
  | .nan x => (.nan false, false, flIf x flNV)
  | .inf n => if n then (.nan false, false, flNV) else (.inf false, false, 0)
  | .fin n m e =>
    if m = 0 then (.fin n 0 0, false, 0)
    else if n then (.nan false, false, flNV)
    else
      let sh := 2 * guardBits + (e % 2).toNat
      let x := m <<< sh
      let r := isqrt x
      (.fin false r ((e - sh) / 2), r * r != x, 0)

/-- Order of two values that are not NaN: −1, 0 or 1; zeros are equal. -/
def FVal.cmp (a b : FVal) : Int :=
  match a, b with
  | .nan _, _ => 0
  | _, .nan _ => 0
  | .inf x, .inf y => if x = y then 0 else if x then -1 else 1
  | .inf x, .fin _ _ _ => if x then -1 else 1
  | .fin _ _ _, .inf y => if y then 1 else -1
  | .fin n m e, .fin n' m' e' =>
    let e0 := min e e'
    let x := signedAt n m e e0
    let y := signedAt n' m' e' e0
    if x < y then -1 else if y < x then 1 else 0

/-- VMIN and VMAX on codes that DAZ has been applied to: −0 below +0, a lone NaN gives the other operand (06 R147). -/
def FFmt.minMax (F : FFmt) (mx : Bool) (x y : Nat) : Nat × FlagSet :=
  let a := F.decode x
  let b := F.decode y
  let nv := flIf (a.isSig || b.isSig) flNV
  if a.isNan && b.isNan then (F.dnan, nv)
  else if a.isNan then (y, nv)
  else if b.isNan then (x, nv)
  else
    let c := a.cmp b
    let less := decide (c < 0) || (c == 0 && a.sign && !b.sign)
    (if less == mx then y else x, nv)

/-- A subnormal read as a zero of its sign (03 R69). -/
def FFmt.decodeDaz (F : FFmt) (daz : Bool) (x : Nat) : FVal :=
  if daz ∧ bitsN x (F.w - 2) F.f = 0 then .fin (bitN x (F.w - 1)) 0 0 else F.decode x

/-! ### Block elements and scales (03 R61 to R64) -/

/-- An E8M0 byte: its exponent, none for NaN. -/
def e8m0 (x : Nat) : Option Int := if x = 0xFF then none else some ((x : Int) - 127)

/-- The value of an MX element code before its scale (03 R61). -/
def mxElem (ty x : Nat) : FVal :=
  match ty with
  | 0x0D => e4m3.decode x
  | 0x0E => e5m2.decode x
  | 0x0F => e3m2.decode x
  | 0x10 => e2m3.decode x
  | 0x11 => e2m1.decode x
  | _ => let v := intVal 8 true x; .fin (decide (v < 0)) v.natAbs (-6)

def FVal.scale2 (v : FVal) (k : Int) : FVal :=
  match v with
  | .fin n m e => .fin n m (e + k)
  | v => v

/-- DecMX (03 R61). -/
def decMX (ty x sc : Nat) : FVal :=
  match e8m0 sc with
  | none => .nan false
  | some k => (mxElem ty x).scale2 k

/-- A DX element's selector, sign and magnitude (03 R62). -/
def dxSel (ty x : Nat) : Bool := bitN x (elemBits ty - 1)
def dxSign (ty x : Nat) : Bool := bitN x (elemBits ty - 2)
def dxMag (ty x : Nat) : Nat := x % 2 ^ (elemBits ty - 2)

/-- The decoded value of a DX element (03 R62). -/
def decDX (ty x x0 x1 : Nat) : FVal :=
  match e8m0 (if dxSel ty x then x1 else x0) with
  | none => .nan false
  | some k => .fin (dxSign ty x) (dxMag ty x) k

/-- The value of an FB element code before its scale (03 R63). -/
def fbElem (ty x : Nat) : FVal := if ty = 0x16 then e2m1.decode x else FVal.ofInt (intVal 4 true x)

/-- ScaleApply (03 R63). -/
def scaleApply (v s : FVal) : FVal :=
  match v, s with
  | .nan _, _ => .nan false
  | _, .nan _ => .nan false
  | v, s => (v.mul s).1

/-- DecFB (03 R63). -/
def decFB (ty x sc : Nat) : FVal := scaleApply (fbElem ty x) (e4m3.decode sc)

/-- Whether an FB scale byte is ±0 (03 R64). -/
def fbZeroScale (sc : Nat) : Bool := sc % 128 == 0

end Sys2Proof.Machine
end

