-- ==== Sys2Proof/Config.lean ====
section
/-! DEFINITION. What the spec leaves to the part or to the world outside it: constants with no body, of which nothing can
be proved. -/

namespace Sys2Proof.Config

/-- The time of the PTP clocks of the ingest ports, in ns, at a core cycle (18 R445, 17 R428 TIME). -/
opaque ptpNs : Nat → Nat

/-- By how much the timestamp of a frame lies off the port's clock: nine less than this number of ns, taken modulo 17 (18 R445): port, cycle. -/
opaque stampErr : Nat → Nat → Nat

/-- Whether the chip at the other end of a Benvas link has a maintenance window open: link, cycle (18 R444). -/
opaque peerWindow : Nat → Nat → Bool

/-- Whether a retention filter answers for a row that was never put into it: stack, filter, row (17 R420). -/
opaque bloomFalse : Nat → Bool → Nat → Bool

/-- The public key of the vendor's tree that signs the images of a component, as Onyx's ROM holds it (18 R450). -/
opaque vendorKey : Nat → List Byte

/-- Where a firmware image has what is signed, and its signature: the spec gives no layout (18 R450). -/
opaque imageBody : List Byte → List Byte
opaque imageSig : List Byte → List Byte

/-- Whether the bank of a row of a die's stack has a spare row left once so many rows of the stack are repaired (17 R434). -/
opaque rowSpare : Nat → Nat → Nat → Nat → Bool

/-- Whether a training step of a boot succeeds: UCIe, HBM4E, LPDDR-6, the Melper link, the Benvas links, in this order; the cycle (18 R449). -/
opaque trains : Nat → Nat → Bool

/-- The lanes a training of a stack finds failed, each with its channel: die, stack, cycle (17 R434). -/
opaque badLanes : Nat → Nat → Nat → List (Nat × Nat)

/-- The image a component was provisioned with, in its first slot (18 R449). -/
opaque factoryImage : Nat → List Byte

/-- The version a firmware image states (18 R449, R453). -/
opaque imageVersion : List Byte → Nat

/-- The device's attestation key: the start of each chain of each leaf, the key of the randomizer, the public seed (18 R451). -/
opaque attestChain : Nat → Nat → BitVec 256
opaque attestPrf : BitVec 256
opaque attestSeed : BitVec 256

/-- Byte `i` of the identity certificate that the vendor's provisioning tree has signed for a chip id and an attestation public key, and its length:
the spec gives no layout (18 R450, R451). -/
opaque identByte : Nat → List Byte → Nat → Byte
opaque identLen : Nat

/-- The layout of the repair record in the buffer RDREP names: byte `i` for the facts given (17 R436, 18 R439). -/
opaque repairByte : List Nat → Nat → Byte
opaque repairLen : Nat

/-- The channel `<9:5>` and bank `<4:0>` of an HBM4E address, as the BANK field of a machine-check entry gives them (17 R428). -/
opaque hbmBank : Nat → BitVec 10

/-- The bytes of a write set that a part holds on chip before it spills, and what it puts at a place of the spill region for a byte of the set: index, virtual
address, byte (15 R390). -/
opaque wsetChip : Nat
opaque spillByte : Nat → Nat → Byte → Byte

/-- Whether another chip accepts a handle: the chip, the context, the new backing address, the time (14 R378 REFUSED). -/
opaque chipAccepts : Nat → Nat → Nat → Nat → Bool

end Sys2Proof.Config
end

