-- ==== Sys2Proof/Machine/State.lean ====
section
/-! DEFINITION. The state of a CY9-A480 as plain data: everything the spec names for the package, its four dies, their
Skillets, tasks, engines and units, and the few fields of the model's own (`now`, `agenda`, `cur`, `curEng`,
`nextId`, `modSeq`). Numbered stores are sparse tables (Sys2Proof/Word.lean) whose unlisted entries hold the default. -/

namespace Sys2Proof.Machine

/-! ### One Skillet -/

/-- The three engines (01 R16). -/
inductive Engine where
  | C | A | V
  deriving DecidableEq, Repr

/-- What an exception reports (12 R299 0x20 to 0x30). With `mc` the access met no exception but an uncorrectable error, of that kind
at that physical address, on the way to its page or its race record (17 R413, R425, R427). -/
structure Report where
  code : Nat := 0
  addr : DWord := 0
  info : DWord := 0
  elem : Nat := 0
  level : Nat := 0
  entry : Nat := 0
  write : Bool := false
  fetch : Bool := false
  shadow : Bool := false
  async : Bool := false
  eng : Nat := 0
  mc : Option (Nat × Nat) := none
  deriving DecidableEq, Repr

/-- Where an engine stands (12 R295, R296, 01 R28): issuing, at the TEND or ERET word pair, at its stop point, or
stopped at the instruction that raised. -/
inductive EngStatus where
  | run | ended | stopped
  | faulted (r : Report)
  deriving DecidableEq, Repr

/-- One loop-stack entry (04 R101). -/
structure LoopEnt where
  start : Nat
  last : Nat
  left : DWord
  deriving DecidableEq, Repr

/-- One outcome-queue entry (01 R17). -/
structure OutEnt where
  addr : Nat
  taken : Bool
  val : DWord
  deriving DecidableEq, Repr

/-- One token-FIFO entry: a value (zero for a bare token), or the place a PFB reserved (01 R21, 05 R134). -/
inductive FifoEnt where
  | full (x : DWord)
  | held (pf : Nat)
  deriving DecidableEq, Repr

/-- One entry of a load or store queue (01 R26, 12 R298). -/
structure QEnt where
  data : VWord := 0
  en : LaneMask := 0
  poison : LaneMask := 0
  paddr : DWord := 0
  arrived : Bool := true
  deriving DecidableEq, Repr

/-- One pending quantisation entry (06 R153, 12 R298 0x2000). -/
structure WinEnt where
  ty : Nat := 0
  n : Nat := 0
  scales : BitVec 2048 := 0
  poison : BitVec 256 := 0
  valid : Bool := false
  deriving DecidableEq, Repr

/-- A stall in force: since when, and whether it waits inside the Skillet (01 R25). -/
structure Stall where
  since : Nat
  inside : Bool
  deriving DecidableEq, Repr

/-- The issue state one engine has to itself: program counter (01 R16), loop stack, top first (04 R101), a back-edge
test not yet made (04 R103: address of the word, sequential address after it), and where it stands. -/
structure Eng where
  pc : BitVec 56 := 0
  loops : List LoopEnt := []
  edge : Option (Nat × Nat) := none
  st : EngStatus := .run
  stall : Option Stall := none
  deriving DecidableEq, Repr

/-- A parked WAITA with what its word names (05 R131, R132), and the log2 of the page it stands on (12 R314). `woken` says that the granule was written, displaced or
unmapped since. -/
structure Watch where
  granule : Nat
  va : Nat
  d : BitVec 5
  tok : BitVec 4
  scope : BitVec 2
  acq : Bool
  since : Nat
  limit : DWord
  lg : Nat := 16
  woken : Bool := false
  deriving DecidableEq, Repr

/-- A prefetch under way (05 R134): its semaphore (die, index) and the FIFO entries it holds, by its number. -/
structure Prefetch where
  id : Nat
  sem : Option (Nat × Nat)
  deriving DecidableEq, Repr

/-- A declared footprint (09 R225). -/
structure Foot where
  base : Nat
  len : Nat
  w : Bool
  sp : Bool
  deriving DecidableEq, Repr

/-- What a window entry is (10 R246, R247). -/
inductive JobKind where
  | cpy | cpyg | cpys | cpyr
  | gmma | gdrain | gzero | gsave | grest | greshape
  | fwrd | fwstep (var : Nat) | fwseq | fwgrad | fwfade | fwzero | fwld | fwst
  deriving DecidableEq, Repr

/-- Where a job stands (10 R249, R250, R270, 09 R233): queued, waiting at its semaphore, served and ready to start,
running, halted on a fault, or committed by the Whisk with its signal still to make. -/
inductive JobState where
  | queued | waiting | ready | running
  | halted (r : Report)
  | committed
  deriving DecidableEq, Repr

/-- One job in a die's window (10 R247), with all it captured at issue. `ord` is its place among all accepted jobs, `rp` its
progress (09 R233, 18 R458), `rows` what a CPYG or CPYS read at its start, `sent` and `flagged` how far a CPYR's flag is, `stream` the
chunks a compress-check has seen; `hm` says that a handler issued it (12 R301). -/
structure Job where
  kind : JobKind
  seq : Nat
  srcDie : Nat
  sk : Nat
  tid : Nat
  launch : Nat
  asid : Nat
  taskId : DWord
  clk : Nat
  card : List DWord
  rec1 : List DWord := []
  rec2 : List DWord := []
  st : JobState := .queued
  slab : Nat := 0
  set : Nat := 0
  fmt : DWord := 0
  handle : DWord := 0
  rp : Nat := 0
  chunks : Nat := 0
  landed : List Nat := []
  rows : List Nat := []
  sat : Bool := false
  of : Bool := false
  nv : Bool := false
  zs : Bool := false
  sent : Bool := false
  flagged : Bool := false
  stream : Tbl Nat := []
  ord : Nat := 0
  hm : Bool := false
  deriving DecidableEq, Repr

/-- The task that issued a command to an engine: whom its asynchronous fault is reported to (12 R305). -/
structure Issuer where
  tid : Nat
  launch : Nat
  srcDie : Nat
  hm : Bool
  taskId : DWord
  deriving DecidableEq, Repr

/-- One item of a handle's order (14 R347): a Whisk job, or the action of an SH command with what it captured. A snapshot or fork
stands in its source's order; `mark` is the place an SHAVG or SHROLL of another handle takes in an operand's order (14 R376, R377). -/
inductive HItem where
  | job (die win : Nat)
  | new
  | snap (dst : DWord) (fork : Bool)
  | mark (dst : DWord) (tok m : Nat)
  | avg (tok : Nat) (list : List (DWord × Nat))
  | roll (tok : Nat) (src : DWord)
  | move (desc0 desc1 : DWord)
  | pin (on : Bool) (by_ : Issuer)
  | free
  deriving DecidableEq, Repr

/-- The SH commands (14 R371). -/
inductive ShOp where
  | new | snap | fork | avg | roll | move | pin | free | stat
  deriving DecidableEq, Repr

/-- What the retirement of a waiting command needs of its word: destination and token field. -/
structure Ret where
  d : BitVec 6
  tok : BitVec 4
  deriving DecidableEq, Repr

/-- A long-form command that has issued and is not yet accepted, or is accepted and has not yet acted (01 R23): what the
C-engine stands at, with what the command captured at issue. -/
inductive PendCmd where
  | accept (die : Nat) (j : Job) (r : Ret)    -- waits for a window entry or queue space (09 R226, 10 R247)
  | grant (slab : Nat) (r : Ret)              -- GLEASE in the round-robin (09 R218)
  | act (slab win : Nat) (r : Ret)            -- GRESHAPE accepted and not yet acted (09 R241)
  | free (slab : Nat) (r : Ret)               -- GFREE waiting for the queue to empty (09 R242)
  | sem (die idx : Nat) (tok : BitVec 4)      -- SWAIT in the queue of a semaphore (10 R271)
  | spin (since : Nat) (a : DWord)            -- JOIN spinning on a counter (07 R181)
  | phase (g p w : Nat) (elect : Bool) (r : Ret)  -- a phase wait of a group (10 R275)
  | whisk (j : Job) (r : Ret)                 -- a Whisk command before acceptance (14 R367)
  | handle (op : ShOp) (a b : DWord) (cap : List DWord) (r : Ret)  -- an SH command before acceptance (14 R371)
  deriving DecidableEq, Repr

/-- What a V-engine word that has issued leaves when it retires: its flags, and the draw state after its draws (03 R71). -/
structure VLeft where
  fl : DWord
  seed : DWord
  deriving DecidableEq, Repr

/-- The issue state of the running program: the three engines, their registers and the queues between them (01). `vret` is a V-engine word that
has issued and not yet retired, `waitFrom` when the WAITA at which the A-engine stands first read at a turn (05 R131, 15 R391). -/
structure Issue where
  c : Eng := {}
  a : Eng := {}
  v : Eng := {}
  s : Tbl DWord := []
  ar : Tbl DWord := []
  aP : BitVec 32 := 0
  k : Tbl DWord := []
  kP : BitVec 16 := 0
  m : Tbl LaneMask := []
  vr : Tbl VWord := []
  vP : Tbl LaneMask := []
  vl : Nat := 2048
  wp : Nat := 0
  qn : Nat := 0
  win : Tbl WinEnt := []
  cst : Tbl DWord := []
  dA : Int := 0
  dV : Int := 0
  oqa : List OutEnt := []
  oqv : List OutEnt := []
  ca : List FifoEnt := []
  cv : List FifoEnt := []
  av : List FifoEnt := []
  va : List FifoEnt := []
  ac : List FifoEnt := []
  vc : List FifoEnt := []
  lq0 : List QEnt := []
  lq1 : List QEnt := []
  sq0 : List QEnt := []
  sq1 : List QEnt := []
  slipw : Nat := 64
  fpctl : DWord := 0
  srseed : DWord := 0
  remt : DWord := 0
  mbox : Tbl DWord := []
  watch : Option Watch := none
  waitFrom : Option Nat := none
  vret : Option VLeft := none
  pfs : List Prefetch := []
  cmd : Option PendCmd := none
  deriving DecidableEq, Repr

/-- The states of a deque entry (07 R165). -/
inductive FrameState where
  | ready | claimed | taken | invalid
  deriving DecidableEq, Repr

/-- A task frame (07 R165). -/
structure Frame where
  entry : Nat := 0
  rscope : Nat := 0
  taskId : DWord := 0
  jctr : DWord := 0
  arg0 : DWord := 0
  arg1 : DWord := 0
  arg2 : DWord := 0
  arg3 : DWord := 0
  range : Bool := false
  owner : Nat := 0
  claimer : Nat := 0
  state : FrameState := .ready
  stolen : Bool := false
  idem : Bool := false
  wide : Bool := false
  wscope : Nat := 0
  count : Nat := 1
  deriving DecidableEq, Repr

/-- An arrival kept across a stop (10 R276, 12 R298). -/
structure Arrival where
  elect : Bool
  group : Nat
  phase : Nat
  deriving DecidableEq, Repr

/-- A lease saved with its task (09 R221, 12 R298 0x4000). -/
structure SavedLease where
  sref : DWord
  set : Nat
  budget : Nat
  fmts : List DWord
  deriving DecidableEq, Repr

/-- A byte of a write set: its value and the virtual address stored to (15 R390). -/
structure WByte where
  b : Byte
  va : Nat
  deriving DecidableEq, Repr

/-- The determinism state of a task at D2 and D3 (15 R390): device and host memory at the snapshot point, the point's number, and the
write set, keyed by physical address, that of a byte of host memory from 2^52. -/
structure Snap where
  mem : List Host.Cell
  hmem : List Host.Cell
  at_ : Nat
  wset : Tbl WByte
  deriving DecidableEq, Repr

/-- Why a Skillet's engines are asked to stop (12 R296, R309, 07 R181, R183). -/
inductive StopWhy where
  | trap | checkpoint | kill | join | yield | asyncFault
  deriving DecidableEq, Repr

/-- What belongs to a task and lies outside the registers of its engines: kept in place while a handler runs, and saved
with the task. -/
structure TaskInfo where
  id : Nat := 0
  launch : Nat := 0
  frame : Frame := {}
  teamId : DWord := 0xFFFFFFFFFFFFFFFF
  teamSlot : Nat := 0
  sclk : Nat := 1
  stampL : DWord := 0
  killOk : Bool := true
  started : Bool := false
  arr : Option Arrival := none
  saved : List SavedLease := []
  snap : Option Snap := none
  turn : Option Engine := none
  granted : Bool := false
  pend : List (Nat × Report) := []
  stop : Option StopWhy := none
  step : Option Engine := none
  stepDone : Bool := false
  drain : Option Nat := none
  preempt : Option Nat := none
  yielded : Bool := false
  released : Bool := false
  deriving DecidableEq, Repr

/-- A handler run in progress (12 R301 to R303, R306). `reached`: all three engines stand at the ERET. -/
structure Handler where
  base : Nat
  cause : DWord
  taddr : DWord
  tinfo : DWord
  jobctl : DWord := 0
  job : Option DWord := none
  decided : Bool := false
  reached : Bool := false
  since : Nat
  deriving DecidableEq, Repr

/-- One TLB entry (12 R293): context, virtual page address, log2 of the page size, the leaf's doubleword and level. -/
structure TlbEnt where
  asid : Nat
  va : Nat
  lg : Nat
  pte : DWord
  level : Nat
  deriving DecidableEq, Repr

/-- A steal between claim and take (07 R174): victim, share fixed at the claim, transferred frame, whose CLAIMER is the thief that claimed it, its
launch; `drain` is when a pre-emption chose to let it run on (R175). -/
structure Claim where
  victim : Nat
  h : Nat
  frame : Frame
  launch : Nat
  drain : Option Nat := none
  deriving DecidableEq, Repr

/-- One Skillet. `tried` holds the victims of its steal round so far, `pool` that a round has failed and only a dispatch decision gives it work (07
R173, 13 R335). -/
structure Skillet where
  fenced : Bool := false
  halted : Option Nat := none
  launch : Option Nat := none
  busy : Bool := false
  reserved : Bool := false
  hw : List Frame := []
  tried : List Nat := []
  pool : Bool := false
  claim : Option Claim := none
  atlb : List TlbEnt := []
  handler : Option Handler := none
  keep : Option (Option (Nat × Nat) × Option (Nat × Nat) × Option (Nat × Nat)) := none
  scr : Tbl Byte := []
  t : Issue := {}
  info : TaskInfo := {}
  deriving DecidableEq, Repr

/-! ### One die -/

/-- A remote-dirty line: the bytes written, by offset; the offsets listed are the byte mask (08 R197). -/
structure DirtyLine where
  line : Nat
  bytes : Tbl Byte
  deriving DecidableEq, Repr

/-- A host-attribute line a die holds (08 R198). -/
structure HostLine where
  data : List Byte
  dirty : Bool
  deriving DecidableEq, Repr

/-- Who waits on a semaphore (10 R270). -/
inductive Waiter where
  | task (sk : Nat) (n : Nat) (keep : Bool)
  | job (die win : Nat)
  deriving DecidableEq, Repr

/-- One semaphore (10 R269). -/
structure Sem where
  value : Nat := 0
  sov : Bool := false
  clk : Nat := 0
  q : List Waiter := []
  deriving DecidableEq, Repr

/-- One completion-bitmap slot (10 R258, R260, R267). -/
structure BSlot where
  bits : BitVec 4096 := 0
  count : Nat := 0
  trunc : Bool := false
  sat : Bool := false
  of : Bool := false
  nv : Bool := false
  clk : Nat := 0
  deriving DecidableEq, Repr

/-- The states of an accumulator set (09 R217). -/
inductive SetState where
  | empty | clean | live
  deriving DecidableEq, Repr

/-- One accumulator set: state, type (0 FP32, 1 FP64, 2 INT32, 3 EMPTY, 09 R239) and elements by m × 2048 + n. -/
structure ASet where
  st : SetState := .empty
  aty : Nat := 3
  data : Tbl DWord := []
  deriving DecidableEq, Repr

/-- The lease in force on a slab (09 R218, R219, R222). `idle` is the cycle its idle time counts from (R220). -/
structure Lease where
  sk : Nat
  set : Nat
  budget : Nat
  fmts : List DWord
  idle : Nat
  deriving DecidableEq, Repr

/-- A Skillet waiting for a grant: a GLEASE's set and budget, or a saved lease (09 R218, R221), and the cycle it began to wait in:
requests of one cycle take the round-robin order together (09 R245). -/
structure LWait where
  sk : Nat
  set : Nat
  budget : Nat
  fmts : List DWord
  saved : Bool
  since : Nat
  deriving DecidableEq, Repr

/-- One slab (09 R215 to R243). `closing`: a GFREE waits for its queue; `freer` is the task that issued it. -/
structure Slab where
  gen : Nat
  lh : Nat
  lw : Nat
  y0 : Nat
  x0 : Nat
  launch : Nat
  sets : Tbl ASet := []
  ptr : Nat := 31
  lease : Option Lease := none
  waiters : List LWait := []
  queue : List Nat := []
  pr : Bool := false
  sat : Bool := false
  of : Bool := false
  nv : Bool := false
  zs : Bool := false
  abort : Bool := false
  halt : Bool := false
  rp : Nat := 0
  closing : Bool := false
  freer : Nat := 0
  deriving DecidableEq, Repr

/-- A captured launch packet with its record, and the waiting state of a head (13 R322 to R328, R333, R334). `compl` is the physical
address of the completion record, plus 2^52 in host memory. -/
structure Head where
  pkt : List DWord
  recd : List DWord
  gtab : List Nat
  compl : Nat
  skip : Nat := 0
  age : Nat := 0
  skipAt : Option Nat := none
  deriving DecidableEq, Repr

/-- One hardware queue slot (13 R318 to R321). `unmapDue`: it is to be unmapped for its TAIL once its die's Garnet is back (18 R453, R456). -/
structure QSlot where
  qid : Nat
  desc : Nat
  asid : Nat
  base : Nat
  lg : Nat
  prio : Nat
  ptmax : Nat
  tail : Nat
  head : Nat
  order : Option Nat := none
  ready : Option Head := none
  unmapDue : Bool := false
  deriving DecidableEq, Repr

/-- Unmapped slot's last queue, for a notify that follows (13 R321): QID and descriptor. -/
structure QLast where
  qid : Nat
  desc : Nat
  deriving DecidableEq, Repr

/-- One die's part of a queue's record log (15 R396 to R402). -/
structure LogSt where
  cl0 : Bool := false
  cl1 : Bool := false
  cur : Nat := 0
  ncur : Nat := 0
  buf : List (DWord × DWord) := []
  done : Bool := false
  deriving DecidableEq, Repr

/-- One slot of a die's machine-check ring as Garnet holds it (17 R427 to R430): the entry's doubleword 0, and for an
entry that halted a task the Skillet or saved task, its launch, and when it was written. -/
structure McEnt where
  dw0 : DWord
  asid : Nat
  taskId : DWord := 0
  sk : Option Nat := none
  tid : Nat := 0
  launch : Nat := 0
  fence : Bool := false
  since : Nat := 0
  deriving DecidableEq, Repr

/-- A scrub guard (17 R424). -/
structure Guard where
  granule : Nat
  count : Nat
  fixed : Bool
  deriving DecidableEq, Repr

/-- One HBM stack and its Spinel (17 R420 to R425, R434): `sweep` is when its last catch-up sweep began, `taken` that the controller
refreshes, `back` that Spinel's own sweep after a takeover is its last one, `hotAt` when it last crossed 95 °C, `demoted` what the controller
recorded meanwhile, `learned` demotions not yet in the repair record, `scrubAt` the place of the scrubber in the granules of the stack. Stack 2
of a die stands for its LPDDR-6, of which only the rows refreshed, the scrubber and the guards are used (R419). -/
structure Stack where
  filterA : Option (List Nat) := none
  filterB : Option (List Nat) := none
  hot : Bool := false
  hotAt : Nat := 0
  sweep : Option Nat := none
  taken : Bool := false
  back : Bool := false
  beat : Nat := 0
  refreshed : Tbl Nat := []
  demoted : List Nat := []
  learned : List Nat := []
  candidates : List Nat := []
  repaired : List Nat := []
  scrubAt : Nat := 0
  guards : List Guard := []
  deriving DecidableEq, Repr

/-- The repair record of a die as applied at boot and added to since (17 R436). `sparesUsed` counts the spare Skillets ever mapped: one that failed is
not mapped again (00 R1); `physOf` lists the logical Skillets behind which a spare stands, `bankMap` the Crock banks for which one does, `banksBad` the
physical banks that have failed, `lanes` the lanes mapped to spare ones, by stack (256 × channel + lane). -/
structure RepairRec where
  spareCols : Tbl Nat := []
  retired : BitVec 256 := 0
  physOf : Tbl Nat := []
  fenced : BitVec 32 := 0
  bankMap : Tbl Nat := []
  banksBad : List Nat := []
  rows : Tbl (List Nat) := []
  lanes : Tbl (List Nat) := []
  sparesUsed : Nat := 0
  retention : Tbl (List (Nat × Nat)) := []
  deriving DecidableEq, Repr

/-- One compute die. `garnetAt` is when its Garnet is last known to have run (17 R435), `tcache` holds the
tensor-handle entries its layout unit has read, by ASID × 4,096 + entry (17 R415). -/
structure Die where
  alive : Bool := true
  dirty : List DirtyLine := []
  clean : Tbl (List Byte) := []
  hostLines : Tbl HostLine := []
  tlb : List TlbEnt := []
  gtlb : List TlbEnt := []
  watches : List Nat := []
  sems : Tbl Sem := []
  slots : Tbl BSlot := []
  jobSeq : Nat := 0
  window : Tbl Job := []
  cengs : List Nat := []
  slabs : Tbl Slab := []
  slabGen : Tbl Nat := []
  retired : BitVec 256 := 0
  pendRet : BitVec 256 := 0
  underTest : BitVec 256 := 0
  spareCols : Tbl Nat := []
  wq : List Nat := []
  wrun : Option Nat := none
  rs : List Nat := []
  rel : List Nat := []
  crockCap : Nat := 512
  bankBad : List Nat := []
  garnetAt : Nat := 0
  qslots : Tbl QSlot := []
  qlast : Tbl QLast := []
  resume : List Nat := []
  logs : Tbl LogSt := []
  draining : Option Nat := none
  invasid : DWord := 0
  invctl : DWord := 0
  invlen : DWord := 0
  invst : DWord := 0
  mcring : DWord := 0
  mcovf : DWord := 0
  cec : Tbl DWord := []
  layinv : DWord := 0
  tcache : Tbl (List Nat) := []
  rxdrop : DWord := 0
  ndrop : Tbl DWord := []
  mcSeq : Nat := 0
  ring : Tbl McEnt := []
  hbm : Tbl Stack := []
  maint : Bool := false
  repair : RepairRec := {}
  deriving DecidableEq, Repr

/-! ### Launches, saved tasks, handles -/

/-- How a launch ends (13 R340). -/
structure EndWhy where
  status : Nat
  code : Nat
  die : Nat
  taskId : DWord := 0
  info : DWord := 0
  deriving DecidableEq, Repr

/-- One group instance of a resident or swapped team (10 R274 to R277). `done` keeps the release clock of each completed phase, `elects` the
slots that arrived by ELECT, in their order. -/
structure GroupInst where
  phase : Nat := 0
  arrived : BitVec 32 := 0
  clk : Nat := 0
  done : Tbl Nat := []
  elects : List Nat := []
  winner : Option Nat := none
  deriving DecidableEq, Repr

/-- One team: where it is resident, since when, which members have reached TEND, its group instances (13 R327, R338). -/
structure Team where
  die : Nat
  base : Option Nat
  since : Nat
  ended : BitVec 32 := 0
  groups : Tbl GroupInst := []
  deriving DecidableEq, Repr

/-- A batch outstanding on a die (13 R330): its first iteration or team, how many, how many are handed out, and how many
tasks of it (descendants included) have not yet reached TEND. -/
structure Batch where
  die : Nat
  first : Nat
  n : Nat
  handed : Nat
  live : Nat
  deriving DecidableEq, Repr

/-- The sync clock a spawned child or a range of children starts with (08 R205): root, first SEQ, count, clock. -/
structure SpawnClk where
  root : Nat
  first : Nat
  n : Nat
  clk : Nat
  deriving DecidableEq, Repr

/-- A running launch (13 R322 to R340). `rings` holds BOT and NSP of every spill area in use; `startOn` says when it first ran on a die, `measured` on which
dies its class has been measured (R339). -/
structure Launch where
  asid : Nat
  qid : Nat
  home : Nat
  prio : Nat
  pt : Nat
  pkt : List DWord
  recd : List DWord
  gtab : List Nat
  compl : Nat
  gang : Bool
  tag : Nat
  level : Nat
  flen : Nat
  wsbase : Nat
  dies : List Nat
  lost : List Nat := []
  next : Nat := 0
  stopped : Bool := false
  batches : List Batch := []
  reissue : Tbl (List Nat) := []
  redraw : List (Nat × Nat) := []
  seqs : Tbl Nat := []
  clks : List SpawnClk := []
  rings : Tbl (Nat × Nat) := []
  teams : Tbl Team := []
  swapped : List Nat := []
  ndone : Nat := 0
  live : Nat := 0
  started : Option Nat := none
  startOn : Tbl Nat := []
  measured : List Nat := []
  stealFail : Tbl Nat := []
  turns : List Nat := []
  ending : Option EndWhy := none
  cls : Option Bool := none
  deriving DecidableEq, Repr

/-- A checkpointed or suspended task, whose issue state lies in a save record, and the Skillet it ran on (12 R298, R310, 07
R181). `swap`: it was saved with its whole team and resumes with it (13 R338). -/
structure Saved where
  info : TaskInfo
  sk : Nat
  base : Nat
  pool : Nat
  die : Nat
  asid : Nat
  taken : Option Claim := none
  keep : Option (Option (Nat × Nat) × Option (Nat × Nat) × Option (Nat × Nat)) := none
  halted : Bool := false
  swap : Bool := false
  deriving DecidableEq, Repr

/-- Residence of a handle (14 R345). -/
inductive Residence where
  | resident | parked | moving | away
  deriving DecidableEq, Repr

/-- An operand's image as it stood at its place, kept for the action numbered `tok`; not `ok` where the place lies behind an SHFREE
or the image could not be read (14 R376, R377, R380). -/
structure Kept where
  tok : Nat
  m : Nat
  ok : Bool
  nextSeq : Nat := 0
  die : Nat := 0
  pages : List Nat := []
  pois : Bool := false
  image : Tbl Byte := []
  deriving DecidableEq, Repr

/-- One state handle (14 R343 to R351, R381). `made` says that its creating action has acted, `ord` is its handle order, `used` its
recency, `sent` the packets of a move already sent. -/
structure Handle where
  value : DWord
  asid : Nat
  nh : Nat
  dk : Nat
  dv : Nat
  snapshot : Bool
  res : Residence
  die : Nat
  nextSeq : Nat := 0
  pin : Option Nat := none
  pf : Bool := false
  pois : Bool := false
  nv : Bool := false
  of : Bool := false
  backing : Nat
  image : Tbl Byte := []
  pages : List Nat := []
  ord : List HItem := []
  used : Nat := 0
  awayChip : Nat := 0
  made : Bool := false
  kept : List Kept := []
  sent : Nat := 0
  deriving DecidableEq, Repr

/-! ### Links, ports, firmware -/

/-- One Benvas link (18 R442 to R444): `out`, `acksSent` and `naksSent` are what it has put on its wire, in order, `out` with the SEQ of each packet; `cursor` is
the next SEQ of a replay in progress, `waiting` what has not found room in the replay buffer, `ackDue` says since when a packet is unacknowledged. -/
structure Link where
  up : Bool := true
  wide : Bool := true
  badLanes : BitVec 16 := 0
  retraining : Bool := false
  nextSeq : Nat := 0
  acked : Nat := 65535
  replay : List (Nat × Packet) := []
  cursor : Option Nat := none
  waiting : List Packet := []
  lastAck : Nat := 0
  expect : Nat := 0
  sinceAck : Nat := 0
  ackDue : Option Nat := none
  acksSent : List Nat := []
  naksSent : List Nat := []
  out : List (Nat × Packet) := []
  deriving DecidableEq, Repr

/-- One stream descriptor as captured (18 R446) with the port's own tail count. -/
structure Stream where
  dws : List DWord
  tail : Nat := 0
  sdrop : DWord := 0
  deriving DecidableEq, Repr

/-- One classifier entry of a port (18 R445). -/
structure ClassEnt where
  dmac : Nat
  vlan : Nat
  udp : Nat
  deriving DecidableEq, Repr

/-- One ingest port (18 R445 to R448). -/
structure Port where
  cls : Tbl ClassEnt := []
  buf : List (Nat × Frame802) := []
  streams : Tbl Stream := []
  deriving DecidableEq, Repr

/-- One firmware component (18 R449, R453): the two image slots (version, image), the slot running, the least version
admitted. -/
structure Firm where
  ver0 : Nat := 0
  img0 : List Byte := []
  ver1 : Nat := 0
  img1 : List Byte := []
  slot : Nat := 0
  minVer : Nat := 0
  deriving DecidableEq, Repr

/-- An update in progress (18 R453). -/
structure Updating where
  comp : Nat
  old : Firm
  ver : Nat
  since : Nat
  deriving DecidableEq, Repr

/-- A queue's level table entry (15 R386, R387). -/
structure Level where
  lvl : Nat
  mode : Nat
  asid : Nat
  logBase : Nat
  log2h : Nat
  wsbase : Nat
  flen : Nat
  deriving DecidableEq, Repr

/-- One row of the task entry table (01 R40, R42). -/
structure Entry where
  addr : Nat
  idem : Bool
  deriving DecidableEq, Repr

/-- One classified launch (13 R339): key, class and when last used. -/
structure ClassRow where
  asid : Nat
  recd : Nat
  compute : Bool
  used : Nat
  deriving DecidableEq, Repr

/-- A change of a memory byte by a merge or a job, while a D2 or D3 launch runs (15 R392). -/
structure Mod where
  pa : Nat
  at_ : Nat
  tid : Nat
  info : DWord
  deriving DecidableEq, Repr

/-- What the agenda lists: an engine's decode step, or an event row of the opcode table. -/
inductive Choice where
  | engine (sk : Nat) (e : Engine)
  | event (i : Instr)
  deriving DecidableEq, Repr

/-- The whole machine. `recOf` says which race records hold accesses to a granule of device memory: a host or ingest write
empties them (08 R206). `moves` are the packets of handles on their way here (14 R378). -/
structure State where
  now : Nat := 0
  agenda : List (Nat × Choice) := []
  cur : Nat := 0
  curEng : Engine := .C
  nextId : Nat := 1
  chipId : BitVec 12 := 0
  mem : List Host.Cell := []
  poison : List Nat := []
  recOf : Tbl (List Nat) := []
  hostMem : List Host.Cell := []
  hostCopies : List Nat := []
  backInv : List Nat := []
  sks : Tbl Skillet := []
  dies : Tbl Die := []
  launches : Tbl Launch := []
  saved : Tbl Saved := []
  tagCtr : Tbl Nat := []
  classTbl : List ClassRow := []
  levels : Tbl Level := []
  handles : Tbl Handle := []
  handleGen : Tbl Nat := []
  entries : Tbl (List Entry) := []
  routes : Tbl (BitVec 6) := []
  inbound : Tbl (Nat × Nat) := []
  moves : List Packet := []
  ttbl : Tbl Nat := []
  ctxtbl : DWord := 0
  mdoor : DWord := 0
  mstat : DWord := 0
  mcb : Tbl DWord := []
  links : Tbl Link := []
  melperHalf : Nat × Nat := (0, 0)
  melperUp : Bool := true
  ucieDown : List (Nat × Nat) := []
  griddleMHz : Nat := 1600
  throttled : Option Nat := none
  throttledAt : Nat := 0
  powered : Bool := true
  ports : Tbl Port := []
  leafCtr : Nat := 0
  signedAt : Option Nat := none
  dirCap : Nat := 2 ^ 28 - 1
  firm : Tbl Firm := []
  updating : Option Updating := none
  tripLog : List Nat := []
  modSeq : Nat := 0
  mods : List Mod := []
  notifySeq : Nat := 0
  bootFail : Bool := false
  deriving DecidableEq, Repr

/-- Why the machine stops. -/
inductive Fault where
  /-- Raised by `step` and every event once power is removed from the compute dies (18 R455) or lost (18 R451), until COLD_RESET.
  Safe: nothing runs without power. -/
  | unpowered
  deriving DecidableEq, Repr

/-- Why a choice has no meaning. -/
inductive Refusal where
  /-- Answered by an arm of Dispatch whose instruction has no meaning yet. Safe. -/
  | notModelled (mnemonic : String)
  /-- Answered by `step` when the agenda lists an instruction word as an event; the agenda is the model's own. Safe. -/
  | notAnEvent
  deriving DecidableEq, Repr

/-- The machine right after cold reset (18 R449, the Reset columns): every field at the value its default names. Nothing
is mapped, queued or running; registers read as R30 and R93 give them at task start. Provisioned facts (chip id, repair
record, leaf counter, directory capacity) stand at the values log 6 names. -/
def State.reset : State := {}

end Sys2Proof.Machine
end

