-- ==== Sys2Proof/Machine/Mem.lean ====
section
/-! DEFINITION. Memory: the bytes at their home, the layout aperture, remote copies kept by a die, host-attribute lines, and
what a write performed at the home brings about (08 R186, R187, R197, R198, 17 R412 to R417, R424, R425, 05 R132). -/

namespace Sys2Proof.Machine

/-! ### Where things stand -/

def State.die (s : State) (d : Nat) : Die := Tbl.look {} s.dies d
def State.updDie (s : State) (d : Nat) (f : Die → Die) : State := { s with dies := Tbl.upd {} s.dies d f }
def State.sk (s : State) (k : Nat) : Skillet := Tbl.look {} s.sks k
def State.updSk (s : State) (k : Nat) (f : Skillet → Skillet) : State := { s with sks := Tbl.upd {} s.sks k f }

/-- The die of a package Skillet number (00 R4). -/
def dieOf (k : Nat) : Nat := k / 32

/-! ### Bytes -/

/-- What a byte of memory that nothing has written reads as (DESIGN CHOICE, log 1). -/
def memUnlisted : Byte := 0

def rdB (m : List Host.Cell) (a : Nat) : Byte := Tbl.look memUnlisted m a
def wrB (m : List Host.Cell) (a : Nat) (b : Byte) : List Host.Cell := Tbl.set memUnlisted m a b

/-- The canonical form of a memory: addresses strictly rising, no entry equal to what an unlisted byte reads as. -/
def Memory.wf (m : List Host.Cell) : Bool := Tbl.wf memUnlisted m

def rdBytes (m : List Host.Cell) (a : Nat) : Nat → List Byte
  | 0 => []
  | n + 1 => rdB m a :: rdBytes m (a + 1) n

def wrCells (m : List Host.Cell) : List (Nat × Byte) → List Host.Cell
  | [] => m
  | (a, b) :: r => wrCells (wrB m a b) r

/-- Bytes laid from an address upwards. -/
def cellsAt (a : Nat) : List Byte → List (Nat × Byte)
  | [] => []
  | b :: r => (a, b) :: cellsAt (a + 1) r

/-- The little-endian number of `n` bytes at an address (00 R6). -/
def rdNat (m : List Host.Cell) (a n : Nat) : Nat := ofLe (rdBytes m a n)

/-- A doubleword at an address. -/
def rdDW (m : List Host.Cell) (a : Nat) : DWord := dw (rdNat m a 8)

/-! ### The physical map -/

/-- The die whose memory controller owns a physical address of HBM4E or LPDDR-6 (17 R412). -/
def homeOf (pa : Nat) : Option Nat :=
  if pa < 0x8000000000 then some (pa / 0x2000000000)
  else if pa < 0x10000000000 then some ((pa - 0x8000000000) / 0x2000000000)
  else none

/-- Die, tensor-handle index and view offset of a layout-aperture address (17 R414). -/
def apertureOf (pa : Nat) : Option (Nat × Nat × Nat) :=
  if bitsN pa 51 48 = 1 then some (bitsN pa 47 46, bitsN pa 45 34, bitsN pa 33 0) else none

/-- The stack of a die that holds an HBM4E address, and the row it stands in (17 R412; the row size is the model's,
log 20). -/
def stackOf (pa : Nat) : Nat := bitsN pa 12 12
def rowOf (pa : Nat) : Nat := bitsN pa 36 13

/-! ### Writes performed at the home -/

/-- Who performs a write: the parked engine a watch must not answer for is told by `engine`; merges and jobs are told
apart for 15 R392; `through` is a die that writes through what its engines stored before. -/
inductive Writer where
  | engine (sk : Nat)
  | unit
  | job (tid : Nat) (info : DWord)
  | merge (tid : Nat) (info : DWord)
  | port
  | host
  | through (die : Nat)
  deriving DecidableEq, Repr

/-- Whether a write wakes the watch of a Skillet: not the writer's own, and what a die writes through woke that die's watches when it was
stored (05 R132). -/
def Writer.wakes (by_ : Writer) (k : Nat) : Bool :=
  match by_ with
  | .engine j => k != j
  | .through d => dieOf k != d
  | _ => true

/-- The 64-byte lines that a list of byte writes touches. -/
def linesOf (ws : List (Nat × Byte)) : List Nat := (ws.map (fun c => c.1 / 64)).eraseDups

/-- Whether the writes cover all 64 bytes of a granule (17 R425). -/
def coversLine (ws : List (Nat × Byte)) (line : Nat) : Bool :=
  (List.range 64).all (fun i => ws.any (fun c => c.1 == line * 64 + i))

/-- Wakes the watches that the Skillets which satisfy `p` have armed on the lines (05 R132, R133). -/
def State.wake (s : State) (lines : List Nat) (p : Nat → Bool) : State :=
  { s with sks := s.sks.map (fun (k, x) =>
      match x.t.watch with
      | some w =>
        if lines.contains w.granule && p k then
          (k, { x with t := { x.t with watch := some { w with woken := true } } })
        else (k, x)
      | none => (k, x)) }

/-- Raises the count of every open scrub guard on the lines (17 R424). -/
def Die.countGuards (D : Die) (lines : List Nat) : Die :=
  { D with hbm := D.hbm.map (fun (k, x) =>
      (k, { x with guards := x.guards.map (fun g =>
        if lines.contains g.granule then { g with count := g.count + 1 } else g) })) }

/-- Whether a launch at D2 or D3 runs (15 R392). -/
def State.snapping (s : State) : Bool := s.launches.any (fun e => decide (2 ≤ e.2.level))

/-- The record of changed bytes that merges are checked against (15 R392). -/
def State.noteMods (s : State) (ws : List (Nat × Byte)) (by_ : Writer) : State :=
  let put (tid : Nat) (info : DWord) : State :=
    if s.snapping then
      { s with modSeq := s.modSeq + 1, mods := ws.map (fun c => ⟨c.1, s.modSeq + 1, tid, info⟩) ++ s.mods }
    else s
  match by_ with
  | .job t i => put t i
  | .merge t i => put t i
  | _ => s

/-- Writes a die's dirty copy of a host line back and keeps it clean (08 R198, 12 R315); over a link that is down nothing goes back (18
R440). -/
def State.hostBack (s : State) (d line : Nat) : State :=
  match Tbl.find (s.die d).hostLines line with
  | some x =>
    if x.dirty ∧ s.melperUp then
      let s := s.updDie d (fun D => { D with hostLines := Tbl.put D.hostLines line ⟨x.data, false⟩ })
      { s with hostMem := wrCells s.hostMem (cellsAt (line * 64) x.data) }
    else s
  | none => s

/-- Drops a die's copy of a host line after writing it back; one that cannot go back stays. -/
def State.hostDrop (s : State) (d line : Nat) : State :=
  let s := s.hostBack d line
  if (Tbl.find (s.die d).hostLines line).any (·.dirty) then s
  else s.updDie d (fun D => { D with hostLines := Tbl.del D.hostLines line })

/-- The dies of the package. -/
def allDies : List Nat := [0, 1, 2, 3]

/-- A host or ingest write empties the race records of the granules it touches (08 R206). -/
def State.emptyRecs (s : State) (ls : List Nat) (by_ : Writer) : State :=
  if by_ = .host ∨ by_ = .port then
    let rs := ls.flatMap (fun l => Tbl.look [] s.recOf l)
    let s := (rs.filter (fun r => decide (2 ^ 52 ≤ r))).foldl (fun s r =>
      allDies.foldl (fun s d => s.hostDrop d ((r - 2 ^ 52) / 64)) s) s
    let off (base : Nat) (c : Host.Cell) : Bool := !rs.any (fun r => decide (r ≤ base + c.1) && decide (base + c.1 < r + 32))
    { s with mem := s.mem.filter (off 0)
             hostMem := s.hostMem.filter (off (2 ^ 52))
             recOf := s.recOf.filter (fun e => !ls.contains e.1) }
  else s

/-- What a write to some lines at their home brings about beside the bytes: race records emptied (08 R206), the watches woken (05 R132), the
scrub guards counted (17 R424), the back-invalidations of host copies (08 R187, R198). -/
def State.touchLines (s : State) (ls : List Nat) (by_ : Writer) : State :=
  let s := (s.emptyRecs ls by_).wake ls by_.wakes
  let snooped := ls.filter (fun l => s.hostCopies.contains l && by_ != .host)
  { s with
    dies := s.dies.map (fun (k, D) => (k, D.countGuards ls))
    hostCopies := s.hostCopies.filter (fun l => !snooped.contains l)
    backInv := s.backInv ++ snooped.filter (fun l => !s.backInv.contains l) }

/-- Byte writes performed at the home of device memory: the bytes, the poison a full granule clears (17 R425), and all that a write of their
lines brings about. -/
def State.land (s : State) (ws : List (Nat × Byte)) (by_ : Writer) : State :=
  let s := (s.touchLines (linesOf ws) by_).noteMods ws by_
  { s with mem := wrCells s.mem ws, poison := s.poison.filter (fun g => !(coversLine ws g)) }

/-! ### Remote lines of a die -/

def Die.dirtyAt (D : Die) (line : Nat) : Option DirtyLine := D.dirty.find? (fun x => x.line == line)

/-- A byte of a remote line as the die sees it: written here, else the clean copy, else the home (08 R197). -/
def Die.viewByte (D : Die) (home : List Host.Cell) (pa : Nat) : Byte :=
  match (D.dirtyAt (pa / 64)).bind (fun x => Tbl.find x.bytes (pa % 64)) with
  | some b => b
  | none =>
    match Tbl.find D.clean (pa / 64) with
    | some bs => bs.getD (pa % 64) 0
    | none => rdB home pa

/-- Writes one remote-dirty line of a die through to its home with its byte mask; a clean copy the die keeps takes the
bytes (08 R197). -/
def State.writeThrough (s : State) (d line : Nat) : State :=
  match (s.die d).dirtyAt line with
  | none => s
  | some x =>
    let s := s.updDie d (fun D =>
      { D with dirty := D.dirty.filter (fun y => y.line != line)
               clean := match Tbl.find D.clean line with
                 | some bs => Tbl.put D.clean line
                     ((List.range 64).map (fun i => (Tbl.find x.bytes i).getD (bs.getD i 0)))
                 | none => D.clean })
    s.land (x.bytes.map (fun (o, b) => (line * 64 + o, b))) (.through d)

/-- Writes those of some lines through that a die holds remote-dirty. -/
def State.throughLines (s : State) (d : Nat) (ls : List Nat) : State := ls.foldl (fun s l => s.writeThrough d l) s

/-- Writes every remote-dirty line of a die through, oldest first (08 R197). -/
def State.writeThroughAll (s : State) (d : Nat) : State :=
  (s.die d).dirty.foldl (fun s x => s.writeThrough d x.line) s

/-- Drops every clean remote copy of a die (08 R197). -/
def State.selfInvalidate (s : State) (d : Nat) : State := s.updDie d (fun D => { D with clean := [] })

/-- Drops a die's clean copies of some lines: those on which an agent of the die has acted at the home, so that its later reads do not
go back (05 R112, 08 R187, R195, log 56). -/
def State.dropClean (s : State) (d : Nat) (ls : List Nat) : State :=
  if (s.die d).clean.any (fun e => ls.contains e.1) then
    s.updDie d (fun D => { D with clean := D.clean.filter (fun e => !ls.contains e.1) })
  else s

/-- Keeps a clean copy of a remote line, if none is present (08 R197). -/
def State.keepClean (s : State) (d line : Nat) : State :=
  match Tbl.find (s.die d).clean line with
  | some _ => s
  | none => s.updDie d (fun D => { D with clean := Tbl.put D.clean line (rdBytes s.mem (line * 64) 64) })

/-- Merges stored bytes of one line into the die's remote-dirty copy; the entry that would be the 1,025th first writes the
oldest through (08 R197). The die's watches on the line wake (05 R132, 11 R283). -/
def State.dirtyStore (s : State) (d line : Nat) (ws : List (Nat × Byte)) (by_ : Writer) : State :=
  let put (t : Tbl Byte) : Tbl Byte := ws.foldl (fun t c => Tbl.put t (c.1 % 64) c.2) t
  let s := s.wake [line] (fun k => dieOf k == d && by_.wakes k)
  match (s.die d).dirtyAt line with
  | some _ =>
    s.updDie d (fun D => { D with dirty := D.dirty.map (fun y =>
      if y.line == line then { y with bytes := put y.bytes } else y) })
  | none =>
    let s := if (s.die d).dirty.length < 1024 then s
             else match (s.die d).dirty with
               | o :: _ => s.writeThrough d o.line
               | [] => s
    s.updDie d (fun D => { D with dirty := D.dirty ++ [⟨line, put []⟩] })

/-! ### Host-attribute lines -/

/-- Obtains a host line for a die under CXL.cache: other dies' dirty copies go back first, and for a write their copies
go (08 R198). -/
def State.hostGet (s : State) (d line : Nat) (own : Bool) : State :=
  let s := (allDies.filter (· != d)).foldl (fun s e => if own then s.hostDrop e line else s.hostBack e line) s
  match Tbl.find (s.die d).hostLines line with
  | some _ => s
  | none => s.updDie d (fun D => { D with hostLines := Tbl.put D.hostLines line ⟨rdBytes s.hostMem (line * 64) 64, false⟩ })

def State.hostByte (s : State) (d pa : Nat) : Byte :=
  match Tbl.find (s.die d).hostLines (pa / 64) with
  | some x => x.data.getD (pa % 64) 0
  | none => rdB s.hostMem pa

/-- Whether the host reaches the package: the Melper link is up and the boot has not failed (18 R440, R449). -/
def State.hostUp (s : State) : Bool := s.melperUp && !s.bootFail

/-- Whether an agent of a die gets at some lines of host memory, for a write with ownership: over the Melper link, or because the die has
them in its L2 (08 R198, 18 R440). -/
def State.hostReach (s : State) (d : Nat) (ls : List Nat) (own : Bool) : Bool :=
  s.melperUp || ls.all (fun l => (Tbl.find (s.die d).hostLines l).isSome
    && (!own || allDies.all (fun e => e == d || (Tbl.find (s.die e).hostLines l).isNone)))

/-- Host memory as every agent sees it: with the lines that dies hold dirty (08 R198). -/
def State.hostView (s : State) : List Host.Cell :=
  allDies.foldl (fun m d => (s.die d).hostLines.foldl (fun m e =>
    if e.2.dirty then wrCells m (cellsAt (64 * e.1) e.2.data) else m) m) s.hostMem

/-- Bytes of host memory read by a die. -/
def State.hostRead (s : State) (d pa n : Nat) : List Byte × State :=
  let s := ((List.range (n + 63)).map (fun i => (pa + min i (n - 1)) / 64)).eraseDups.foldl (fun s l => s.hostGet d l false) s
  ((List.range n).map (fun i => s.hostByte d (pa + i)), s)

/-- Bytes of host memory written by a die that owns the lines; a watch on such a granule wakes (05 R132). -/
def State.hostWrite (s : State) (d : Nat) (ws : List (Nat × Byte)) (by_ : Writer) : State :=
  let ls := linesOf ws
  let s := ls.foldl (fun s l => s.hostGet d l true) s
  let put (t : Tbl HostLine) (c : Nat × Byte) : Tbl HostLine :=
    match Tbl.find t (c.1 / 64) with
    | some x => Tbl.put t (c.1 / 64) ⟨x.data.set (c.1 % 64) c.2, true⟩
    | none => t
  let s := s.updDie d (fun D => { D with hostLines := ws.foldl put D.hostLines })
  let s := s.noteMods (ws.map (fun c => (c.1 + 2 ^ 52, c.2))) by_
  s.wake (ls.map (· + 2 ^ 52)) by_.wakes

/-! ### Machine-check entries -/

/-- What a unit reports to the machine-check ring of a die; `subj` is the die concerned where it is another (17 R428). -/
structure McInfo where
  die : Nat
  subj : Option Nat := none
  unit : Nat
  bank : Nat := 0
  kind : Nat
  addr : Nat := 0
  synd : DWord := 0
  asid : Nat := 0
  taskId : DWord := 0
  job : DWord := 0
  halted : Bool := false
  sk : Option Nat := none
  tid : Nat := 0
  launch : Nat := 0
  fence : Bool := false
  deriving DecidableEq, Repr

/-- Whether a ring entry is acknowledged (17 R428 bit 31). -/
def McEnt.acked (e : McEnt) : Bool := e.dw0.getLsbD 31

/-- The ring slot a new entry takes: the next unused one, else the oldest acknowledged (17 R428). -/
def Die.ringSlot (D : Die) : Option Nat :=
  if D.ring.length < 256 then some D.ring.length
  else
    ((D.ring.filter (fun e => e.2.acked)).foldl (fun b e =>
      match b with
      | none => some e
      | some x => if fld e.2.dw0 63 32 < fld x.2.dw0 63 32 then some e else b) none).map (·.1)

/-- Doubleword 0 of an entry (17 R428). -/
def McInfo.dw0 (m : McInfo) (seq : Nat) : DWord :=
  dw (place seq 32 32 + place (b2n m.halted) 1 30 + place (m.subj.getD m.die) 2 28 + place m.unit 4 24 + place m.bank 16 8 + place m.kind 8 0)

/-- The 64 bytes of an entry (17 R428). -/
def McInfo.bytes (m : McInfo) (seq now : Nat) : List Byte :=
  leBytes 8 (m.dw0 seq).toNat ++ leBytes 8 (m.addr % 2 ^ 52) ++ leBytes 8 m.synd.toNat ++ leBytes 8 (m.asid % 65536)
    ++ leBytes 8 m.taskId.toNat ++ leBytes 8 m.job.toNat ++ leBytes 8 (Config.ptpNs now) ++ leBytes 8 0

/-- Writes an entry into the die's ring, or counts it in MCOVF when every slot is unacknowledged; says whether it was
written (17 R428). -/
def State.logMc (s : State) (m : McInfo) : State × Bool :=
  let D := s.die m.die
  match D.ringSlot with
  | none => (s.updDie m.die (fun D => { D with mcovf := D.mcovf + 1, mcSeq := D.mcSeq + 1 }), false)
  | some k =>
    let e : McEnt := ⟨m.dw0 D.mcSeq, m.asid, m.taskId, m.sk, m.tid, m.launch, m.fence, s.now⟩
    let s := s.updDie m.die (fun D => { D with ring := Tbl.put D.ring k e, mcSeq := D.mcSeq + 1 })
    (s.land (cellsAt ((D.mcring.toNat / 64 * 64) % 2 ^ 52 + 64 * k) (m.bytes D.mcSeq s.now)) .unit, true)

/-! ### What an address may meet -/

/-- What a translated access may meet beyond its faults: a decode error (17 R413), poison (17 R425), or host memory behind a link that is
down (18 R440, log 61). -/
inductive PErr where
  | decode (pa : Nat)
  | poisoned (pa : Nat)
  | down (pa : Nat)
  deriving DecidableEq, Repr

/-- Whether a range of device memory is populated, and free of poison where it is read. -/
def State.physOk (s : State) (pa n : Nat) (read : Bool) : Except PErr Unit :=
  if homeOf pa = none ∨ homeOf (pa + (n - 1)) = none then .error (.decode pa)
  else if read then
    match s.poison.find? (fun g => decide (pa / 64 ≤ g) && decide (g ≤ (pa + (n - 1)) / 64)) with
    | some g => .error (.poisoned (g * 64))
    | none => .ok ()
  else .ok ()

/-! ### The layout aperture -/

/-- A tensor-handle table entry (17 R415). -/
structure Tensor where
  v : Bool
  tiled : Bool
  esz : Nat
  tr : Nat
  tc : Nat
  sbase : Nat
  rows : Nat
  cols : Nat
  sstr : Nat
  padv : Nat
  clean : Bool

/-- An entry from its eight doublewords (17 R415). -/
def Tensor.ofDws (x : List Nat) : Tensor :=
  let q (i : Nat) := x.getD i 0
  { v := bitN (q 0) 63, tiled := bitN (q 0) 62, esz := 2 ^ bitsN (q 0) 61 60
    tr := 2 ^ bitsN (q 0) 51 48, tc := 2 ^ bitsN (q 0) 47 44
    sbase := bitsN (q 1) 51 6 * 64, rows := bitsN (q 2) 63 32, cols := bitsN (q 2) 31 0
    sstr := bitsN (q 3) 39 0, padv := q 4
    clean := bitsN (q 0) 59 52 == 0 && bitsN (q 0) 43 0 == 0 && bitsN (q 1) 63 52 == 0 && bitsN (q 1) 5 0 == 0
      && bitsN (q 3) 63 40 == 0 && q 5 == 0 && q 6 == 0 && q 7 == 0 }

/-- The doublewords of entry `g` of a context: the copy the layout unit of die `d` keeps, else those of the context's table, of which an ASID
that registered none has only invalid entries (17 R415). -/
def State.tensorDws (s : State) (d asid g : Nat) : Except PErr (List Nat) :=
  match Tbl.find (s.die d).tcache (asid * 4096 + g) with
  | some q => .ok q
  | none =>
    match Tbl.find s.ttbl asid with
    | none => .ok []
    | some a => (s.physOk (a + 64 * g) 64 true).map (fun _ => (List.range 8).map (fun i => rdNat s.mem (a + 64 * g + 8 * i) 8))

def Tensor.tb (t : Tensor) : Nat := t.tr * t.tc * t.esz
def Tensor.ntc (t : Tensor) : Nat := ceilDiv t.cols t.tc
def Tensor.ntr (t : Tensor) : Nat := ceilDiv t.rows t.tr

/-- Bytes of storage the view addresses from SBASE (17 R415, R416). -/
def Tensor.extent (t : Tensor) : Nat :=
  if t.rows = 0 ∨ t.cols = 0 then 0
  else if t.tiled then t.ntr * t.ntc * t.tb else (t.rows - 1) * t.sstr + t.cols * t.esz

/-- Whether an entry is valid and not malformed on die `d` (17 R415). A field outside the range its row gives is none of the four cases: it is used as
it stands (log 16). -/
def Tensor.good (t : Tensor) (d : Nat) : Bool :=
  t.v && t.clean && t.tb % 64 == 0 && decide (t.tb ≤ 65536) && decide (t.ntr * t.ntc * t.tb ≤ 2 ^ 34)
    && (t.extent == 0 || (decide (d * 0x2000000000 ≤ t.sbase) && decide (t.sbase + t.extent ≤ (d + 1) * 0x2000000000)))

/-- Where a byte of the view lies: in storage, or a pad byte with its value (17 R416, R417). -/
def Tensor.resolve (t : Tensor) (d o : Nat) : Nat ⊕ Byte :=
  if t.good d then
    let ti := o / t.tb
    let w := o % t.tb
    let r := ti / t.ntc * t.tr + w / (t.tc * t.esz)
    let c := ti % t.ntc * t.tc + w % (t.tc * t.esz) / t.esz
    if t.ntr ≤ ti / t.ntc ∨ t.rows ≤ r ∨ t.cols ≤ c then .inr (BitVec.ofNat 8 (t.padv >>> (8 * (o % t.esz))))
    else if t.tiled then .inl (t.sbase + o) else .inl (t.sbase + r * t.sstr + c * t.esz + o % t.esz)
  else .inr 0

/-- The entry an aperture access on die `d` goes through: the layout unit keeps it, and an invalid or malformed one is logged without halting any
agent (17 R415, R417). -/
def State.layout (s : State) (d asid g pa : Nat) : Except PErr (Tensor × State) :=
  (s.tensorDws d asid g).map (fun q =>
    let t := Tensor.ofDws q
    let s := s.updDie d (fun D => { D with tcache := Tbl.put D.tcache (asid * 4096 + g) q })
    (t, if t.good d then s else (s.logMc { die := d, unit := 0, kind := 5, addr := pa, asid := asid }).1))

/-- LAYINV: the layout units' copies of an entry, or of every entry of an ASID, are invalidated (17 R415, 18 R438). -/
def State.layinv (s : State) (v : DWord) : State :=
  let gone (k : Nat) : Bool := k / 4096 == fld v 47 32 && (v.getLsbD 12 || k % 4096 == fld v 11 0)
  let drop (D : Die) : Die := { D with tcache := D.tcache.filter (fun e => !gone e.1) }
  { s with dies := s.dies.map (fun (e : Nat × Die) => (e.1, drop e.2)) }

/-! ### Reads and writes by physical address -/

/-- A read performed at the home by an agent of die `d`: the die's remote-dirty copies of the lines are written through
first; aperture and host addresses go their own ways (08 R197, R198, 17 R414). -/
def State.rdHome (s : State) (d asid : Nat) (host : Bool) (pa n : Nat) : Except PErr (List Byte × State) :=
  if n = 0 then .ok ([], s)
  else if host then
    (if s.hostReach d ((List.range n).map (fun i => (pa + i) / 64)).eraseDups false then .ok (s.hostRead d pa n) else .error (.down pa))
  else match apertureOf pa with
  | some (e, g, o) =>
    (s.layout e asid g pa).bind (fun (t, s) =>
      let at_ := (List.range n).map (fun i => t.resolve e (o + i))
      match (at_.filterMap Sum.getLeft?).find? (fun a => s.poison.contains (a / 64)) with
      | some a => .error (.poisoned (a / 64 * 64))
      | none =>
        let s := s.throughLines d ((at_.filterMap Sum.getLeft?).map (· / 64)).eraseDups
        .ok (at_.map (fun x => match x with
          | .inl a => rdB s.mem a
          | .inr b => b), s))
  | none =>
    match s.physOk pa n true with
    | .error e => .error e
    | .ok _ =>
      let s := s.throughLines d ((List.range ((pa + n - 1) / 64 + 1 - pa / 64)).map (pa / 64 + ·))
      .ok (rdBytes s.mem pa n, s)

/-- Byte writes performed at the home by an agent of die `d`, all in one region. -/
def State.wrHome (s : State) (d asid : Nat) (host : Bool) (ws : List (Nat × Byte)) (by_ : Writer) : Except PErr State :=
  match ws with
  | [] => .ok s
  | (pa, _) :: _ =>
    if host then (if s.hostReach d (linesOf ws) true then .ok (s.hostWrite d ws by_) else .error (.down pa))
    else match apertureOf pa with
    | some (e, g, _) =>
      (s.layout e asid g pa).map (fun (t, s) =>
        let ws := ws.filterMap (fun c => match t.resolve e (bitsN c.1 33 0) with
          | .inl a => some (a, c.2)
          | .inr _ => none)
        (((s.throughLines d (linesOf ws)).land ws by_)).dropClean d (linesOf ws))
    | none =>
      if ws.all (fun c => (homeOf c.1).isSome) then
        let s := s.throughLines d (linesOf ws)
        .ok ((s.land ws by_).dropClean d (linesOf ws))
      else .error (.decode pa)

/-- A plain load of at most one line by an agent of die `d`: a local line at the home, a remote line from the die's copy,
which is kept clean; home-only pages act at the home (08 R197, 12 R291 COH). -/
def State.ldPlain (s : State) (d asid : Nat) (host homeOnly : Bool) (pa n : Nat) : Except PErr (List Byte × State) :=
  if host || homeOnly || (apertureOf pa).isSome || homeOf pa == some d || n == 0 then s.rdHome d asid host pa n
  else
    match s.physOk pa n true with
    | .error e => .error e
    | .ok _ =>
      let D := s.die d
      .ok ((List.range n).map (fun i => D.viewByte s.mem (pa + i)), s.keepClean d (pa / 64))

/-- A plain store of at most one line by an agent of die `d` (08 R197). -/
def State.stPlain (s : State) (d asid : Nat) (host homeOnly : Bool) (pa : Nat) (ws : List (Nat × Byte)) (by_ : Writer) :
    Except PErr State :=
  if host || homeOnly || (apertureOf pa).isSome || homeOf pa == some d then s.wrHome d asid host ws by_
  else
    match s.physOk pa 1 false with
    | .error e => .error e
    | .ok _ => .ok (s.dirtyStore d (pa / 64) ws by_)

end Sys2Proof.Machine
end

