-- ==== Sys2Proof/Machine/Xlate.lean ====
section
/-! DEFINITION. Contexts and translation: the descriptor, the four-level walk, the TLBs (12 R288 to R293). -/

namespace Sys2Proof.Machine

/-- A context descriptor as read (12 R289). -/
structure Ctx where
  hlim : Nat
  dbg : Bool
  ptroot : Nat
  shadow : Nat
  hvec : Nat
  trapBase : Nat
  saveBase : Nat
  killt : Nat
  drainb : Nat
  nsave : Nat
  valid : Bool

/-- Where the descriptor of an ASID lies (12 R288, 18 R438). -/
def State.ctxAddr (s : State) (asid : Nat) : Nat := s.ctxtbl.toNat % 2 ^ 52 / 65536 * 65536 + 64 * asid

/-- The descriptor of an ASID (12 R289, 18 R438): valid when R288 finds no fault in it. One that stands at an unpopulated or poisoned address
gives no value: it is not valid, and a walk that needs it meets the error (17 R413, R425, R427). -/
def State.ctx (s : State) (asid : Nat) : Ctx :=
  let a := s.ctxAddr asid
  let there := (s.physOk a 64 true).toBool
  let q (i : Nat) := if there then rdNat s.mem (a + 8 * i) 8 else 0
  { hlim := bitsN (q 0) 31 28, dbg := bitN (q 0) 17, ptroot := bitsN (q 1) 55 16 * 65536
    shadow := bitsN (q 2) 55 16 * 65536, hvec := bitsN (q 3) 55 2 * 4, trapBase := bitsN (q 4) 55 16 * 65536
    saveBase := bitsN (q 5) 55 16 * 65536, killt := bitsN (q 6) 55 48, drainb := bitsN (q 6) 41 32
    nsave := bitsN (q 6) 15 0
    valid := bitsN (q 0) 63 32 == 0 && bitsN (q 0) 27 18 == 0 && !bitN (q 0) 16
      && decide (1 ≤ bitsN (q 0) 31 28) && decide (bitsN (q 0) 31 28 ≤ 8)
      && bitsN (q 0) 15 0 == asid && asid != 0
      && [1, 2, 4, 5].all (fun i => bitsN (q i) 63 56 == 0 && bitsN (q i) 15 0 == 0)
      && bitsN (q 3) 63 56 == 0 && bitsN (q 3) 1 0 == 0
      && bitsN (q 6) 63 56 == 0 && bitsN (q 6) 47 42 == 0 && bitsN (q 6) 31 16 == 0 && q 7 == 0 }

/-- What an access needs of its page (12 R292). -/
inductive Need where
  | rd | wr | rw | fx
  deriving DecidableEq, Repr

/-- What a walk finds: a well-formed leaf, or where and why it stopped; or an entry at an unpopulated or poisoned address (17 R413,
R425). -/
inductive Walk where
  | leaf (pte : DWord) (level : Nat)
  | stop (code level : Nat) (info : DWord)
  | mcheck (kind pa : Nat)
  deriving DecidableEq, Repr

/-- Shift and index width of each level (12 R290). -/
def levelShift : Nat → Nat
  | 0 => 43 | 1 => 34 | 2 => 25 | _ => 16
def levelWidth : Nat → Nat
  | 0 => 13 | _ => 9

/-- A leaf entry's own conditions (12 R291, R292). -/
def leafOk (e : DWord) (lvl : Nat) : Bool :=
  fld e 63 52 == 0 && fld e 15 10 == 0 && fld e (levelShift lvl - 1) 0 >>> 16 == 0
    && (e.getLsbD 9 || decide (fld e 8 7 ≤ 1)) && (!e.getLsbD 3 || e.getLsbD 2)

/-- A non-leaf entry's own conditions (12 R291, R292). -/
def tableOk (e : DWord) : Bool := fld e 63 52 == 0 && fld e 11 2 == 0

/-- Kind and address of the machine check of an access (17 R413, R425, R428). Host memory out of reach is an uncorrectable access, whose
address counts from 2^52 here (log 61). -/
def PErr.mc : PErr → Nat × Nat
  | .decode pa => (4, pa)
  | .poisoned pa => (3, pa)
  | .down pa => (1, 2 ^ 52 + pa)

/-- The walk from one table down the levels that remain; entries are read at their home (12 R290 to R293). -/
def State.walkFrom (s : State) (va : Nat) : List Nat → Nat → Walk
  | [], _ => .stop 0x0105 3 0
  | lvl :: rest, tbl =>
    let a := tbl + 8 * bitsN va (levelShift lvl + levelWidth lvl - 1) (levelShift lvl)
    match s.physOk a 8 true with
    | .error e => .mcheck e.mc.1 e.mc.2
    | .ok _ =>
    let e := rdDW s.mem a
    if !e.getLsbD 0 then .stop 0x0105 lvl 0
    else if e.getLsbD 1 then
      if lvl ≠ 0 ∧ leafOk e lvl then .leaf e lvl else .stop 0x0105 lvl e
    else if lvl = 3 ∨ !tableOk e then .stop 0x0105 lvl e
    else s.walkFrom va rest (fld e 51 12 * 4096)

/-- The entry of a TLB that covers an address (12 R293). -/
def tlbHit (t : List TlbEnt) (asid va : Nat) : Option TlbEnt :=
  t.find? (fun e => e.asid == asid && va >>> e.lg == e.va >>> e.lg)

/-- A TLB with an entry added; at capacity the oldest goes (log 11). -/
def tlbFill (cap : Nat) (t : List TlbEnt) (e : TlbEnt) : List TlbEnt := (e :: t.filter (· != e)).take cap

/-- The walk of an address in a context, from its descriptor and the tables. -/
def State.walk (s : State) (asid va : Nat) : Walk :=
  match s.physOk (s.ctxAddr asid) 64 true with
  | .error e => .mcheck e.mc.1 e.mc.2
  | .ok _ => s.walkFrom va [0, 1, 2, 3] (s.ctx asid).ptroot

/-- A translated address. -/
structure Loc where
  va : Nat
  pa : Nat
  host : Bool
  homeOnly : Bool
  chk : Bool
  pte : DWord
  level : Nat
  deriving DecidableEq, Repr

/-- The physical address a leaf gives (12 R290, R291). -/
def leafPa (pte : DWord) (lvl va : Nat) : Nat :=
  fld pte 51 16 * 65536 / 2 ^ levelShift lvl * 2 ^ levelShift lvl + va % 2 ^ levelShift lvl

def locOf (pte : DWord) (lvl va : Nat) : Loc :=
  { va := va, pa := leafPa pte lvl va, host := pte.getLsbD 9, homeOnly := !pte.getLsbD 9 && fld pte 8 7 == 1
    chk := pte.getLsbD 5, pte := pte, level := lvl }

/-- Whether a leaf permits an access (12 R292). -/
def permits (pte : DWord) : Need → Bool
  | .rd => pte.getLsbD 2
  | .wr => pte.getLsbD 3
  | .rw => pte.getLsbD 2 && pte.getLsbD 3
  | .fx => pte.getLsbD 4

/-- Translation: a TLB entry if one covers the address, else a walk (12 R290 to R293). `tlbs` are consulted in order. -/
def State.lookup (s : State) (tlbs : List (List TlbEnt)) (asid va : Nat) : Walk :=
  match tlbs.findSome? (fun t => tlbHit t asid va) with
  | some e => .leaf e.pte e.level
  | none => s.walk asid va

/-- Translation of an access with its permission, or the fault's report (12 R292). -/
def State.xlate (s : State) (tlbs : List (List TlbEnt)) (asid va : Nat) (need : Need) : Except Report Loc :=
  let base : Report := { addr := dw va, write := need == .wr || need == .rw, fetch := need == .fx }
  match s.lookup tlbs asid va with
  | .stop code lvl info => .error { base with code := code, level := lvl, info := info }
  | .mcheck kind pa => .error { base with mc := some (kind, pa) }
  | .leaf pte lvl =>
    if permits pte need then .ok (locOf pte lvl va)
    else .error { base with code := 0x0106, level := lvl }

/-- The TLBs each agent of a die consults (12 R293). -/
def State.aTlbs (s : State) (k : Nat) : List (List TlbEnt) := [(s.sk k).atlb, (s.die (dieOf k)).tlb]
def State.dTlbs (s : State) (d : Nat) : List (List TlbEnt) := [(s.die d).tlb]
def State.gTlbs (s : State) (d : Nat) : List (List TlbEnt) := [(s.die d).gtlb, (s.die d).tlb]

/-- The entry a finished walk leaves (12 R293). -/
def entryOf (asid va : Nat) (pte : DWord) (lvl : Nat) : TlbEnt :=
  ⟨asid, va / 2 ^ levelShift lvl * 2 ^ levelShift lvl, levelShift lvl, pte, lvl⟩

/-- Fills a die's shared TLB, and a Skillet's or the load pipes' own, with a valid translation (12 R293). -/
def State.fillTlb (s : State) (d asid va : Nat) (pte : DWord) (lvl : Nat) : State :=
  s.updDie d (fun D => { D with tlb := tlbFill 32768 D.tlb (entryOf asid va pte lvl) })

/-- Whether an entry is covered by a TLBI: kind 0 a range of one context, 1 all of one context, 2 everything (12 R314). -/
def tlbCovered (kind asid base len : Nat) (e : TlbEnt) : Bool :=
  match kind with
  | 0 => e.asid == asid && len != 0 && decide (base < e.va + 2 ^ e.lg)
           && decide (e.va ≤ min (base + len - 1) (2 ^ 56 - 1))
  | 1 => e.asid == asid
  | _ => true

end Sys2Proof.Machine
end

