-- ==== Sys2Proof/Machine/Access.lean ====
section
/-! DEFINITION. Accesses by virtual address: how an access can stop, race records of checked pages, snapshots and write
sets, scopes (05 R108, R109, R126 to R130, 08 R187 to R190, R203 to R207, 15 R390). -/

namespace Sys2Proof.Machine

/-- Why an instruction does not retire now: an exception, a wait (inside the Skillet or outside, 01 R25), a wait outside
that leaves a changed state (a place taken in a queue), one whose change stands even where a turn takes no effect (an arrival at a group, what a
release has written through), an uncorrectable error met by its access (17 R427), or the end of the launch. -/
inductive Stop where
  | trap (r : Report)
  | wait (inside : Bool)
  | park (s : State)
  | hold (s : State)
  | mc (kind : Nat) (pa : Nat)
  | fatal (code : Nat) (info : DWord)

/-- What an instruction body answers. -/
abbrev Act := Except Stop State

def trapC (code : Nat) : Stop := .trap { code := code }
def trapI (code : Nat) (info : DWord) : Stop := .trap { code := code, info := info }
def trapA (code : Nat) (addr : DWord) : Stop := .trap { code := code, addr := addr }

/-- A decode error or poison met by an access (17 R413, R425). -/
def PErr.stop (e : PErr) : Stop := .mc e.mc.1 e.mc.2

def liftP {α : Type} : Except PErr α → Except Stop α
  | .ok x => .ok x
  | .error e => .error e.stop

def liftR {α : Type} : Except Report α → Except Stop α
  | .ok x => .ok x
  | .error r => .error (.trap r)

/-- `c` holds, or the given stop. -/
def need (c : Bool) (e : Stop) : Except Stop Unit := if c then .ok () else .error e

/-! ### Race records (08 R204 to R207) -/

/-- One entry of a race record; one that is not valid keeps the clock and the tag that stand in it (08 R204). -/
structure REnt where
  valid : Bool := false
  clk : Nat := 0
  tag : Nat := 0
  deriving DecidableEq, Repr

structure RRec where
  w : REnt := {}
  r0 : REnt := {}
  r1 : REnt := {}
  ltag : Nat := 0
  deriving DecidableEq, Repr

/-- An accessing agent: its die, context, tag, clock, launch tag, and how it appears as a writer (08 R204, R205). -/
structure Agent where
  die : Nat
  asid : Nat
  tag : Nat
  clk : Nat
  ltag : Nat
  writer : Writer
  tlbs : List (List TlbEnt)
  deriving DecidableEq, Repr

def REnt.of (x : Nat) : REnt := ⟨bitN x 0, bitsN x 63 32, bitsN x 31 8⟩
def REnt.word (e : REnt) : Nat := place e.clk 32 32 + place e.tag 24 8 + b2n e.valid

/-- A record from its 32 bytes, and its bytes (08 R204). -/
def RRec.ofBytes (bs : List Byte) : RRec :=
  let q (i : Nat) : Nat := ofLe ((bs.drop (8 * i)).take 8)
  ⟨.of (q 0), .of (q 1), .of (q 2), q 3 % 2 ^ 32⟩
def RRec.bytes (r : RRec) : List Byte :=
  leBytes 8 r.w.word ++ leBytes 8 r.r0.word ++ leBytes 8 r.r1.word ++ leBytes 8 r.ltag

/-- The record as an agent of a launch sees it: empty when another launch tag stands in it (08 R204). -/
def RRec.seen (r : RRec) (ltag : Nat) : RRec := if r.ltag = ltag then r else { ltag := ltag }

/-- The conflicting entry of a plain access, by its ENTRY number (08 R206, 12 R299). -/
def RRec.conflict (r : RRec) (write : Bool) (g c : Nat) : Option (Nat × REnt) :=
  let bad (e : REnt) : Bool := e.valid && e.tag != g && decide (c ≤ e.clk)
  if bad r.w then some (0, r.w)
  else if write && bad r.r0 then some (1, r.r0)
  else if write && bad r.r1 then some (2, r.r1)
  else none

/-- AddReader (08 R206). -/
def RRec.addReader (r : RRec) (g c : Nat) : RRec :=
  let mine (e : REnt) : Bool := e.valid && e.tag == g
  if mine r.r0 then { r with r0 := ⟨true, max r.r0.clk c, g⟩ }
  else if mine r.r1 then { r with r1 := ⟨true, max r.r1.clk c, g⟩ }
  else if !r.r0.valid || (r.r1.valid && decide (r.r0.clk ≤ r.r1.clk)) then { r with r0 := ⟨true, c, g⟩ }
  else { r with r1 := ⟨true, c, g⟩ }

/-- A recorded write; a plain one makes the readers invalid (08 R206). -/
def RRec.addWriter (r : RRec) (g c : Nat) (plain : Bool) : RRec :=
  let w : REnt := ⟨true, if r.w.valid then max c r.w.clk else c, g⟩
  if plain then { r with w := w, r0 := { r.r0 with valid := false }, r1 := { r.r1 with valid := false } } else { r with w := w }

/-- Where the record of a virtual address lies, or the shadow fault of the access that needs it (08 R204, 12 R292); a record at an
unpopulated or poisoned address is a machine check of that access (17 R413, R425). -/
def State.recordLoc (s : State) (ag : Agent) (va : Nat) (write : Bool) : Except Report Loc :=
  match s.xlate ag.tlbs ag.asid ((s.ctx ag.asid).shadow + 32 * bitsN va 55 6) .rw with
  | .error r => .error { r with shadow := true, write := write }
  | .ok l =>
    if l.host then
      (if s.hostReach ag.die [l.pa / 64] true then .ok l else .error { addr := dw va, mc := some (PErr.down l.pa).mc })
    else match s.physOk l.pa 32 true with
    | .ok _ => .ok l
    | .error e => .error { addr := dw va, mc := some e.mc }

/-- The record at a place, in device or in host memory, as an agent of die `d` and of a launch sees it. -/
def State.rdRec (s : State) (d ltag : Nat) (l : Loc) : RRec :=
  (RRec.ofBytes (if l.host then (s.hostRead d l.pa 32).1 else rdBytes s.mem l.pa 32)).seen ltag

/-- A record written at its place. -/
def State.wrRec (s : State) (d : Nat) (l : Loc) (r : RRec) : State :=
  if l.host then s.hostWrite d (cellsAt l.pa r.bytes) .unit
  else { s with mem := wrCells s.mem (cellsAt l.pa r.bytes) }

/-- The check of a plain access to one granule of a checked page (08 R206, R207). -/
def State.raceCheck (s : State) (ag : Agent) (l : Loc) (write : Bool) : Except Report Unit :=
  if l.chk then
    match s.recordLoc ag l.va write with
    | .error r => .error r
    | .ok p =>
      match (s.rdRec ag.die ag.ltag p).conflict write ag.tag ag.clk with
      | none => .ok ()
      | some (k, e) => .error { code := 0x0107, addr := dw l.va, entry := k, write := write
                                info := dw (place e.clk 32 32 + place e.tag 24 8) }
  else .ok ()

/-- The update of the record by an access that passed its check. -/
def State.raceUpdate (s : State) (ag : Agent) (l : Loc) (f : RRec → RRec) : State :=
  if l.chk then
    match s.recordLoc ag l.va true with
    | .error _ => s
    | .ok p =>
      let s := s.wrRec ag.die p (f (s.rdRec ag.die ag.ltag p))
      let put (rs : List Nat) : List Nat := let x := p.pa + if p.host then 2 ^ 52 else 0; if rs.contains x then rs else x :: rs
      { s with recOf := Tbl.upd [] s.recOf (l.pa / 64 + if l.host then 2 ^ 52 else 0) put }
  else s

/-! ### Agents -/

def State.launch? (s : State) (id : Nat) : Option Launch := Tbl.find s.launches id

/-- The tag of a task (08 R204). -/
def tagOfTask (tid : DWord) : Nat := bitsN tid.toNat 39 32 * 65536 + bitsN tid.toNat 15 0

def State.asidOf (s : State) (k : Nat) : Nat := ((s.launch? (s.sk k).info.launch).map (·.asid)).getD 0
def State.levelOf (s : State) (k : Nat) : Nat := ((s.launch? (s.sk k).info.launch).map (·.level)).getD 0

/-- The A-engine of a Skillet as an agent. -/
def State.agentOf (s : State) (k : Nat) : Agent :=
  { die := dieOf k, asid := s.asidOf k, tag := tagOfTask (s.sk k).info.frame.taskId, clk := (s.sk k).info.sclk
    ltag := ((s.launch? (s.sk k).info.launch).map (·.tag)).getD 0, writer := .engine k, tlbs := s.aTlbs k }

/-- SCLK of a task raised, and advanced by a release (08 R205). -/
def TaskInfo.raiseClk (i : TaskInfo) (c : Nat) : TaskInfo := { i with sclk := min (max i.sclk c) 0xFFFFFFFF }
def TaskInfo.tickClk (i : TaskInfo) : TaskInfo := { i with sclk := min (i.sclk + 1) 0xFFFFFFFF }
def Skillet.onInfo (x : Skillet) (f : TaskInfo → TaskInfo) : Skillet := { x with info := f x.info }
def Skillet.onT (x : Skillet) (f : Issue → Issue) : Skillet := { x with t := f x.t }

/-! ### One element of an A-engine access -/

/-- ADDRESS-RANGE and MISALIGNED, then translation (05 R108, R109 checks 4 to 6). -/
def State.locate (s : State) (tlbs : List (List TlbEnt)) (asid : Nat) (ea : DWord) (n : Nat) (nd : Need) : Except Report Loc :=
  if 2 ^ 56 ≤ ea.toNat then .error { code := 0x0101, addr := ea, write := nd == .wr || nd == .rw }
  else if ea.toNat % n ≠ 0 then .error { code := 0x0102, addr := ea, write := nd == .wr || nd == .rw }
  else s.xlate tlbs asid ea.toNat nd

/-- Checks 4 to 7 of a plain access (05 R109). At D2 and D3 a write is checked at its merge instead (15 R390). -/
def State.plainCheck (s : State) (k : Nat) (ea : DWord) (n : Nat) (write : Bool) : Except Report Loc :=
  match s.locate (s.aTlbs k) (s.asidOf k) ea n (if write then .wr else .rd) with
  | .error r => .error r
  | .ok l =>
    if write && (s.sk k).info.snap.isSome && (s.sk k).handler.isNone then .ok l
    else match s.raceCheck (s.agentOf k) l write with
      | .error r => .error r
      | .ok _ => .ok l

/-! ### Snapshots (15 R390) -/

/-- A snapshot point of a Skillet's task: memory as its die sees it, with the remote lines the die holds dirty (08 R197), and an empty write
set. -/
def State.snapNow (s : State) (k : Nat) : Snap :=
  ⟨(s.die (dieOf k)).dirty.foldl (fun m x => wrCells m (x.bytes.map (fun (o, b) => (x.line * 64 + o, b)))) s.mem, s.hostView, s.modSeq, []⟩

/-- The snapshot a plain access of a Skillet goes through, if any: handler mode acts on memory directly. -/
def State.snapOf (s : State) (k : Nat) : Option Snap := if (s.sk k).handler.isSome then none else (s.sk k).info.snap

/-- A byte as a task's snapshot shows it: bytes of host memory have numbers from 2^52. -/
def Snap.byte (p : Snap) (a : Nat) : Byte :=
  match Tbl.find p.wset a with
  | some w => w.b
  | none => if a < 2 ^ 52 then rdB p.mem a else rdB p.hmem (a - 2 ^ 52)

/-- Where each byte of an access lies: in device or in host memory, or, through a layout aperture, in its storage or nowhere, with the pad byte
there (17 R414, R416). -/
def State.byteKeys (s : State) (asid : Nat) (l : Loc) (n : Nat) (read : Bool) : Except PErr (List (Nat ⊕ Byte) × State) :=
  let from_ (a : Nat) : List (Nat ⊕ Byte) := (List.range n).map (fun i => .inl (a + i))
  if l.host then .ok (from_ (l.pa + 2 ^ 52), s)
  else match apertureOf l.pa with
  | some (e, g, o) =>
    (s.layout e asid g l.pa).bind (fun (t, s) =>
      let at_ := (List.range n).map (fun i => t.resolve e (o + i))
      match (at_.filterMap Sum.getLeft?).find? (fun a => read && s.poison.contains (a / 64)) with
      | some a => .error (.poisoned (a / 64 * 64))
      | none => .ok (at_, s))
  | none => (s.physOk l.pa n read).map (fun _ => (from_ l.pa, s))

/-- A plain load that has passed its checks (05 R112, 08 R187, R197, 15 R390). -/
def State.load (s : State) (k : Nat) (l : Loc) (n : Nat) : Except Stop (Nat × State) :=
  let ag := s.agentOf k
  let s' := s.raceUpdate ag l (fun r => r.addReader ag.tag ag.clk)
  match s.snapOf k with
  | some p =>
    match s'.byteKeys ag.asid l n true with
    | .error e => .error e.stop
    | .ok (ks, s'') => .ok (ofLe (ks.map (fun a => match a with
      | .inl a => p.byte a
      | .inr b => b)), s'')
  | none =>
    match s'.ldPlain (dieOf k) ag.asid l.host (l.homeOnly || l.chk) l.pa n with
    | .error e => .error e.stop
    | .ok (bs, s'') => .ok (ofLe bs, s'')

/-- The most bytes a write set holds (15 R390). -/
def wsetMax : Nat := 16 * 1024 * 1024

/-- The bytes of a write set from index `lo` on that lie off chip go to the spill region `slot`, whose first page without a writable translation
ends the launch (15 R390). What stands there is the part's own (log 42). -/
def State.spillSet (s : State) (k slot lo : Nat) (w : Tbl WByte) : Except Stop State :=
  let asid := s.asidOf k
  let base := ((s.launch? (s.sk k).info.launch).map (·.wsbase)).getD 0 + wsetMax * slot
  if w.length ≤ Config.wsetChip then .ok s
  else
    let lo := max lo Config.wsetChip
    (((w.drop lo).zipIdx).foldlM (fun s (e, i) =>
      let va := base + lo + i
      match s.xlate (s.dTlbs (dieOf k)) asid va .wr with
      | .error r => .error (match r.mc with
        | some (kind, pa) => .mc kind pa
        | none => .fatal 0x0F03 (dw va))
      | .ok l => liftP (s.wrHome (dieOf k) asid l.host [(l.pa, Config.spillByte (lo + i) e.2.va e.2.b)] .unit)) s)

/-- A plain store that has passed its checks. -/
def State.store (s : State) (k : Nat) (l : Loc) (n : Nat) (x : Nat) : Act :=
  let ag := s.agentOf k
  let bs := leBytes n x
  match s.snapOf k with
  | some p =>
    match s.byteKeys ag.asid l n false with
    | .error e => .error e.stop
    | .ok (ks, s) =>
      let w := ((ks.zip bs).zipIdx).foldl (fun t (e, i) => match e.1 with
        | .inl a => Tbl.put t a (⟨e.2, l.va + i⟩ : WByte)
        | .inr _ => t) p.wset
      if wsetMax < w.length then .error (trapA 0x0605 (dw l.va))
      else
        (if w.length ≤ p.wset.length then .ok s else s.spillSet k k p.wset.length w).map (fun s =>
          s.updSk k (fun x => x.onInfo (fun i => { i with snap := some { p with wset := w } })))
  | none =>
    let s' := s.raceUpdate ag l (fun r => r.addWriter ag.tag ag.clk true)
    liftP (s'.stPlain (dieOf k) ag.asid l.host (l.homeOnly || l.chk) l.pa (cellsAt l.pa bs) ag.writer)

/-! ### Scopes (08 R187, R188, R197) -/

/-- The write-through a release or fence at a scope performs: 2 package, 3 system (08 R188, R197). At system scope it then waits for
the back-invalidations the earlier writes owe (08 R198); what it has written through stays written. -/
def State.releaseAt (s : State) (k scope : Nat) : Act :=
  if scope < 2 then .ok s
  else
    let s := s.writeThroughAll (dieOf k)
    if scope = 3 ∧ s.backInv ≠ [] then .error (.hold s) else .ok s

/-- The self-invalidation an acquire or fence at a scope performs (08 R188, R197). -/
def State.acquireAt (s : State) (k scope : Nat) : State :=
  if scope < 2 then s else (s.writeThroughAll (dieOf k)).selfInvalidate (dieOf k)

/-- A synchronisation access's part in the record and in SCLK (08 R205, R206). -/
def State.syncRec (s : State) (k : Nat) (l : Loc) (acq rel writes : Bool) : State :=
  let ag := s.agentOf k
  let r := if l.chk then (match s.recordLoc ag l.va writes with
    | .ok p => s.rdRec ag.die ag.ltag p
    | .error _ => {}) else {}
  let s := if acq then s.updSk k (fun x => x.onInfo (fun i => i.raiseClk (if r.w.valid then r.w.clk + 1 else 0))) else s
  let ag := s.agentOf k
  let s := if writes then s.raceUpdate ag l (fun r => r.addWriter ag.tag ag.clk false) else s
  if rel then s.updSk k (fun x => x.onInfo TaskInfo.tickClk) else s

/-- Checks of a synchronisation access: range, alignment, translation, the record's own translation; aperture addresses
are refused to atomics and WAITA (05 R109, 17 R414). -/
def State.syncCheck (s : State) (k : Nat) (ea : DWord) (n : Nat) (nd : Need) (noAperture : Bool) : Except Report Loc :=
  match s.locate (s.aTlbs k) (s.asidOf k) ea n nd with
  | .error r => .error r
  | .ok l =>
    if noAperture && !l.host && (apertureOf l.pa).isSome then
      .error { code := 0x0106, addr := ea, level := l.level, write := nd == .rw }
    else if l.chk then
      match s.recordLoc (s.agentOf k) l.va (nd != .rd) with
      | .error r => .error r
      | .ok _ => .ok l
    else .ok l

/-- A read or a write at the home by a Skillet's A-engine. -/
def State.homeRead (s : State) (k : Nat) (l : Loc) (n : Nat) : Except Stop (Nat × State) :=
  match s.rdHome (dieOf k) (s.asidOf k) l.host l.pa n with
  | .error e => .error e.stop
  | .ok (bs, s') => .ok (ofLe bs, s'.dropClean (dieOf k) [l.pa / 64])

def State.homeWrite (s : State) (k : Nat) (l : Loc) (n x : Nat) : Act :=
  liftP (s.wrHome (dieOf k) (s.asidOf k) l.host (cellsAt l.pa (leBytes n x)) (.engine k))

end Sys2Proof.Machine
end

