-- ==== Sys2Proof/Machine/Codes.lean ====
section
/-! DEFINITION. The exception codes (12 R294, 14 R382, 15 R403). -/

namespace Sys2Proof.Machine.Code

abbrev illegalOp : Nat := 0x0001
abbrev sharedControlMismatch : Nat := 0x0002
abbrev engineDeadlock : Nat := 0x0003
abbrev badTarget : Nat := 0x0004
abbrev loopDepth : Nat := 0x0005
abbrev cstoreBound : Nat := 0x0006
abbrev quantWindow : Nat := 0x0007
abbrev poisonUse : Nat := 0x0008
abbrev deferredFault : Nat := 0x0009
abbrev addressRange : Nat := 0x0101
abbrev misaligned : Nat := 0x0102
abbrev accessShape : Nat := 0x0103
abbrev scratchBound : Nat := 0x0104
abbrev translationFault : Nat := 0x0105
abbrev permissionFault : Nat := 0x0106
abbrev memoryModel : Nat := 0x0107
abbrev taskLimit : Nat := 0x0201
abbrev dequeOverflow : Nat := 0x0202
abbrev joinBusy : Nat := 0x0203
abbrev griddleArg : Nat := 0x0211
abbrev badSlab : Nat := 0x0212
abbrev noLease : Nat := 0x0213
abbrev badCard : Nat := 0x0214
abbrev badFormat : Nat := 0x0215
abbrev formatOverflow : Nat := 0x0216
abbrev formatUnderflow : Nat := 0x0217
abbrev griddleShape : Nat := 0x0218
abbrev accType : Nat := 0x0219
abbrev syncArg : Nat := 0x0221
abbrev syncAccess : Nat := 0x0222
abbrev badShape : Nat := 0x0223
abbrev notMember : Nat := 0x0224
abbrev semRange : Nat := 0x0225
abbrev badImage : Nat := 0x0301
abbrev checkMismatch : Nat := 0x0302
abbrev trap : Nat := 0x0401
abbrev sysc : Nat := 0x0402
abbrev breakpoint : Nat := 0x0403
abbrev step : Nat := 0x0404
abbrev sysArg : Nat := 0x0405
abbrev badHandle : Nat := 0x0501
abbrev handleReadonly : Nat := 0x0502
abbrev handleShape : Nat := 0x0503
abbrev staleChunk : Nat := 0x0504
abbrev crockFull : Nat := 0x0505
abbrev chunkDiscarded : Nat := 0x0506
abbrev handleLimit : Nat := 0x0507
abbrev handleAway : Nat := 0x0508
abbrev handlePoisoned : Nat := 0x0509
abbrev shArg : Nat := 0x050A
abbrev parkFault : Nat := 0x050B
abbrev mergeConflict : Nat := 0x0601
abbrev stampOverrun : Nat := 0x0602
abbrev replayDivergence : Nat := 0x0603
abbrev detArg : Nat := 0x0604
abbrev writeSetFull : Nat := 0x0605
abbrev spillCorrupt : Nat := 0x0F01
abbrev joinFault : Nat := 0x0F02
abbrev ctxInvalid : Nat := 0x0F03
abbrev handlerFault : Nat := 0x0F04
abbrev handlerTimeout : Nat := 0x0F05
abbrev badRecord : Nat := 0x0F06

end Sys2Proof.Machine.Code
end

