-- ==== Sys2Proof/Machine/Engine.lean ====
section
/-! DEFINITION. The engines of one Skillet: registers, token FIFOs, shared-control points, back edges (01 R16 to R24, R29,
04 R101, R103). -/

namespace Sys2Proof.Machine

/-! ### Registers (01 R29): s0 and a0 read zero and discard writes -/

def Issue.getS (t : Issue) (r : BitVec 6) : DWord := if r = 0 then 0 else Tbl.look 0 t.s r.toNat
def Issue.setS (t : Issue) (r : BitVec 6) (x : DWord) : Issue := if r = 0 then t else { t with s := Tbl.set 0 t.s r.toNat x }
def Issue.getA (t : Issue) (r : BitVec 5) : DWord := if r = 0 then 0 else Tbl.look 0 t.ar r.toNat
def Issue.getAP (t : Issue) (r : BitVec 5) : Bool := if r = 0 then false else t.aP.getLsbD r.toNat
/-- The tag of an engine's own words (01 R13). -/
def Engine.tag : Engine → BitVec 2
  | .C => 0
  | .A => 1
  | .V => 2

/-- Writes an a register and its poison bit. -/
def Issue.setA (t : Issue) (r : BitVec 5) (x : DWord) (p : Bool) : Issue :=
  if r = 0 then t else { t with ar := Tbl.set 0 t.ar r.toNat x, aP := insertBits t.aP r.toNat 1 (b2n p) }
def Issue.getK (t : Issue) (r : Nat) : DWord := Tbl.look 0 t.k r
def Issue.getKP (t : Issue) (r : Nat) : Bool := t.kP.getLsbD r
def Issue.setK (t : Issue) (r : Nat) (x : DWord) (p : Bool) : Issue :=
  { t with k := Tbl.set 0 t.k r x, kP := insertBits t.kP r 1 (b2n p) }
def Issue.getV (t : Issue) (r : Nat) : VWord := Tbl.look 0 t.vr r
def Issue.getVP (t : Issue) (r : Nat) : LaneMask := Tbl.look 0 t.vP r
def Issue.setV (t : Issue) (r : Nat) (x : VWord) (p : LaneMask) : Issue :=
  { t with vr := Tbl.set 0 t.vr r x, vP := Tbl.set 0 t.vP r p }
def Issue.getM (t : Issue) (r : Nat) : LaneMask := Tbl.look 0 t.m r
def Issue.setM (t : Issue) (r : Nat) (x : LaneMask) : Issue := { t with m := Tbl.set 0 t.m r x }

/-! ### The V-engine word that has issued and not retired (03 R71) -/

/-- The draw state: SRSEED as advanced by every earlier V-engine word, issued or retired. -/
def Issue.drawState (t : Issue) : DWord := (t.vret.map VLeft.seed).getD t.srseed

/-- A V-engine word has issued: it will leave its flags and its final draw state. -/
def Issue.vleave (t : Issue) (fl seed : DWord) : Issue := { t with vret := some ⟨(t.vret.elim 0 VLeft.fl) ||| fl, seed⟩ }

/-- The V-engine word that has issued retires: FPCTL gathers its flags, SRSEED takes the draw state. -/
def Issue.vretire (t : Issue) : Issue :=
  match t.vret with
  | none => t
  | some v => { t with fpctl := t.fpctl ||| v.fl, srseed := v.seed, vret := none }

/-- An SWT to SRSEED replaces the draw state from the cycle it retires. -/
def Issue.reseed (t : Issue) (x : DWord) : Issue := { t with srseed := x, vret := t.vret.map (fun v => { v with seed := x }) }

/-! ### Engines -/

def Issue.eng (t : Issue) : Engine → Eng
  | .C => t.c | .A => t.a | .V => t.v
def Issue.setEng (t : Issue) (e : Engine) (x : Eng) : Issue :=
  match e with
  | .C => { t with c := x } | .A => { t with a := x } | .V => { t with v := x }
def Engine.num : Engine → Nat
  | .C => 0 | .A => 1 | .V => 2

def State.tk (s : State) (k : Nat) : Issue := (s.sk k).t
def State.onTk (s : State) (k : Nat) (f : Issue → Issue) : State := s.updSk k (fun x => x.onT f)
def State.onInfo (s : State) (k : Nat) (f : TaskInfo → TaskInfo) : State := s.updSk k (fun x => x.onInfo f)
def State.onEng (s : State) (k : Nat) (e : Engine) (f : Eng → Eng) : State :=
  s.onTk k (fun t => t.setEng e (f (t.eng e)))

/-- The return address goes to each engine's link register (04 R98). -/
def Issue.link (t : Issue) (e : Engine) (x : DWord) : Issue :=
  match e with
  | .C => t.setS 63 x | .A => t.setA 31 x false | .V => t.setK 15 x false

/-! ### Token FIFOs (01 R21, R22, R24) -/

inductive Fifo where
  | ca | cv | av | va | ac | vc
  deriving DecidableEq, Repr

def Issue.fifo (t : Issue) : Fifo → List FifoEnt
  | .ca => t.ca | .cv => t.cv | .av => t.av | .va => t.va | .ac => t.ac | .vc => t.vc
def Issue.setFifo (t : Issue) (f : Fifo) (x : List FifoEnt) : Issue :=
  match f with
  | .ca => { t with ca := x } | .cv => { t with cv := x } | .av => { t with av := x }
  | .va => { t with va := x } | .ac => { t with ac := x } | .vc => { t with vc := x }

/-- First and second incoming FIFO of an engine. -/
def fifoIn : Engine → Bool → Fifo
  | .C, false => .ac | .C, true => .vc
  | .A, false => .ca | .A, true => .va
  | .V, false => .cv | .V, true => .av

/-- First and second outgoing FIFO of an engine. -/
def fifoOut : Engine → Bool → Fifo
  | .C, false => .ca | .C, true => .cv
  | .A, false => .ac | .A, true => .av
  | .V, false => .vc | .V, true => .va

/-- The value of an entry that can be popped; an entry a PFB still holds cannot. -/
def FifoEnt.val? : FifoEnt → Option DWord
  | .full x => some x
  | .held _ => none

/-- Entries that can be popped from the head. -/
def fifoReady (l : List FifoEnt) : Nat := (l.takeWhile (fun e => e.val?.isSome)).length

/-- Whether the token field `tok` (POP `<3:2>`, PUSH `<1:0>`), together with a RECV from `recv` and a SEND to `send`, finds
its entries and places (01 R22, R24). -/
def Issue.tokReady (t : Issue) (e : Engine) (tok : BitVec 4) (recv send : Option Fifo) : Bool :=
  [false, true].all (fun second =>
    let i := fifoIn e second
    let o := fifoOut e second
    decide (b2n (tok.getLsbD (if second then 3 else 2)) + b2n (recv == some i) ≤ fifoReady (t.fifo i))
      && decide (b2n (tok.getLsbD (if second then 1 else 0)) + b2n (send == some o) + (t.fifo o).length ≤ 16))

def Issue.popFifo (t : Issue) (f : Fifo) : Issue := t.setFifo f (t.fifo f).tail
def Issue.pushFifo (t : Issue) (f : Fifo) (x : FifoEnt) : Issue := t.setFifo f (t.fifo f ++ [x])

/-- The pops of a token field: values are discarded (01 R22). -/
def Issue.tokPop (t : Issue) (e : Engine) (tok : BitVec 4) : Issue :=
  let t := if tok.getLsbD 2 then t.popFifo (fifoIn e false) else t
  if tok.getLsbD 3 then t.popFifo (fifoIn e true) else t

/-- The pushes of a token field: bare tokens, or the places a PFB holds (01 R22, 05 R134). -/
def Issue.tokPush (t : Issue) (e : Engine) (tok : BitVec 4) (x : FifoEnt) : Issue :=
  let t := if tok.getLsbD 0 then t.pushFifo (fifoOut e false) x else t
  if tok.getLsbD 1 then t.pushFifo (fifoOut e true) x else t

/-- The head value of a FIFO, zero if none. -/
def Issue.fifoHead (t : Issue) (f : Fifo) : DWord := ((t.fifo f).head?.bind FifoEnt.val?).getD 0

/-! ### Shared-control points (01 R19) and back edges (04 R103) -/

/-- Counts a shared-control point passed by an engine. -/
def Issue.point (t : Issue) : Engine → Issue
  | .C => { t with dA := t.dA + 1, dV := t.dV + 1 }
  | .A => { t with dA := t.dA - 1 }
  | .V => { t with dV := t.dV - 1 }

/-- P_C − min(P_A, P_V) < SLIPW (01 R19). -/
def Issue.slipOk (t : Issue) : Bool := decide (max t.dA t.dV < (t.slipw : Int))

/-- The back-edge test of R103: loop stack after, next address, whether a back edge is taken. -/
def edgeLoop (p : Nat) : List LoopEnt → Nat → List LoopEnt × Nat × Bool
  | [], nxt => ([], nxt, false)
  | top :: rest, nxt =>
    if p ≤ top.last ∧ top.last < nxt then
      if 1 < top.left.toNat then ({ top with left := top.left - 1 } :: rest, top.start, true)
      else edgeLoop p rest nxt
    else (top :: rest, nxt, false)

/-- Whether the Skillet's engines are asked to stop (12 R296). -/
def Skillet.stopping (x : Skillet) : Bool := x.info.stop.isSome

/-- Whether engine `e` must hold before a back edge: a stop request (12 R296), or the slip bound (01 R19). -/
def Skillet.holdPoint (x : Skillet) (e : Engine) : Bool := x.stopping || (e == .C && !x.t.slipOk)

/-- Makes the pending back-edge test of an engine, unless the back edge must wait. -/
def Skillet.tryEdge (x : Skillet) (e : Engine) : Skillet :=
  match (x.t.eng e).edge with
  | none => x
  | some (p, nxt) =>
    let (loops, dest, back) := edgeLoop p (x.t.eng e).loops nxt
    if back && x.holdPoint e then x
    else x.onT (fun t =>
      let t := t.setEng e { t.eng e with pc := BitVec.ofNat 56 dest, loops := loops, edge := none }
      if back then t.point e else t)

/-- Sequential advance over a word of `len` bytes that was issued or stepped over (01 R16, 04 R103). -/
def Skillet.advance (x : Skillet) (e : Engine) (len : Nat) : Skillet :=
  (x.onT (fun t =>
    let E := t.eng e
    t.setEng e { E with pc := E.pc + BitVec.ofNat 56 len, edge := some (E.pc.toNat, E.pc.toNat + len), stall := none })).tryEdge e

/-- The engines that satisfy `p` and issue hold where they stand. -/
def Issue.hold (t : Issue) (p : Engine → Bool) : Issue :=
  let f (e : Engine) (E : Eng) : Eng := if p e && E.st == .run then { E with st := .stopped } else E
  { t with c := f .C t.c, a := f .A t.a, v := f .V t.v }

/-- What an engine waits on inside its Skillet may have come: a word has issued, or data has arrived. Its wait counts afresh from its
next attempt to issue (01 R25). -/
def Issue.unstall (t : Issue) : Issue :=
  let f (E : Eng) : Eng := if E.st = .run then { E with stall := none } else E
  { t with c := f t.c, a := f t.a, v := f t.v }
def Skillet.unstall (x : Skillet) : Skillet := x.onT Issue.unstall

/-- A jump: the program counter set, no back-edge test (04 R103). -/
def Skillet.jump (x : Skillet) (e : Engine) (dest : Nat) : Skillet :=
  x.onT (fun t => t.setEng e { t.eng e with pc := BitVec.ofNat 56 dest, stall := none })

/-- Loops left by a taken branch (04 R104): entries whose body does not hold the target go, top first. -/
def leaveLoops (dest : Nat) : List LoopEnt → List LoopEnt
  | [] => []
  | top :: rest => if dest < top.start ∨ top.last < dest then leaveLoops dest rest else top :: rest

/-! ### Queues between A and V (01 R26) -/

inductive Queue where
  | lq0 | lq1 | sq0 | sq1
  deriving DecidableEq, Repr

def Issue.queue (t : Issue) : Queue → List QEnt
  | .lq0 => t.lq0 | .lq1 => t.lq1 | .sq0 => t.sq0 | .sq1 => t.sq1
def Issue.setQueue (t : Issue) (q : Queue) (x : List QEnt) : Issue :=
  match q with
  | .lq0 => { t with lq0 := x } | .lq1 => { t with lq1 := x } | .sq0 => { t with sq0 := x } | .sq1 => { t with sq1 := x }
def Issue.popQueue (t : Issue) (q : Queue) : Issue := t.setQueue q (t.queue q).tail
def Issue.pushQueue (t : Issue) (q : Queue) (x : QEnt) : Issue := t.setQueue q (t.queue q ++ [x])
def Issue.qFull (t : Issue) (q : Queue) : Bool := decide (4 ≤ (t.queue q).length)

end Sys2Proof.Machine
end

