-- ==== Sys2Proof/Machine/Record.lean ====
section
/-! DEFINITION. The task frame and the save record as bytes: writing, reading back, the checks of R313 (07 R165, 12 R298 to
R300, R313, R464). -/

namespace Sys2Proof.Machine

/-! ### The task frame (07 R165) -/

def FrameState.num : FrameState → Nat
  | .ready => 0 | .claimed => 1 | .taken => 2 | .invalid => 3
def FrameState.ofNum : Nat → FrameState
  | 0 => .ready | 1 => .claimed | 2 => .taken | _ => .invalid

/-- Doubleword 0x38 of a frame. -/
def Frame.tail (f : Frame) : Nat :=
  place (b2n f.range) 1 53 + place f.owner 7 46 + place f.claimer 7 39 + place f.state.num 2 37 + place (b2n f.stolen) 1 36
    + place (b2n f.idem) 1 35 + place (b2n f.wide) 1 34 + place f.wscope 2 32 + place f.count 32 0

def Frame.bytes (f : Frame) : List Byte :=
  leBytes 8 (f.entry % 2 ^ 56 / 4 * 4 + f.rscope % 4) ++ leBytes 8 f.taskId.toNat ++ leBytes 8 f.jctr.toNat
    ++ leBytes 8 f.arg0.toNat ++ leBytes 8 f.arg1.toNat ++ leBytes 8 f.arg2.toNat ++ leBytes 8 f.arg3.toNat
    ++ leBytes 8 f.tail

/-- A frame read from its doublewords; none where its STATE is 0b11 or a reserved bit is set (07 R169). -/
def Frame.ofDws (q : Nat → Nat) : Option Frame :=
  if bitsN (q 0) 63 56 ≠ 0 ∨ bitsN (q 7) 63 54 ≠ 0 ∨ bitsN (q 7) 38 37 = 3 then none
  else some
    { entry := bitsN (q 0) 55 2 * 4, rscope := bitsN (q 0) 1 0, taskId := dw (q 1), jctr := dw (q 2), arg0 := dw (q 3)
      arg1 := dw (q 4), arg2 := dw (q 5), arg3 := dw (q 6), range := bitN (q 7) 53, owner := bitsN (q 7) 52 46
      claimer := bitsN (q 7) 45 39, state := FrameState.ofNum (bitsN (q 7) 38 37), stolen := bitN (q 7) 36
      idem := bitN (q 7) 35, wide := bitN (q 7) 34, wscope := bitsN (q 7) 33 32, count := bitsN (q 7) 31 0 }

/-! ### The record image: record offset to byte, zero where nothing is listed -/

/-- Bytes of a record. -/
def recSize : Nat := 0x2B0000
/-- Bytes of a record below the scratchpad. -/
def recCore : Nat := 0x0B0000

abbrev Image := List (Nat × Byte)

def imDw (off : Nat) (x : DWord) : Image := cellsAt off (leBytes 8 x.toNat)

/-- The non-zero bytes of a wide value at an offset. -/
def imWide {w : Nat} (off n : Nat) (x : BitVec w) : Image :=
  (List.range n).filterMap (fun i => let b := byteAt x i; if b = 0 then none else some (off + i, b))

def imRegs (base : Nat) (t : Tbl DWord) : Image := t.flatMap (fun (i, x) => imDw (base + 8 * i) x)

def imLoops (base : Nat) (l : List LoopEnt) : Image :=
  imDw base (dw l.length) ++ l.reverse.zipIdx.flatMap (fun (e, j) =>
    imDw (base + 0x08 + 0x18 * j) (dw e.start) ++ imDw (base + 0x10 + 0x18 * j) (dw e.last) ++ imDw (base + 0x18 + 0x18 * j) e.left)

def imOut (base : Nat) (l : List OutEnt) : Image :=
  l.zipIdx.flatMap (fun (e, j) => imDw (base + 16 * j) (dw (e.addr % 2 ^ 56 + place (b2n e.taken) 1 63)) ++ imDw (base + 16 * j + 8) e.val)

def imFifo (base : Nat) (l : List FifoEnt) : Image := l.zipIdx.flatMap (fun (e, j) => imDw (base + 8 * j) (e.val?.getD 0))

def imQueue (md data : Nat) (l : List QEnt) : Image :=
  l.zipIdx.flatMap (fun (e, j) => imWide (md + 0x400 * j) 256 e.en ++ imWide (md + 0x400 * j + 0x100) 256 e.poison
    ++ imDw (md + 0x400 * j + 0x200) e.paddr ++ imWide (data + 0x2000 * j) 8192 e.data)

/-- The cause word (12 R299 0x20). -/
def Report.cause (r : Report) : DWord :=
  dw (place r.elem 13 32 + place r.level 2 24 + place r.entry 2 22 + place (b2n r.write) 1 21 + place (b2n r.fetch) 1 20
    + place (b2n r.shadow) 1 19 + place (b2n r.async) 1 18 + place r.eng 2 16 + place r.code 16 0)

/-- What a record says beside the issue state (12 R299). -/
structure RecHead where
  kind : Nat
  spin : Bool
  rep : Report

def State.sfcOf (s : State) (k : Nat) : DWord :=
  match s.launch? (s.sk k).info.launch with
  | some l => if l.level = 3 then dw (match l.started with
      | some t => (s.now - t) / (l.flen + 1)
      | none => 0) else 0
  | none => 0

/-- A special register of a Skillet's task (04 R93). -/
def State.sprOf (s : State) (k idx : Nat) : DWord :=
  let x := s.sk k
  match idx with
  | 0x0 => dw x.t.slipw
  | 0x1 => x.info.frame.taskId
  | 0x2 => x.info.teamId
  | 0x3 => dw x.info.teamSlot
  | 0x4 => dw k
  | 0x5 => s.chipId.setWidth 64
  | 0x6 => x.t.fpctl
  | 0x7 => x.t.srseed
  | 0x8 => dw x.info.sclk
  | 0x9 => x.t.remt
  | 0xA => dw (s.levelOf k)
  | 0xB => s.sfcOf k
  | _ => if 0x10 ≤ idx ∧ idx < 0x20 then Tbl.look 0 x.t.mbox (idx - 0x10) else 0

/-- The save record of a Skillet's task (12 R298, R299). -/
def State.recImage (s : State) (k : Nat) (h : RecHead) : Image :=
  let x := s.sk k
  let t := x.t
  let fl (b : Nat) (i : Nat) : Nat := place b 5 (16 + 5 * i)
  imDw 0 (dw (place (b2n h.spin) 1 12 + place (b2n x.info.killOk) 1 11 + place h.kind 3 8 + 1))
  ++ imDw 8 (t.c.pc.setWidth 64) ++ imDw 0x10 (t.a.pc.setWidth 64) ++ imDw 0x18 (t.v.pc.setWidth 64)
  ++ imDw 0x20 h.rep.cause ++ imDw 0x28 h.rep.addr ++ imDw 0x30 h.rep.info
  ++ imDw 0x38 (dw (t.oqa.length + place t.oqv.length 7 8
      + fl t.ca.length 0 + fl t.cv.length 1 + fl t.av.length 2 + fl t.va.length 3 + fl t.ac.length 4 + fl t.vc.length 5
      + place t.lq0.length 3 46 + place t.lq1.length 3 49 + place t.sq0.length 3 52 + place t.sq1.length 3 55))
  ++ cellsAt 0x40 x.info.frame.bytes
  ++ (List.range 32).flatMap (fun i => imDw (0x80 + 8 * i) (s.sprOf k i))
  ++ imRegs 0x180 t.s ++ imRegs 0x380 t.ar ++ imRegs 0x480 t.k
  ++ imDw 0x500 (t.aP.setWidth 64) ++ imDw 0x508 (t.kP.setWidth 64)
  ++ imLoops 0x540 t.c.loops ++ imLoops 0x5C0 t.a.loops ++ imLoops 0x640 t.v.loops
  ++ imDw 0x6C0 (dw (place t.vl 12 0 + place t.wp 3 16 + place t.qn 4 24))
  ++ imDw 0x6C8 (wrapD t.dA) ++ imDw 0x6D0 (wrapD t.dV)
  ++ (match x.info.arr with
      | some a => imDw 0x6D8 (dw (1 + place (b2n a.elect) 1 1 + place a.group 8 8 + place a.phase 32 32))
      | none => [])
  ++ imOut 0x800 t.oqa ++ imOut 0xC00 t.oqv
  ++ imFifo 0x1000 t.ca ++ imFifo 0x1080 t.cv ++ imFifo 0x1100 t.av ++ imFifo 0x1180 t.va ++ imFifo 0x1200 t.ac ++ imFifo 0x1280 t.vc
  ++ t.m.flatMap (fun (i, x) => imWide (0x1300 + 0x100 * i) 256 x)
  ++ t.win.flatMap (fun (j, w) => imDw (0x2000 + 0x200 * j) (dw (place w.ty 5 0 + place w.n 12 16 + place (b2n w.valid) 1 31))
      ++ imWide (0x2040 + 0x200 * j) 256 w.scales ++ imWide (0x2180 + 0x200 * j) 32 w.poison)
  ++ imRegs 0x3000 t.cst
  ++ x.info.saved.zipIdx.flatMap (fun (l, i) => imDw (0x4000 + 0x100 * i) l.sref
      ++ imDw (0x4008 + 0x100 * i) (dw (l.set % 4 + place l.budget 7 8 + place l.fmts.length 5 16 + place 1 1 31))
      ++ l.fmts.zipIdx.flatMap (fun (w, j) => imDw (0x4010 + 0x100 * i + 8 * j) w))
  ++ t.vP.flatMap (fun (i, x) => imWide (0x8000 + 0x100 * i) 256 x)
  ++ imQueue 0xC000 0x90000 t.lq0 ++ imQueue 0xD000 0x98000 t.lq1 ++ imQueue 0xE000 0xA0000 t.sq0 ++ imQueue 0xF000 0xA8000 t.sq1
  ++ t.vr.flatMap (fun (i, x) => imWide (0x10000 + 0x2000 * i) 8192 x)
  ++ (if h.spin then [] else x.scr.map (fun (a, b) => (0xB0000 + a, b)))

/-! ### Records in memory -/

/-- Why a record could not be written or read. -/
inductive RecErr where
  | fault (va : Nat)
  | mcheck (kind pa : Nat)
  | bad
  deriving DecidableEq, Repr

/-- What a translation that failed for a unit's access at `va` comes to. -/
def Report.recErr (r : Report) (va : Nat) : RecErr := match r.mc with
  | some (kind, pa) => .mcheck kind pa
  | none => .fault va

/-- Where a record's 64 KiB pages lie, or the address at which translation failed (12 R464). -/
def State.recPages (s : State) (d asid base n : Nat) (nd : Need) : Except RecErr (List (Nat × Loc)) :=
  (List.range n).mapM (fun j =>
    match s.xlate (s.dTlbs d) asid (base + 65536 * j) nd with
    | .ok l => .ok (65536 * j, l)
    | .error r => .error (r.recErr (base + 65536 * j)))

/-- Replaces the `n` bytes of memory at `pa` by the cells given, which lie there. -/
def fillRange (m : List Host.Cell) (pa n : Nat) (ws : List (Nat × Byte)) : List Host.Cell :=
  wrCells (m.filter (fun c => decide (c.1 < pa) || decide (pa + n ≤ c.1))) ws

/-- The remote-dirty lines of a page that a die holds are written through. -/
def State.writePage (s : State) (d page : Nat) : State :=
  ((s.die d).dirty.filter (fun x => x.line / 1024 == page)).foldl (fun s x => s.writeThrough d x.line) s

/-- Writes one page of a record at its home: the page's cells over zeros, so that every line of the page is written (12 R298). -/
def State.putPage (s : State) (d asid : Nat) (l : Loc) (ws : List (Nat × Byte)) : Except RecErr State :=
  if !l.host && (apertureOf l.pa).isNone then
    if (homeOf l.pa).isNone then .error (.mcheck 4 l.pa)
    else
      let lines := (List.range 1024).map (l.pa / 64 + ·)
      let s := ((s.writePage d (l.pa / 65536)).touchLines lines .unit).dropClean d lines
      .ok { s with mem := fillRange s.mem l.pa 65536 ws, poison := s.poison.filter (fun g => g / 1024 != l.pa / 65536) }
  else
    let zero := cellsAt l.pa (List.replicate 65536 0)
    match (s.wrHome d asid l.host zero .unit).bind (fun s => s.wrHome d asid l.host ws .unit) with
    | .ok s => .ok s
    | .error e => .error (.mcheck e.mc.1 e.mc.2)

/-- Writes a record with a context's translation (12 R298, R464). -/
def State.putRecord (s : State) (d asid base n : Nat) (im : Image) : Except RecErr State :=
  match s.recPages d asid base n .wr with
  | .error e => .error e
  | .ok pages => pages.foldlM (fun s (o, l) =>
      s.putPage d asid l ((im.filter (fun c => c.1 / 65536 == o / 65536)).map (fun c => (l.pa + (c.1 - o), c.2)))) s

/-- The non-zero bytes of one page of a record. -/
def State.getPage (s : State) (d asid o : Nat) (l : Loc) : Except RecErr (Image × State) :=
  if !l.host && (apertureOf l.pa).isNone then
    if (homeOf l.pa).isNone then .error (.mcheck 4 l.pa)
    else match s.poison.find? (fun g => g / 1024 == l.pa / 65536) with
    | some g => .error (.mcheck 3 (g * 64))
    | none =>
      let s := s.writePage d (l.pa / 65536)
      .ok ((s.mem.filter (fun c => decide (l.pa ≤ c.1) && decide (c.1 < l.pa + 65536))).map (fun c => (o + (c.1 - l.pa), c.2)), s)
  else match s.rdHome d asid l.host l.pa 65536 with
    | .ok (bs, s) => .ok ((cellsAt o bs).filter (fun c => c.2 != 0), s)
    | .error e => .error (.mcheck e.mc.1 e.mc.2)

/-- Reads a record back (12 R464). -/
def State.getRecord (s : State) (d asid base n : Nat) : Except RecErr (Image × State) :=
  match s.recPages d asid base n .rd with
  | .error e => .error e
  | .ok pages => pages.foldlM (fun (im, s) (o, l) =>
      (s.getPage d asid o l).map (fun (p, s) => (im ++ p, s))) ([], s)

/-! ### Reading the image -/

def imNat (im : Image) (off n : Nat) : Nat :=
  im.foldl (fun a c => if off ≤ c.1 ∧ c.1 < off + n then a + c.2.toNat <<< (8 * (c.1 - off)) else a) 0
def imGet (im : Image) (off : Nat) : DWord := dw (imNat im off 8)
def imWideGet (w : Nat) (im : Image) (off : Nat) : BitVec w := BitVec.ofNat w (imNat im off ((w + 7) / 8))

def imTbl {α : Type} [DecidableEq α] (d : α) (n : Nat) (f : Nat → α) : Tbl α :=
  (List.range n).filterMap (fun i => let x := f i; if x = d then none else some (i, x))

def imLoopsGet (im : Image) (base : Nat) : List LoopEnt :=
  ((List.range (fld (imGet im base) 2 0)).map (fun j =>
    ⟨(imGet im (base + 0x08 + 0x18 * j)).toNat, (imGet im (base + 0x10 + 0x18 * j)).toNat, imGet im (base + 0x18 + 0x18 * j)⟩)).reverse
def imOutGet (im : Image) (base n : Nat) : List OutEnt :=
  (List.range n).map (fun j => ⟨fld (imGet im (base + 16 * j)) 55 0, (imGet im (base + 16 * j)).getLsbD 63, imGet im (base + 16 * j + 8)⟩)
def imFifoGet (im : Image) (base n : Nat) : List FifoEnt := (List.range n).map (fun j => .full (imGet im (base + 8 * j)))
def imQueueGet (im : Image) (md data n : Nat) : List QEnt :=
  (List.range n).map (fun j => ⟨imWideGet 65536 im (data + 0x2000 * j), imWideGet 2048 im (md + 0x400 * j),
    imWideGet 2048 im (md + 0x400 * j + 0x100), imGet im (md + 0x400 * j + 0x200), true⟩)

/-- A signed doubleword. -/
def sInt (x : DWord) : Int := x.toInt

/-- The checks a resumed record must pass, else BAD-RECORD (12 R313). -/
def recOk (im : Image) : Bool :=
  let h := imGet im 0
  let c := imGet im 0x20
  let q := imGet im 0x38
  let cnt (i : Nat) : Nat := fld q (20 + 5 * i) (16 + 5 * i)
  let qc (i : Nat) : Nat := fld q (48 + 3 * i) (46 + 3 * i)
  fld h 7 0 == 1 && fld h 63 15 == 0
    && [8, 0x10, 0x18].all (fun o => fld (imGet im o) 63 56 == 0 && fld (imGet im o) 1 0 == 0)
    && fld c 63 45 == 0 && fld c 31 26 == 0
    && fld q 63 58 == 0 && !q.getLsbD 15 && !q.getLsbD 7
    && decide (fld q 6 0 ≤ 64) && decide (fld q 14 8 ≤ 64)
    && (List.range 6).all (fun i => decide (cnt i ≤ 16)) && (List.range 4).all (fun i => decide (qc i ≤ 4))
    && decide (fld (imGet im 0x6C0) 11 0 ≤ 2048) && decide (fld (imGet im 0x6C0) 27 24 ≤ 8)
    && [0x540, 0x5C0, 0x640].all (fun o => decide ((imGet im o).toNat ≤ 4))
    && (List.range 4).all (fun i => !(imGet im (0x4008 + 0x100 * i)).getLsbD 31 || decide (fld (imGet im (0x4008 + 0x100 * i)) 20 16 ≤ 16))
    && decide (sInt (imGet im 0x6C8) ≤ 64) && decide (sInt (imGet im 0x6D0) ≤ 64)

/-- The issue state a record holds (12 R298); the engines run. -/
def recIssue (im : Image) : Issue :=
  let q := imGet im 0x38
  let cnt (i : Nat) : Nat := fld q (20 + 5 * i) (16 + 5 * i)
  let qc (i : Nat) : Nat := fld q (48 + 3 * i) (46 + 3 * i)
  let eng (pc lp : Nat) : Eng := { pc := (imGet im pc).setWidth 56, loops := imLoopsGet im lp }
  { c := eng 8 0x540, a := eng 0x10 0x5C0, v := eng 0x18 0x640
    s := (imTbl 0 64 (fun i => imGet im (0x180 + 8 * i))).filter (fun e => e.1 != 0)
    ar := (imTbl 0 32 (fun i => imGet im (0x380 + 8 * i))).filter (fun e => e.1 != 0)
    aP := (imGet im 0x500).setWidth 32, k := imTbl 0 16 (fun i => imGet im (0x480 + 8 * i)), kP := (imGet im 0x508).setWidth 16
    m := imTbl 0 8 (fun i => imWideGet 2048 im (0x1300 + 0x100 * i))
    vr := imTbl 0 64 (fun i => imWideGet 65536 im (0x10000 + 0x2000 * i))
    vP := imTbl 0 64 (fun i => imWideGet 2048 im (0x8000 + 0x100 * i))
    vl := fld (imGet im 0x6C0) 11 0, wp := fld (imGet im 0x6C0) 18 16, qn := fld (imGet im 0x6C0) 27 24
    win := imTbl {} 8 (fun j => let d := imGet im (0x2000 + 0x200 * j)
      ⟨fld d 4 0, fld d 27 16, imWideGet 2048 im (0x2040 + 0x200 * j), imWideGet 256 im (0x2180 + 0x200 * j), d.getLsbD 31⟩)
    cst := imTbl 0 512 (fun i => imGet im (0x3000 + 8 * i))
    dA := sInt (imGet im 0x6C8), dV := sInt (imGet im 0x6D0)
    oqa := imOutGet im 0x800 (fld q 6 0), oqv := imOutGet im 0xC00 (fld q 14 8)
    ca := imFifoGet im 0x1000 (cnt 0), cv := imFifoGet im 0x1080 (cnt 1), av := imFifoGet im 0x1100 (cnt 2)
    va := imFifoGet im 0x1180 (cnt 3), ac := imFifoGet im 0x1200 (cnt 4), vc := imFifoGet im 0x1280 (cnt 5)
    lq0 := imQueueGet im 0xC000 0x90000 (qc 0), lq1 := imQueueGet im 0xD000 0x98000 (qc 1)
    sq0 := imQueueGet im 0xE000 0xA0000 (qc 2), sq1 := imQueueGet im 0xF000 0xA8000 (qc 3)
    slipw := (imGet im 0x80).toNat, fpctl := (imGet im 0xB0) &&& 0x7F3F, srseed := imGet im 0xB8, remt := imGet im 0xC8
    mbox := imTbl 0 16 (fun i => imGet im (0x100 + 8 * i)) }

/-- An arrival the record keeps (10 R276, 12 R298 0x6D8). -/
def recArr (im : Image) : Option Arrival :=
  let d := imGet im 0x6D8
  if d.getLsbD 0 then some ⟨d.getLsbD 1, fld d 15 8, fld d 63 32⟩ else none

/-- The saved leases of a record (12 R298 0x4000). -/
def recLeases (im : Image) : List SavedLease :=
  (List.range 4).filterMap (fun i =>
    let d := imGet im (0x4008 + 0x100 * i)
    if d.getLsbD 31 then
      some ⟨imGet im (0x4000 + 0x100 * i), fld d 1 0, fld d 14 8, (List.range (min 16 (fld d 20 16))).map (fun j => imGet im (0x4010 + 0x100 * i + 8 * j))⟩
    else none)

/-- The scratchpad of a record with SPIN = 0. -/
def recScr (im : Image) : Tbl Byte := (im.filter (fun c => decide (recCore ≤ c.1))).map (fun c => (c.1 - recCore, c.2))

end Sys2Proof.Machine
end

