-- ==== Sys2Proof/Machine/Semaphore.lean ====
section
/-! DEFINITION. Retirement and stalling of an instruction, and the semaphores with their queues (01 R22, R25, 12 R296,
R307, 10 R269 to R271). -/

namespace Sys2Proof.Machine

/-! ### Retirement -/

/-- What a retirement by engine `e` means for a single step: the STEP trap is due (12 R307). -/
def Skillet.stepped (x : Skillet) (e : Engine) (info : DWord) : Skillet :=
  if x.info.step = some e ∧ x.handler.isNone then
    if x.info.stop = some .yield then x.onInfo (fun i => { i with step := none, stepDone := true })
    else (x.onT (fun t => t.setEng e { t.eng e with st := .faulted { code := Code.step, info := info, eng := e.num } })).onInfo
      (fun i => { i with step := none, stop := some .trap })
  else x

/-- A running launch changed. -/
def State.updLaunch (s : State) (l : Nat) (f : Launch → Launch) : State :=
  { s with launches := s.launches.map (fun (i, x) => if i = l then (i, f x) else (i, x)) }

/-- The snapshot point set at a turn, and the turn over (15 R390, R391). -/
def State.turnOver (s : State) (k : Nat) (fresh : Bool) : State :=
  if (s.sk k).info.granted then
    (s.updLaunch (s.sk k).info.launch (fun l => { l with turns := l.turns.filter (· != k) })).onInfo k (fun i =>
      { i with granted := false, turn := none
               snap := if fresh then some (s.snapNow k) else i.snap })
  else s

/-- Retirement of an instruction that ends sequentially: pops, pushes, the advance (01 R22, R23). -/
def State.retire (s : State) (k : Nat) (e : Engine) (len : Nat) (tok : BitVec 4) : State :=
  (s.updSk k (fun x =>
    (((x.onT (fun t => (t.tokPop e tok).tokPush e tok (.full 0))).advance e len).stepped e 0).unstall)).turnOver k true

/-! ### Semaphores -/

def State.sem (s : State) (d i : Nat) : Sem := Tbl.look {} (s.die d).sems i
def State.updSem (s : State) (d i : Nat) (f : Sem → Sem) : State :=
  s.updDie d (fun D => { D with sems := Tbl.upd {} D.sems i f })

def State.updJob (s : State) (d w : Nat) (f : Job → Job) : State :=
  s.updDie d (fun D => { D with window := match Tbl.find D.window w with
    | some j => Tbl.put D.window w (f j)
    | none => D.window })

def JobKind.colander : JobKind → Bool
  | .cpy | .cpyg | .cpys | .cpyr => true
  | _ => false
def JobKind.griddle : JobKind → Bool
  | .gmma | .gdrain | .gzero | .gsave | .grest | .greshape => true
  | _ => false
def JobKind.whisk (k : JobKind) : Bool := !k.colander && !k.griddle

/-- The die that executes a job: a Whisk job runs on the owner die of its handle, wherever that has moved since (14 R378, R383). -/
def State.runDie (s : State) (d : Nat) (j : Job) : Nat :=
  if j.kind.whisk then ((Tbl.find s.handles j.handle.toNat).map (fun h => h.die)).getD d else d

/-- Serves one waiter: the value falls unless it keeps it, a waiting SWAIT retires with its acquire, a waiting job makes its
acquire and may start (10 R270, R271, 08 R200, R205). -/
def State.serve (s : State) (d i : Nat) (w : Waiter) : State :=
  let c := (s.sem d i).clk
  match w with
  | .task k n keep =>
    let tok : BitVec 4 := match (s.tk k).cmd with
      | some (.sem _ _ tok) => tok
      | _ => 0
    let s := s.updSem d i (fun m => { m with value := if keep then m.value else m.value - n, q := m.q.tail })
    let s := s.acquireAt k (if dieOf k = d then 1 else 2)
    let s := s.updSk k (fun x => (x.onInfo (fun t => t.raiseClk c)).onT (fun t => { t with cmd := none }))
    s.retire k .C 8 tok
  | .job e win =>
    let s := s.updSem d i (fun m => { m with value := m.value - 1, q := m.q.tail })
    let r := match Tbl.find (s.die e).window win with
      | some j => s.runDie e j
      | none => e
    let s := if r = d then s else (s.writeThroughAll r).selfInvalidate r
    s.updJob e win (fun j => { j with st := .ready, clk := min (max j.clk c) 0xFFFFFFFF })

/-- What a waiter requests. -/
def Waiter.req : Waiter → Nat
  | .task _ n _ => n
  | .job _ _ => 1

/-- Serves the queue of a semaphore while its head is satisfied (10 R270); `fuel` bounds the waiters served. -/
def State.service : Nat → State → Nat → Nat → State
  | 0, s, _, _ => s
  | fuel + 1, s, d, i =>
    match (s.sem d i).q with
    | w :: _ => if w.req ≤ (s.sem d i).value then State.service fuel (s.serve d i w) d i else s
    | [] => s

def State.semRun (s : State) (d i : Nat) : State := State.service (s.sem d i).q.length s d i

/-- Takes waiters out of every semaphore queue; the queues they leave are tested again (10 R271). -/
def State.leaveSems (s : State) (gone : Waiter → Bool) : State :=
  allDies.foldl (fun s d =>
    (s.die d).sems.foldl (fun s (i, m) =>
      if m.q.any gone then (s.updSem d i (fun m => { m with q := m.q.filter (fun w => !gone w) })).semRun d i else s) s) s

/-- An increment that saturates (10 R270): `clk` raises the release clock first. -/
def State.semInc (s : State) (d i clk : Nat) : State :=
  (s.updSem d i (fun m => { m with value := min (m.value + 1) 0xFFFFFFFF, sov := m.sov || m.value == 0xFFFFFFFF
                                   clk := min (max m.clk clk) 0xFFFFFFFF })).semRun d i

/-! ### Stalls and stop points -/

/-- Withdraws a command that has issued and not been accepted (12 R295, R296); a JOIN keeps the counter it waits on. -/
def State.dropCmd (s : State) (k : Nat) : State :=
  match (s.tk k).cmd with
  | some (.sem d i _) =>
    (s.onTk k (fun t => { t with cmd := none })).updSem d i (fun m => { m with q := m.q.filter (fun w =>
      match w with
      | .task j _ _ => j != k
      | .job _ _ => true) }) |>.semRun d i
  | some (.grant b _) =>
    (s.onTk k (fun t => { t with cmd := none })).updDie (dieOf k) (fun D => { D with slabs := D.slabs.map (fun e =>
      if e.1 = b then (e.1, { e.2 with waiters := e.2.waiters.filter (fun w => w.sk != k || w.saved) }) else e) })
  | some (.act _ _ _) => s
  | some (.free _ _) => s
  | some (.spin _ _) => s
  | _ => s.onTk k (fun t => { t with cmd := none })

/-- Whether the C-engine stands at a command that has been accepted and must retire before it can stop. -/
def Issue.mustFinish (t : Issue) : Bool :=
  match t.cmd with
  | some (.act _ _ _) => true
  | some (.free _ _) => true
  | _ => false

/-- Takes a Skillet's watch out of its die's list. -/
def State.unwatch (s : State) (k : Nat) : State :=
  (s.onTk k (fun t => { t with watch := none })).updDie (dieOf k) (fun D => { D with watches := D.watches.filter (· != k) })

/-- What an engine that stops at an instruction withdraws: the C-engine a command not yet accepted (12 R295, R296), the A-engine the watch of a
WAITA, which executes again from its start (05 R133). -/
def State.withdraw (s : State) (k : Nat) : Engine → State
  | .C => s.dropCmd k
  | .A => (s.unwatch k).onTk k (fun t => { t with waitFrom := none })
  | .V => s

/-- Engine `e` reaches its stop point (12 R296). -/
def State.stopEng (s : State) (k : Nat) (e : Engine) : State :=
  let s := s.withdraw k e
  s.onEng k e (fun E => { E with st := .stopped, stall := none })

/-- Engine `e` cannot issue now. A stop request ends its run here; a single step that waits on another engine ends at
once; otherwise the stall is recorded (01 R25, 12 R296, R307). -/
def State.stallAt (s : State) (k : Nat) (e : Engine) (inside : Bool) : State :=
  let x := s.sk k
  if x.stopping && !(e == .C && x.t.mustFinish) then s.stopEng k e
  else if inside && x.info.step == some e && x.handler.isNone then s.updSk k (fun x => x.stepped e 1)
  else s.onEng k e (fun E => { E with stall := some (match E.stall with
    | some st => if st.inside = inside then st else ⟨s.now, inside⟩
    | none => ⟨s.now, inside⟩) })

end Sys2Proof.Machine
end

