-- ==== Sys2Proof/Machine/Deque.lean ====
section
/-! DEFINITION. The deques: the hardware part, the spill ring in memory, pushes, pops and where a thief looks (07 R168 to
R174). -/

namespace Sys2Proof.Machine

/-! ### Memory as the task unit and other units of a die reach it -/

/-- `n` bytes at a virtual address, read at the home with the die's translation; the bytes lie in one 64 KiB page. -/
def State.unitRd (s : State) (d asid va n : Nat) : Except RecErr (List Byte × State) :=
  match s.xlate (s.dTlbs d) asid va .rd with
  | .error r => .error (r.recErr va)
  | .ok l => match s.rdHome d asid l.host l.pa n with
    | .ok r => .ok r
    | .error e => .error (.mcheck e.mc.1 e.mc.2)

/-- Bytes written at a virtual address in one 64 KiB page. -/
def State.unitWr (s : State) (d asid va : Nat) (bs : List Byte) : Except RecErr State :=
  match s.xlate (s.dTlbs d) asid va .wr with
  | .error r => .error (r.recErr va)
  | .ok l => match s.wrHome d asid l.host (cellsAt l.pa bs) .unit with
    | .ok r => .ok r
    | .error e => .error (.mcheck e.mc.1 e.mc.2)

/-- How a unit's failed access ends the launch: a fault with the code given, or a machine check. -/
def RecErr.stop (code : Nat) : RecErr → Stop
  | .fault va => .fatal code (dw va)
  | .mcheck kind pa => .mc kind pa
  | .bad => .fatal Code.badRecord 0

/-! ### The spill area (07 R169) -/

/-- A logical deque: a launch and a package Skillet (07 R168). -/
structure Dq where
  l : Nat
  k : Nat
  deriving DecidableEq, Repr

/-- Base of the spill area of a Skillet in a launch (13 R329). -/
def State.spillBase (s : State) (q : Dq) : Nat :=
  match s.launch? q.l with
  | some l => fld (l.pkt.getD 2 0) 55 0 + 0x40040 * q.k
  | none => 0

def State.asidL (s : State) (l : Nat) : Nat := ((s.launch? l).map (·.asid)).getD 0

/-- BOT and NSP of a spill area (07 R169). -/
def State.ring (s : State) (q : Dq) : Nat × Nat := ((s.launch? q.l).map (fun l => Tbl.look (0, 0) l.rings q.k)).getD (0, 0)

/-- The hardware part of a logical deque: a Skillet's own while its launch holds it (07 R168, R170). -/
def State.hwOf (s : State) (q : Dq) : List Frame := if (s.sk q.k).launch = some q.l then (s.sk q.k).hw else []

/-- Address of frame slot j (07 R169). -/
def slotAddr (base j : Nat) : Nat := base + 64 + 64 * (j % 4096)

def State.getSlot (s : State) (q : Dq) (j : Nat) : Except Stop (Frame × State) :=
  match s.unitRd (dieOf q.k) (s.asidL q.l) (slotAddr (s.spillBase q) j) 64 with
  | .error e => .error (e.stop Code.ctxInvalid)
  | .ok (bs, s') =>
    match Frame.ofDws (fun i => ((dwords 8 bs).getD i 0).toNat) with
    | none => .error (.fatal Code.spillCorrupt (dw (slotAddr (s.spillBase q) j)))
    | some f => .ok (f, s')

def State.putSlot (s : State) (q : Dq) (j : Nat) (f : Frame) : Act :=
  match s.unitWr (dieOf q.k) (s.asidL q.l) (slotAddr (s.spillBase q) j) f.bytes with
  | .error e => .error (e.stop Code.ctxInvalid)
  | .ok s => .ok s

/-- The header after BOT and NSP have changed (07 R169). -/
def State.putHeader (s : State) (q : Dq) (bot nsp : Nat) : Act :=
  match s.unitWr (dieOf q.k) (s.asidL q.l) (s.spillBase q) (leBytes 8 (bot % 4096) ++ leBytes 8 nsp) with
  | .error e => .error (e.stop Code.ctxInvalid)
  | .ok s => .ok (s.updLaunch q.l (fun l => { l with rings := Tbl.put l.rings q.k (bot % 4096, nsp) }))

/-- Writes frames to the slots that follow the newest spilled entry, oldest first. -/
def State.spillFrames (s : State) (q : Dq) : List Frame → Act
  | [] => .ok s
  | f :: r => do
    let s ← s.putSlot q ((s.ring q).1 + (s.ring q).2) f
    let s ← s.putHeader q (s.ring q).1 ((s.ring q).2 + 1)
    s.spillFrames q r

/-- Moves the `n` bottom hardware entries to the ring (07 R170). -/
def State.spill (s : State) (q : Dq) (n : Nat) : Act := do
  let s' ← s.spillFrames q ((s.hwOf q).take n)
  .ok (s'.updSk q.k (fun x => { x with hw := x.hw.drop n }))

/-- Reads `n` frames from slot j upwards. -/
def State.readSlots : Nat → State → Dq → Nat → Except Stop (List Frame × State)
  | 0, s, _, _ => .ok ([], s)
  | n + 1, s, q, j => do
    let (f, s) ← s.getSlot q j
    let (r, s) ← State.readSlots n s q (j + 1)
    .ok (f :: r, s)

/-- Moves up to 16 of the newest spilled entries back when fewer than 8 hardware entries stand (07 R170). -/
def State.refill (s : State) (q : Dq) : Act :=
  let (bot, nsp) := s.ring q
  if (s.hwOf q).length < 8 ∧ nsp ≠ 0 then do
    let n := min 16 nsp
    let (fs, s) ← State.readSlots n s q (bot + nsp - n)
    let s := s.updSk q.k (fun x => { x with hw := fs ++ x.hw })
    s.putHeader q bot (nsp - n)
  else .ok s

/-- Entries of a logical deque (07 R168). -/
def State.dequeLen (s : State) (q : Dq) : Nat := (s.hwOf q).length + (s.ring q).2

/-- A push at the top; a push onto 64 hardware entries first spills 16 (07 R170). -/
def State.push (s : State) (q : Dq) (f : Frame) : Act := do
  let s ← if (s.hwOf q).length < 64 then .ok s else s.spill q 16
  .ok (s.updSk q.k (fun x => { x with hw := x.hw ++ [f] }))

/-- The index from the bottom of the top ready hardware entry (07 R172). -/
def topReady (l : List Frame) : Option Nat :=
  ((l.zipIdx.filter (fun e => e.1.state == .ready)).getLast?).map (·.2)

/-- TASKID with SEQ advanced by n (07 R166, R172, R174). -/
def seqPlus (tid : DWord) (n : Nat) : DWord := dw (bitsN tid.toNat 63 32 * 2 ^ 32 + (bitsN tid.toNat 31 0 + n) % 2 ^ 32)

/-- What an owner pop takes of an entry, and what stays (07 R172). -/
def popShare (f : Frame) : Frame × Option Frame :=
  if f.range then
    ({ f with arg0 := f.arg0 + dw (f.count - 1), taskId := seqPlus f.taskId (f.count - 1), count := 1, state := .taken },
      if f.count ≤ 1 then none else some { f with count := f.count - 1 })
  else ({ f with state := .taken }, none)

/-- The owner pop among the hardware entries (07 R172). -/
def popHw (l : List Frame) : Option (Frame × List Frame) :=
  match topReady l with
  | none => none
  | some i =>
    let (f, rest) := popShare (l.getD i {})
    some (f, l.take i ++ rest.toList ++ l.drop (i + 1))

/-- The newest ready entry of the ring among the `n` newest from slot `j` downwards: slot and frame. -/
def State.topReadySlot : Nat → State → Dq → Nat → Except Stop (Option (Nat × Frame) × State)
  | 0, s, _, _ => .ok (none, s)
  | n + 1, s, q, j => do
    let (f, s) ← s.getSlot q j
    if f.state = .ready then .ok (some (j, f), s) else State.topReadySlot n s q (j + 4095)

/-- Closes the gap at a ring slot: the `n` newer frames move down one place. -/
def State.closeSlot : Nat → State → Dq → Nat → Act
  | 0, s, q, _ => s.putHeader q (s.ring q).1 ((s.ring q).2 - 1)
  | n + 1, s, q, j => do
    let (f, s) ← s.getSlot q (j + 1)
    let s ← s.putSlot q j f
    State.closeSlot n s q (j + 1)

/-- The owner's pop of its logical deque after a refill: the top ready entry, hardware part first (07 R170, R172). -/
def State.ownPop (s : State) (q : Dq) : Except Stop (Option Frame × State) := do
  let s ← s.refill q
  match popHw (s.hwOf q) with
  | some (f, l) =>
    let s := s.updSk q.k (fun x => { x with hw := l })
    let s ← s.refill q
    .ok (some f, s)
  | none =>
    let (bot, nsp) := s.ring q
    let (r, s) ← State.topReadySlot nsp s q (bot + nsp + 4095)
    match r with
    | none => .ok (none, s)
    | some (j, f) =>
      let (g, rest) := popShare f
      match rest with
      | some r => do
        let s ← s.putSlot q j r
        .ok (some g, s)
      | none => do
        let s ← State.closeSlot ((bot + nsp + 4096 - 1 - j % 4096) % 4096) s q (j % 4096)
        .ok (some g, s)

/-! ### The bottom entry, which thieves examine (07 R173) -/

/-- A deque's bottom entry: the oldest spilled frame, else the oldest hardware entry. -/
def State.bottom (s : State) (q : Dq) : Except Stop (Option Frame × State) :=
  if (s.ring q).2 ≠ 0 then do
    let (f, s) ← s.getSlot q (s.ring q).1
    .ok (some f, s)
  else .ok ((s.hwOf q).head?, s)

/-- Replaces the bottom entry, or removes it. -/
def State.setBottom (s : State) (q : Dq) (f : Option Frame) : Act :=
  let (bot, nsp) := s.ring q
  if nsp ≠ 0 then
    match f with
    | some f => s.putSlot q bot f
    | none => s.putHeader q (bot + 1) (nsp - 1)
  else .ok (s.updSk q.k (fun x => { x with hw := f.toList ++ x.hw.tail }))

/-- The position of the entry a thief has claimed, among the hardware entries (07 R170, R174). -/
def claimedAt (l : List Frame) (thief : Nat) : Option Nat :=
  l.findIdx? (fun f => f.state == .claimed && f.claimer == thief)

/-- The entry a thief has claimed among the `n` ring slots from `j`: slot, newer entries, frame. -/
def State.claimedSlot : Nat → State → Dq → Nat → Nat → Except Stop (Option (Nat × Nat × Frame) × State)
  | 0, s, _, _, _ => .ok (none, s)
  | n + 1, s, q, j, thief => do
    let (f, s) ← s.getSlot q j
    if f.state = .claimed ∧ f.claimer = thief then .ok (some (j, n, f), s) else State.claimedSlot n s q (j + 1) thief

/-- Replaces or removes the entry a thief has claimed, wherever it now stands (07 R174, R175). -/
def State.setClaimed (s : State) (q : Dq) (thief : Nat) (f : Frame → Option Frame) : Act :=
  match claimedAt (s.hwOf q) thief with
  | some i => .ok (s.updSk q.k (fun x =>
      { x with hw := x.hw.take i ++ (f (x.hw.getD i {})).toList ++ x.hw.drop (i + 1) }))
  | none => do
    let (bot, nsp) := s.ring q
    let (r, s) ← State.claimedSlot nsp s q bot thief
    match r with
    | none => .ok s
    | some (j, newer, g) =>
      match f g with
      | some g => s.putSlot q j g
      | none =>
        if j % 4096 = bot % 4096 then s.putHeader q (bot + 1) (nsp - 1)
        else State.closeSlot newer s q (j % 4096)

end Sys2Proof.Machine
end

