-- ==== Sys2Proof/Machine/Lifecycle.lean ====
section
/-! DEFINITION. How jobs, leases, tasks and launches leave the machine: dropping and aborting jobs, ending and saving leases,
discarding a task, ending a launch, halting a task on a machine check (09 R219 to R221, R244, 10 R250, 12 R306, 13 R340, 17
R427, R428). -/

namespace Sys2Proof.Machine

/-! ### Jobs -/

/-- The footprints a card declares (09 R225). -/
def Job.foots (j : Job) : List Foot :=
  (List.range (min 4 (fld (j.card.getD 0 0) 6 4))).map (fun f =>
    let a := j.card.getD (1 + 2 * f) 0
    let b := j.card.getD (2 + 2 * f) 0
    { base := fld a 55 0, len := fld b 39 0, w := b.getLsbD 63, sp := b.getLsbD 62 })

/-- KIND of a job id (10 R246). -/
def JobKind.idNum (k : JobKind) : Nat := if k.colander then 0 else if k.griddle then 1 else 2

/-- A job id (10 R246). -/
def jobId (die win : Nat) (j : Job) : DWord :=
  dw (place win 8 24 + place j.kind.idNum 3 18 + place die 2 16 + j.seq % 65536)

/-- Whether a job's footprint or data names its task's scratchpad (09 R244, 10 R263). -/
def Job.namesScr (j : Job) : Bool :=
  (match j.kind with
    | .gzero | .greshape => false
    | _ => j.foots.any (·.sp)) ||
  (match j.kind with
    | .cpy | .cpyg | .cpys | .cpyr => (j.card.getD 9 0).getLsbD 63 || (j.card.getD 10 0).getLsbD 63
    | .gdrain => (j.card.getD 10 0).getLsbD 40
    | .gsave | .grest => (j.card.getD 10 0).getLsbD 0
    | _ => false)

def JobState.isHalted : JobState → Bool
  | .halted _ => true
  | _ => false

/-- The jobs in flight that satisfy a test, with the die and window entry of each. -/
def State.jobsWhere (s : State) (p : Job → Bool) : List (Nat × Nat) :=
  allDies.flatMap (fun d => ((s.die d).window.filter (fun e => p e.2)).map (fun e => (d, e.1)))

def State.job? (s : State) (d w : Nat) : Option Job := Tbl.find (s.die d).window w

/-- A job leaves its slab's queue; a holder's idle time counts again from the cycle a full queue has room (09 R220). -/
def Slab.leave (b : Slab) (w now : Nat) : Slab :=
  if b.queue.contains w then
    { b with queue := b.queue.filter (· != w)
             rp := if b.queue.head? = some w then 0 else b.rp
             lease := if 32 ≤ b.queue.length then b.lease.map (fun l => { l with idle := now }) else b.lease }
  else b

/-- Takes a job's number out of the units of its die (10 R250). -/
def Die.forget (D : Die) (w now : Nat) : Die :=
  { D with
    window := Tbl.del D.window w
    cengs := D.cengs.filter (· != w)
    slabs := D.slabs.map (fun (i, b) => (i, b.leave w now)) }

/-- The number that names a job among those of the package: to the Whisk queues and the links. -/
def jobTag (d w : Nat) : Nat := 256 * d + w

/-- Entries of a Whisk queue (14 R358). -/
def whiskQueue : Nat := 64

/-- A job leaves a Whisk's queue and reorder slots; released jobs take the entries that are free, in release order (14 R367,
R368). -/
def Die.unqueue (D : Die) (t : Nat) : Die :=
  let q := D.wq.filter (· != t)
  let rel := D.rel.filter (· != t)
  let n := whiskQueue - q.length
  { D with
    wq := q ++ rel.take n
    rel := rel.drop n
    wrun := if D.wrun = some t then none else D.wrun
    rs := D.rs.filter (· != t) }

/-- Every Whisk unit without a job; a job that has entered a queue holds no slot. -/
def State.unqueue (s : State) (t : Nat) : State :=
  let s := { s with dies := s.dies.map (fun (e : Nat × Die) => (e.1, e.2.unqueue t)) }
  let queued := s.dies.flatMap (fun (e : Nat × Die) => e.2.wq)
  let slots (D : Die) : Die := { D with rs := D.rs.filter (fun x => !queued.contains x) }
  { s with dies := s.dies.map (fun (d, D) => (d, slots D)) }

/-- A job leaves the window, its unit and its handle's order (10 R250). -/
def State.dropJob (s : State) (d w : Nat) : State :=
  let s := (s.updDie d (fun D => D.forget w s.now)).unqueue (jobTag d w)
  { s with handles := s.handles.map (fun (i, h) => (i, { h with ord := h.ord.filter (fun x => x != .job d w) })) }

/-- A job ends without its signal (10 R250, 12 R306, 09 R233). -/
def State.abortJob (s : State) (d w : Nat) : State :=
  match s.job? d w with
  | none => s
  | some j =>
    let s := s.leaveSems (fun x => x == .job d w)
    let s := if j.kind.griddle then
        s.updDie d (fun D => { D with slabs := D.slabs.map (fun (i, b) =>
          if i = j.slab then (i, { b with abort := true, halt := b.halt && !j.st.isHalted }) else (i, b)) })
      else s
    s.dropJob d w

/-! ### Leases (09 R218 to R221) -/

def State.updSlab (s : State) (d b : Nat) (f : Slab → Slab) : State :=
  s.updDie d (fun D => { D with slabs := D.slabs.map (fun (i, x) => if i = b then (i, f x) else (i, x)) })

/-- The reference of a slab (09 R215). -/
def Slab.sref (b : Slab) (d i : Nat) : DWord :=
  dw (place b.gen 8 22 + place b.lw 3 19 + place b.lh 3 16 + place b.x0 4 12 + place b.y0 4 8 + place d 2 6 + i % 64)

/-- Ends every lease a Skillet holds and drops every request it waits with (09 R219). -/
def State.endLeases (s : State) (k : Nat) : State :=
  s.updDie (dieOf k) (fun D => { D with slabs := D.slabs.map (fun (i, b) =>
    (i, { b with lease := b.lease.filter (fun l => l.sk != k), waiters := b.waiters.filter (fun w => w.sk != k) })) })

/-- The leases a Skillet's task takes along when it is saved: those held, and those saved before and not granted again
(09 R221). -/
def State.leasesToSave (s : State) (k : Nat) : List SavedLease :=
  (s.die (dieOf k)).slabs.filterMap (fun (i, b) =>
    match b.lease with
    | some l => if l.sk = k then some ⟨b.sref (dieOf k) i, l.set, l.budget, l.fmts⟩ else none
    | none => none)
  ++ (s.sk k).info.saved

/-! ### Prefetches (05 R134, R135) -/

/-- A prefetch completes: its held entries become bare tokens, its semaphore rises. -/
def State.prefetchDone (s : State) (k id : Nat) : State :=
  match (s.tk k).pfs.find? (fun p => p.id == id) with
  | none => s
  | some p =>
    let fill (l : List FifoEnt) : List FifoEnt := l.map (fun e => if e = .held id then .full 0 else e)
    let s := s.onTk k (fun t => { t.unstall with
      pfs := t.pfs.filter (fun p => p.id != id)
      ca := fill t.ca, cv := fill t.cv, av := fill t.av, va := fill t.va, ac := fill t.ac, vc := fill t.vc })
    match p.sem with
    | some (d, i) => s.semInc d i 0
    | none => s

def State.prefetchesDone (s : State) (k : Nat) : State := (s.tk k).pfs.foldl (fun s p => s.prefetchDone k p.id) s

/-- Before a task's issue state leaves its Skillet: prefetches under way are abandoned and complete (05 R135), and the V-engine word that has
issued retires (12 R296). -/
def State.quiesce (s : State) (k : Nat) : State := (s.prefetchesDone k).onTk k Issue.vretire

/-! ### Tasks and launches -/

/-- A Skillet without a task: engines, scratchpad and handler run gone (13 R340, 12 R309). -/
def Skillet.clear (x : Skillet) : Skillet :=
  { x with busy := false, reserved := false, handler := none, keep := none, scr := [], t := {}, info := {} }

/-- A task is discarded without a record: its place in every queue, its leases, its watch and its turn go with it. -/
def State.discardTask (s : State) (k : Nat) : State :=
  let l := (s.sk k).info.launch
  let s := s.prefetchesDone k
  let s := s.dropCmd k
  let s := s.leaveSems (fun w => match w with
    | .task j _ _ => j == k
    | .job _ _ => false)
  let s := (s.endLeases k).updDie (dieOf k) (fun D => { D with watches := D.watches.filter (· != k) })
  let s := s.updLaunch l (fun x => { x with turns := x.turns.filter (· != k) })
  s.updSk k Skillet.clear

/-- The Skillets of the package. -/
def allSks : List Nat := List.range 128

/-- The Skillets on which tasks of a launch run or are about to start. -/
def State.runsOf (s : State) (l : Nat) : List Nat :=
  allSks.filter (fun k => ((s.sk k).busy || (s.sk k).reserved) && (s.sk k).info.launch == l)

/-- A launch-ending report, HANDLER-END or DIE-LOST: dispatch stops, tasks go without records, halted jobs are aborted
(13 R340). The first report stands. -/
def State.endLaunch (s : State) (l : Nat) (w : EndWhy) : State :=
  match s.launch? l with
  | none => s
  | some L =>
    if L.ending.isSome then s
    else
      let close (x : Launch) : Launch :=
        { x with ending := some w, stopped := true, rings := [], swapped := [], batches := [], reissue := []
                 redraw := [], teams := [], turns := [], live := 0 }
      let s := s.updLaunch l close
      let s := (s.runsOf l).foldl (fun s k => s.discardTask k) s
      let s := allSks.foldl (fun s k => if (s.sk k).launch = some l then s.updSk k (fun x => { x with hw := [], claim := none }) else s) s
      let gone := (s.saved.filter (fun e => e.2.info.launch == l)).map (·.1)
      let unlist (D : Die) : Die := { D with resume := D.resume.filter (fun i => !gone.contains i) }
      let s := { s with saved := s.saved.filter (fun e => e.2.info.launch != l)
                        dies := s.dies.map (fun (d, D) => (d, unlist D)) }
      (s.jobsWhere (fun j => j.launch == l && j.st.isHalted)).foldl (fun s (d, w) => s.abortJob d w) s

/-- A launch-ending code reported for the task of a Skillet (12 R294, 13 R340). -/
def State.endTaskLaunch (s : State) (k code : Nat) (info : DWord) : State :=
  s.endLaunch (s.sk k).info.launch ⟨1, code, dieOf k, (s.sk k).info.frame.taskId, info⟩

/-- Unit, bank field and home die of a physical address for a machine-check entry (17 R412, R428). The spec does not say which address bits
select the channel and bank of HBM4E: they are free values (log 20). A host address, numbered from 2^52, is the L2's that wanted it. -/
def mcPlace (pa dflt : Nat) : Nat × Nat × Nat :=
  if 2 ^ 52 ≤ pa then (3, 0, dflt)
  else if pa < 0x8000000000 then
    (0, place (bitsN pa 12 12) 1 15 + place (Config.hbmBank (pa / 64)).toNat 10 5, pa / 0x2000000000)
  else if pa < 0x10000000000 then (1, bitsN pa 13 12, (pa - 0x8000000000) / 0x2000000000)
  else match apertureOf pa with
    | some (d, _, _) => (0, 0, d)
    | none => (0, 0, dflt)

/-- The entry of an access by a unit that halts no task: it meets a decode error or poison (17 R413, R425, R427). -/
def State.noteErr (s : State) (d asid kind pa : Nat) : State :=
  let (u, b, e) := mcPlace pa d
  (s.logMc { die := e, unit := u, bank := b, kind := kind, addr := pa, asid := asid }).1

/-- Applies to a dropped entry, or to one left unacknowledged, what Garnet does: the launch ends with HANDLER-END 0xFFFF,
the Skillet is released, or fenced if its own storage failed (17 R428, R430, R427). -/
def State.releaseHalted (s : State) (k : Nat) (fence : Bool) : State :=
  s.updSk k (fun x => { x with halted := none, fenced := x.fenced || fence, busy := false })

/-- An uncorrectable error met by a Skillet's task: the Skillet halts at once and the entry is logged (17 R427, R428). -/
def State.mcTask (s : State) (k : Nat) (m : McInfo) : State :=
  let i := (s.sk k).info
  let m := { m with asid := s.asidOf k, taskId := i.frame.taskId, halted := true, sk := some k, tid := i.id, launch := i.launch }
  let seq := (s.die m.die).mcSeq
  let (s, written) := s.logMc m
  let s := s.dropCmd k
  let s := s.updDie (dieOf k) (fun D => { D with watches := D.watches.filter (· != k) })
  let s := s.updLaunch i.launch (fun l => { l with turns := l.turns.filter (· != k) })
  let s := s.updSk k (fun x => { x with halted := some seq, t := { x.t with watch := none } })
  if written then s
  else
    let s := s.endLaunch i.launch ⟨2, 0xFFFF, dieOf k, i.frame.taskId, 0⟩
    s.releaseHalted k m.fence

end Sys2Proof.Machine
end

