-- ==== Sys2Proof/Machine/Ops.lean ====
section
/-! DEFINITION. The shared operations of every meaning: taking an exception and returning from one (12 R295 to R308, R313), the
issue of an instruction with its tokens, turn and stamp (01 R22, R23, 15 R391 to R395), stopping, killing, saving and
resuming a task (12 R296, R309, R310, 07 R175). -/

namespace Sys2Proof.Machine

/-- The bit pattern of no team (04 R93). -/
abbrev noTeam : DWord := 0xFFFFFFFFFFFFFFFF

/-! ### Taking an exception -/

/-- The Skillet's task meets an uncorrectable error at a physical address (17 R427). -/
def State.mcheckTask (s : State) (k kind pa : Nat) : State :=
  let (u, b, d) := mcPlace pa (dieOf k)
  s.mcTask k { die := d, unit := u, bank := b, kind := kind, addr := pa }

/-- Engine `e` takes an exception at the instruction where it stands: its program counter stays there and a trap is asked
of the other engines; in handler mode the launch ends with HANDLER-FAULT, which reports the cause word (12 R295, R301). An access that
met an uncorrectable error halts its task instead (17 R427). ILLEGAL-OP reports the address of the first word (02 R44). -/
def State.raise (s : State) (k : Nat) (e : Engine) (r : Report) : State :=
  let r := { r with eng := e.num, addr := if r.code = Code.illegalOp then (s.tk k).eng e |>.pc.setWidth 64 else r.addr }
  match r.mc with
  | some (kind, pa) => s.mcheckTask k kind pa
  | none =>
  if (s.sk k).handler.isSome then s.endTaskLaunch k Code.handlerFault r.cause
  else
    ((s.withdraw k e).onEng k e (fun E => { E with st := .faulted r, stall := none })).onInfo k (fun i =>
      { i with stop := some .trap, yielded := i.yielded || i.stop == some .yield })

/-- Asks the engines of a Skillet to stop, unless they are asked already (12 R296). -/
def State.reqStop (s : State) (k : Nat) (w : StopWhy) : State :=
  s.onInfo k (fun i => { i with stop := some (i.stop.getD w) })

/-- Whether every engine has reached its stop point (12 R296, R297). -/
def Issue.allStopped (t : Issue) : Bool := t.c.st != .run && t.a.st != .run && t.v.st != .run

/-- Whether all three engines stand at the TEND (or ERET) word pair (01 R28, 12 R313). -/
def Issue.allEnded (t : Issue) : Bool := t.c.st == .ended && t.a.st == .ended && t.v.st == .ended

def EngStatus.report : EngStatus → Option Report
  | .faulted r => some r
  | _ => none

/-- The exception the trap record reports: the first in the order C, A, V (12 R297). -/
def Issue.firstFault (t : Issue) : Option Report :=
  match t.c.st.report, t.a.st.report, t.v.st.report with
  | some r, _, _ => some r
  | none, some r, _ => some r
  | none, none, r => r

/-- Address of the trap record of a Skillet (12 R289). -/
def State.trapRec (s : State) (k : Nat) : Nat := (s.ctx (s.asidOf k)).trapBase + recSize * k

/-- A record that could not be written or read back (12 R464). -/
def State.recFail (s : State) (k code : Nat) : RecErr → State
  | .fault va => s.endTaskLaunch k code (dw va)
  | .bad => s.endTaskLaunch k Code.badRecord 0
  | .mcheck kind pa => s.mcheckTask k kind pa

/-- The three pending back-edge tests of an issue state. -/
def Issue.edges (t : Issue) : Option (Nat × Nat) × Option (Nat × Nat) × Option (Nat × Nat) := (t.c.edge, t.a.edge, t.v.edge)

/-- The issue state of a handler at its first instruction (12 R301). -/
def handlerIssue (hvec recAddr : Nat) (cause : DWord) : Issue :=
  let E : Eng := { pc := BitVec.ofNat 56 hvec }
  ({ c := E, a := E, v := E, s := [(1, dw recAddr), (2, cause)].filter (fun e => e.2 != 0)
     ar := [(1, dw recAddr)].filter (fun e => e.2 != 0) } : Issue)

/-- Taking the trap once all engines have stopped: prefetches complete, the trap record is written with SPIN 1, and the
handler starts at HVEC, with no arrival of its own: the task's stands in the record (10 R276, 12 R297, R299 to R301, R464). -/
def State.trapEntry (s : State) (k : Nat) (r : Report) : State :=
  let s := s.quiesce k
  let asid := s.asidOf k
  let base := s.trapRec k
  let kind := if r.code = Code.step then 3 else 0
  match s.putRecord (dieOf k) asid base (recSize / 65536) (s.recImage k ⟨kind, true, r⟩) with
  | .error e => s.recFail k Code.ctxInvalid e
  | .ok s =>
    let s := s.updLaunch (s.sk k).info.launch (fun l => { l with turns := l.turns.filter (· != k) })
    s.updSk k (fun x =>
      { x with
        keep := some x.t.edges
        t := handlerIssue (s.ctx asid).hvec base r.cause
        handler := some { base := base, cause := r.cause, taddr := r.addr, tinfo := r.info
                          job := if r.async ∧ r.code ≠ Code.parkFault then some r.info else none, since := s.now }
        info := { x.info with stop := none, step := none, turn := none, granted := false, arr := none } })

/-! ### The choice of R309 -/

/-- The lowest free record of a context's pool (12 R289, R309). -/
def State.freePool (s : State) (asid : Nat) : Option Nat :=
  let used := (s.saved.filter (fun e => e.2.asid == asid)).map (·.2.pool)
  (List.range (used.length + 1)).find? (fun j => decide (j < (s.ctx asid).nsave) && !used.contains j)

/-- Whether a die's resume list has room (07 R181): every task saved on the die may come to stand on it, but those swapped out with their
team. -/
def State.listRoom (s : State) (d : Nat) : Bool := decide ((s.saved.filter (fun e => e.2.die == d && !e.2.swap)).length < 256)

/-- What is done with a task a pre-emption request targets. -/
inductive Preempt where
  | drain | kill | checkpoint
  deriving DecidableEq, Repr

def State.decide309 (s : State) (k pt : Nat) : Preempt :=
  let x := s.sk k
  let c := s.ctx (s.asidOf k)
  let killable := x.info.frame.idem && x.info.killOk && x.info.teamId == noTeam
  if x.t.remt ≠ 0 ∧ x.t.remt.toNat ≤ c.drainb then .drain
  else if killable ∧ c.killt ≤ pt then .kill
  else if (s.freePool (s.asidOf k)).isSome ∧ s.listRoom (dieOf k) then .checkpoint
  else if killable then .kill
  else .drain

/-- Whether the decision on a task is put off: it is trapping, or in handler mode (12 R309, R317). -/
def State.deferred (s : State) (k : Nat) : Bool :=
  (s.sk k).handler.isSome || (s.sk k).info.stop.isSome || (s.sk k).info.pend != []

/-- A pre-emption chosen and not yet carried out is kept with the task: one that traps first, or stops for another reason, is decided after
its ERET. -/
def State.keepRequest (s : State) (k pt : Nat) : State := s.onInfo k (fun i => { i with preempt := some pt })

/-- The Skillets on which members of the team of a Skillet's task run. -/
def State.teamSks (s : State) (k : Nat) : List Nat :=
  let i := (s.sk k).info
  if i.teamId = noTeam then [k]
  else allSks.filter (fun j => (s.sk j).busy && (s.sk j).info.launch == i.launch && (s.sk j).info.teamId == i.teamId)

/-- Free records of a context's pool, counted up to `n`. -/
def State.poolRoom (s : State) (asid n : Nat) : Bool :=
  decide ((s.saved.filter (fun e => e.2.asid == asid)).length + n ≤ (s.ctx asid).nsave)

/-- The choice of R309 made for a whole team: drain or checkpoint (13 R327). One that has been made holds for a member that was put off. -/
def State.preemptTeam (s : State) (k pt : Nat) : State :=
  let x := s.sk k
  if s.deferred k then s.keepRequest k pt
  else if x.info.drain.isSome then s
  else
    let ks := s.teamSks k
    let follow := ks.any (fun j => (s.sk j).info.stop == some .checkpoint)
    let drain := !follow && (ks.any (fun j => (s.sk j).info.drain.isSome)
      || (x.t.remt != 0 && decide (x.t.remt.toNat ≤ (s.ctx (s.asidOf k)).drainb)) || !s.poolRoom (s.asidOf k) ks.length)
    ks.foldl (fun s j =>
      if drain then s.onInfo j (fun i => { i with drain := some (i.drain.getD s.now) })
      else
        let put := s.deferred j
        let s := s.keepRequest j pt
        if put then s else s.reqStop j .checkpoint) s

/-- Begins the action chosen (12 R309). -/
def State.preempt (s : State) (k pt : Nat) : State :=
  if (s.sk k).info.teamId ≠ noTeam then s.preemptTeam k pt
  else if s.deferred k then s.keepRequest k pt
  else if (s.sk k).info.drain.isSome then s
  else match s.decide309 k pt with
    | .drain => s.onInfo k (fun i => { i with drain := some s.now })
    | .kill => (s.keepRequest k pt).reqStop k .kill
    | .checkpoint => (s.keepRequest k pt).reqStop k .checkpoint

/-! ### Returning from an exception -/

/-- The window entry of a job named by its id, if it is in flight (10 R246). -/
def State.jobOfId (s : State) (id : DWord) : Option (Nat × Nat × Job) :=
  match s.job? (fld id 17 16) (fld id 31 24) with
  | some j => if jobId (fld id 17 16) (fld id 31 24) j = id then some (fld id 17 16, fld id 31 24, j) else none
  | none => none

/-- An ERET aborts the halted job whose fault the handler run delivered and did not decide (12 R306). -/
def State.undecided (s : State) (k : Nat) : State :=
  match (s.sk k).handler with
  | some h =>
    if h.decided then s
    else match h.job.bind s.jobOfId with
      | some (d, w, j) => if j.st.isHalted then s.abortJob d w else s
      | none => s
  | none => s

/-- The pending test of an engine, if the program counter read back still stands where the test was left. -/
def Eng.withEdge (E : Eng) (o : Option (Nat × Nat)) : Eng := { E with edge := o.filter (fun p => E.pc.toNat == p.2) }

/-- The issue state a record holds, with the pending back-edge tests kept beside it (log 9). -/
def recIssueWith (im : Image) (keep : Option (Option (Nat × Nat) × Option (Nat × Nat) × Option (Nat × Nat))) : Issue :=
  let t := recIssue im
  match keep with
  | some (c, a, v) => { t with c := t.c.withEdge c, a := t.a.withEdge a, v := t.v.withEdge v }
  | none => t

/-- The earliest pending asynchronous fault of a task, by job SEQ (12 R305). -/
def TaskInfo.nextFault (i : TaskInfo) : Option (Nat × Report) :=
  i.pend.foldl (fun b p => match b with
    | none => some p
    | some q => if p.1 < q.1 then some p else b) none

/-- The C-engine takes the earliest pending asynchronous fault at the instruction where it stands (12 R305). -/
def State.deliver (s : State) (k : Nat) : State :=
  match (s.sk k).info.nextFault with
  | none => s
  | some p => (s.onInfo k (fun i => { i with pend := i.pend.erase p })).raise k .C p.2

/-- A decision put off is made; a member whose team is being checkpointed stops with it (12 R309, 13 R327, R338). -/
def State.follow (s : State) (k : Nat) : State :=
  match (s.sk k).info.preempt with
  | some pt => (s.onInfo k (fun i => { i with preempt := none })).preempt k pt
  | none =>
    if (s.sk k).info.teamId ≠ noTeam ∧ (s.teamSks k).any (fun j => (s.sk j).info.stop == some .checkpoint) then s.reqStop k .checkpoint
    else s

/-- Before any instruction of a resumed task issues: a pending asynchronous fault, then a STEP trap that is due, then the
suspension a YIELD left, then a pre-emption put off, is taken (12 R305, R308, R309, 07 R183). -/
def State.afterResume (s : State) (k : Nat) : State :=
  let all (t : Issue) : Issue := t.hold (fun _ => true)
  if (s.sk k).info.pend ≠ [] then (s.onTk k all).deliver k
  else if (s.sk k).info.stepDone then
    ((s.onTk k all).onInfo k (fun i => { i with stepDone := false })).raise k .C { code := Code.step }
  else if (s.sk k).info.yielded then s.onInfo k (fun i => { i with stop := some .yield, yielded := false })
  else s.follow k

/-- In step mode the engines that are not stepped issue nothing: they hold where they stand (12 R307). -/
def State.freeze (s : State) (k : Nat) : State :=
  s.updSk k (fun x => match x.info.step with
    | some e => x.onT (fun t => t.hold (· != e))
    | none => x)

/-- What the STEP field of a record names (12 R299). -/
def stepOf : Nat → Option Engine
  | 1 => some .C
  | 2 => some .A
  | 3 => some .V
  | _ => none

/-- ERET with action 0: the task resumes from the record at TREC (12 R305 to R307, R313, R464). Prefetches of the handler are abandoned and
complete (05 R135). Its saved leases are those it has now, not
the record's: one revoked during the handler stands among them, one granted again does not (09 R221). -/
def State.trapReturn (s : State) (k : Nat) : State :=
  match (s.sk k).handler with
  | none => s
  | some h =>
    let s := (s.prefetchesDone k).undecided k
    match s.getRecord (dieOf k) (s.asidOf k) h.base (recCore / 65536) with
    | .error e => s.recFail k Code.badRecord e
    | .ok (im, s) =>
      if recOk im then
        let s := s.updSk k (fun x =>
          { x with t := recIssueWith im x.keep, keep := none, handler := none
                   info := { x.info with arr := recArr im, step := stepOf (fld (imGet im 0) 14 13)
                                         stop := none, turn := none, granted := false } })
        (s.freeze k).afterResume k
      else s.endTaskLaunch k Code.badRecord 0

/-- Engine `e` reaches the TEND or ERET word pair and stops there (01 R28, 12 R313). -/
def State.endEng (s : State) (k : Nat) (e : Engine) : State := s.onEng k e (fun E => { E with st := .ended, stall := some ⟨s.now, true⟩ })

/-- An A-engine or a V-engine reaches the pair. In a single step it waits there on engines that issue nothing, so the step ends at
once (12 R307). -/
def State.reachEnd (s : State) (k : Nat) (e : Engine) : State :=
  if (s.sk k).info.step = some e ∧ (s.sk k).handler.isNone then s.updSk k (fun x => x.stepped e 1) else s.endEng k e

/-! ### Turns (15 R390 to R392) -/

/-- The lowest of some conflicts, by virtual address. -/
def lowestClash : List (Nat × DWord) → Option (Nat × DWord)
  | [] => none
  | x :: r => match lowestClash r with
    | some y => some (if y.1 < x.1 then y else x)
    | none => some x

/-- The conflicting byte of a write set: its lowest virtual address, and who changed it after the snapshot point (15 R392). -/
def State.mergeClash (s : State) (i : TaskInfo) (p : Snap) : Option (Nat × DWord) :=
  lowestClash (p.wset.filterMap (fun (pa, w) =>
    (s.mods.find? (fun m => m.pa == pa && decide (p.at_ < m.at_) && m.tid != i.id)).map (fun m => (w.va, m.info))))

/-- The granules of checked pages a write set covers, with the translation of the lowest byte written in each (08 R207, 15 R390). -/
def State.mergeLocs (s : State) (ag : Agent) (p : Snap) : List Loc :=
  let vas := (p.wset.map (fun e => e.2.va)).mergeSort
  ((vas.map (· / 64)).eraseDups).filterMap (fun g =>
    match s.xlate ag.tlbs ag.asid ((vas.find? (· / 64 == g)).getD (g * 64)) .wr with
    | .ok l => if l.chk then some l else none
    | .error _ => none)

/-- Merges the write set of a Skillet's task, or answers the exception its turn raises with the state it leaves (15 R390,
R392). -/
def State.merge (s : State) (k : Nat) : State × Option Report :=
  let i := (s.sk k).info
  match i.snap with
  | none => (s, none)
  | some p =>
    let fresh (s : State) : State := s.onInfo k (fun i => { i with snap := some (s.snapNow k) })
    match s.mergeClash i p with
    | some (va, info) => (fresh s, some { code := Code.mergeConflict, addr := dw va, info := info })
    | none =>
      let ag := s.agentOf k
      let locs := s.mergeLocs ag p
      match locs.findSome? (fun l => match s.raceCheck ag l true with
        | .error r => some r
        | .ok _ => none) with
      | some r => (s, some r)
      | none =>
        let s := locs.foldl (fun s l => s.raceUpdate ag l (fun r => r.addWriter ag.tag ag.clk true)) s
        let ws := (p.wset.filter (fun e => decide (e.1 < 2 ^ 52))).map (fun e => (e.1, e.2.b))
        let hs := (p.wset.filter (fun e => decide (2 ^ 52 ≤ e.1))).map (fun e => (e.1 - 2 ^ 52, e.2.b))
        let s := s.throughLines (dieOf k) (linesOf ws)
        let s := (s.land ws (.merge i.id i.frame.taskId)).dropClean (dieOf k) (linesOf ws)
        let s := s.hostWrite (dieOf k) hs (.merge i.id i.frame.taskId)
        (s.onInfo k (fun i => { i with snap := some (s.snapNow k) }), none)

/-- Engine `e` stands at a turn of its task: it waits until the turn comes, and the write set merges first. Answers the state to issue in, or the
state in which it does not issue (15 R391). -/
def State.taskTurn (s : State) (k : Nat) (e : Engine) : Except State State :=
  let x := s.sk k
  let head := ((s.launch? x.info.launch).bind (·.turns.head?))
  if head = some k ∧ (x.info.turn = some e ∨ x.info.turn = none) then
    let s := s.onInfo k (fun i => { i with granted := true, turn := some e })
    match s.merge k with
    | (s, some r) => .error ((s.turnOver k false).raise k e r)
    | (s, none) => .ok s
  else .error ((s.onInfo k (fun i => { i with turn := some (i.turn.getD e) })).stallAt k e false)

/-- The turn of an instruction, at D2 and D3 outside handler mode (15 R390, R391). -/
def State.turnGate (s : State) (k : Nat) (e : Engine) : Except State State :=
  if (s.sk k).handler.isSome || decide (s.levelOf k < 2) then .ok s else s.taskTurn k e

/-! ### Issue -/

/-- What becomes of an instruction that engine `e` tried to issue in state `s` (12 R295, 01 R25, 15 R391). In a turn a wait takes no effect, but
when a WAITA or a JOIN first read and a command's passed checks are kept, and so is what `hold` names (10 R276, log 32). -/
def State.settle (s : State) (k : Nat) (e : Engine) : Act → State
  | .ok s' => s'
  | .error (.trap r) => (s.turnOver k true).raise k e r
  | .error (.wait inside) => (s.turnOver k true).stallAt k e inside
  | .error (.park s') =>
    if (s.sk k).info.granted then
      let keep (t : Issue) : Issue := { t with waitFrom := (s'.tk k).waitFrom, cmd := match (s'.tk k).cmd with
        | some (.spin n a) => some (.spin n a)
        | some (.accept d j r) => some (.accept d j r)
        | _ => t.cmd }
      ((({ s with links := s'.links } : State).turnOver k true).onTk k keep).stallAt k e false
    else s'.stallAt k e false
  | .error (.hold s') => (s'.turnOver k true).stallAt k e false
  | .error (.mc kind pa) => s.mcheckTask k kind pa
  | .error (.fatal code info) => s.endTaskLaunch k code info

/-- Issues an instruction of engine `e` on Skillet `k`: it waits for its tokens and places (01 R22, R24), for its turn where
it is one, then acts and retires (01 R23), unless it has ended its own task (17 R429). DESIGN CHOICE (log 58): the word's own checks, check 2 of
05 R109 among them, are made once its tokens are ready; R109 names the queue conditions of R26 only. -/
def State.issue (s : State) (k : Nat) (e : Engine) (len : Nat) (tok : BitVec 4) (recv send : Option Fifo) (turn : Bool)
    (body : State → Act) : State :=
  if (s.tk k).tokReady e tok recv send then
    match (if turn then s.turnGate k e else .ok s) with
    | .error s' => s'
    | .ok s1 => s1.settle k e ((body s1).map (fun s2 => if (s2.sk k).busy then s2.retire k e len tok else s2))
  else s.stallAt k e true

/-- The stamp of a long-form command at D3: it waits for its frame, or raises STAMP-OVERRUN (15 R395). -/
def State.stampGate (s : State) (k : Nat) (stamp : BitVec 16) : Act :=
  if (s.sk k).handler.isSome || s.levelOf k != 3 then .ok s
  else
    let f := (s.sk k).info.stampL.toNat + stamp.toNat
    if (s.sfcOf k).toNat < f then .error (.wait false)
    else if f < (s.sfcOf k).toNat then .error (trapC Code.stampOverrun)
    else .ok (s.onInfo k (fun i => { i with stampL := dw f }))

/-! ### Stopping a task for good or for a while -/

/-- Whether a job of the task in flight names its scratchpad (09 R244). -/
def State.scrBusy (s : State) (k : Nat) : Bool :=
  let i := (s.sk k).info
  allDies.any (fun d => (s.die d).window.any (fun e => e.2.tid == i.id && e.2.launch == i.launch && e.2.namesScr))

/-- Whether a task is a walker task: launch-started and of no team (13 R326, R327). -/
def TaskInfo.walker (i : TaskInfo) : Bool := fld i.frame.taskId 31 0 == 0 && i.teamId == noTeam

/-- Returns the frame of a killed task: a walker's iteration to its die's reissue list, any other to the top of the deque
of the Skillet it ran on (07 R175, 13 R326). DESIGN CHOICE (log 59): the bound of 4,096 entries is stated for SPAWN and SPAWNL; what is
pushed back here may be the 4,097th. -/
def State.requeue (s : State) (k : Nat) (i : TaskInfo) : Act :=
  if i.walker then
    .ok (s.updLaunch i.launch (fun l =>
      { l with reissue := Tbl.put l.reissue (dieOf k) (Tbl.look [] l.reissue (dieOf k) ++ [fld i.frame.taskId 63 32]) }))
  else s.push ⟨i.launch, k⟩ { i.frame with state := .ready, count := 1, claimer := 0, owner := k, stolen := false }

/-- What an action of the task unit for a launch comes to: a fault ends the launch, a machine check is logged, what has been written through
stays so, a wait changes nothing. -/
def State.unitEnd (s : State) (l d : Nat) (tid : DWord) : Act → State
  | .ok s' => s'
  | .error (.fatal code info) => s.endLaunch l ⟨1, code, d, tid, info⟩
  | .error (.mc kind pa) =>
    let (u, b, e) := mcPlace pa d
    (s.logMc { die := e, unit := u, bank := b, kind := kind, addr := pa, asid := s.asidL l, taskId := tid, launch := l }).1
  | .error (.park s') => s'
  | .error (.hold s') => s'
  | .error _ => s

/-- What an action of the task unit for the running task of a Skillet comes to: as `unitEnd`, but an exception is taken at the C-engine where it
stands (07 R182, 15 R399). -/
def State.taskEnd (s : State) (k : Nat) : Act → State
  | .error (.trap r) => s.raise k .C r
  | a => s.unitEnd (s.sk k).info.launch (dieOf k) (s.sk k).info.frame.taskId a

/-- Kills the task of a Skillet whose engines have stopped (12 R309, 07 R175, R176). -/
def State.killTask (s : State) (k : Nat) : State :=
  let i := (s.sk k).info
  let s := s.discardTask k
  s.unitEnd i.launch (dieOf k) i.frame.taskId (s.requeue k i)

/-- The write set of a task that moves between its Skillet and a record is spilled to the region of its new place (15 R390). -/
def State.respill (s : State) (k slot : Nat) : Except Stop State :=
  match (s.sk k).info.snap with
  | some p => s.spillSet k slot 0 p.wset
  | none => .ok s

/-- A spill that failed ends the launch, or halts the task on an uncorrectable error. -/
def State.spillFail (s : State) (k : Nat) : Stop → State
  | .fatal code info => s.endTaskLaunch k code info
  | .mc kind pa => s.mcheckTask k kind pa
  | _ => s

/-- Saves the task of a Skillet whose engines have stopped into pool record `j`, with KIND 1 or 2; the Skillet is free
then. `queued`: the task joins its die's resume list (12 R298, R310, R464, 09 R221, 05 R135, 10 R276). -/
def State.saveTask (s : State) (k j kind : Nat) (queued : Bool) : State :=
  let s := s.quiesce k
  let ls := s.leasesToSave k
  let s := (s.endLeases k).onInfo k (fun i => { i with saved := ls, turn := none, granted := false })
  let s := s.updLaunch (s.sk k).info.launch (fun l => { l with turns := l.turns.filter (· != k) })
  let asid := s.asidOf k
  let base := (s.ctx asid).saveBase + recSize * j
  match s.respill k (128 + j) with
  | .error e => s.spillFail k e
  | .ok s =>
  match s.putRecord (dieOf k) asid base (recSize / 65536) (s.recImage k ⟨kind, false, { eng := 3 }⟩) with
  | .error e => s.recFail k Code.ctxInvalid e
  | .ok s =>
    let x := s.sk k
    let i := { x.info with stop := none, drain := none, preempt := none }
    let v : Saved := ⟨i, k, base, j, dieOf k, asid, x.claim, some x.t.edges, false, !queued && kind == 1⟩
    let s := { s with saved := Tbl.put s.saved i.id v }
    let s := s.updSk k (fun x => { x.clear with claim := none })
    if queued then s.updDie (dieOf k) (fun D => { D with resume := D.resume ++ [i.id] }) else s

/-- The slab an SREF names, if a task of the launch on a die may name it (09 R216). -/
def State.slabOf (s : State) (d launch : Nat) (sref : DWord) : Option (Nat × Slab) :=
  if sref.getLsbD 63 || fld sref 7 6 != d then none
  else match Tbl.find (s.die d).slabs (fld sref 5 0) with
    | some b => if b.launch = launch ∧ b.gen = fld sref 29 22 ∧ !b.closing then some (fld sref 5 0, b) else none
    | none => none

/-- A resumed task's Skillet joins the round-robin of every slab its saved leases name (09 R221). -/
def State.rejoin (s : State) (k : Nat) : State :=
  (s.sk k).info.saved.foldl (fun s l =>
    match s.slabOf (dieOf k) (s.sk k).info.launch l.sref with
    | some (b, _) => s.updSlab (dieOf k) b (fun x => { x with waiters := x.waiters ++ [⟨k, l.set, l.budget, l.fmts, true, s.now⟩] })
    | none => s) s

/-- A saved task resumes on a free Skillet of its die: the record is read back and its pool record freed (12 R310, R464). A saved lease that GFREE
discarded meanwhile does not come back (09 R242). -/
def State.loadTask (s : State) (k : Nat) (v : Saved) : State :=
  let s := { s with saved := Tbl.del s.saved v.info.id }
  let s := s.updSk k (fun x => { x with busy := true, info := v.info, claim := v.taken })
  match s.getRecord v.die v.asid v.base (recSize / 65536) with
  | .error e => s.recFail k Code.badRecord e
  | .ok (im, s) =>
    if recOk im then
      let s := s.updSk k (fun x =>
        { x with t := recIssueWith im v.keep, scr := recScr im
                 info := { x.info with arr := recArr im, saved := (recLeases im).filter (fun l => v.info.saved.any (·.sref == l.sref)) } })
      match s.respill k k with
      | .error e => s.spillFail k e
      | .ok s => ((s.rejoin k).freeze k).afterResume k
    else s.endTaskLaunch k Code.badRecord 0

end Sys2Proof.Machine
end

