-- ==== Sys2Proof/Machine/Operands.lean ====
section
/-! DEFINITION. Operand forms of the engines' words: what a word reads, where its result goes, how it issues (01 R22, R29,
R31, 04 R81, R97 to R104). -/

namespace Sys2Proof.Machine

open Sys2Proof

/-- What an instruction or an event answers. -/
abbrev Out := Host.Outcome State Fault Refusal

/-! ### C-engine words -/

/-- A one-word C-engine instruction on the current Skillet: it waits for its tokens, acts and retires. -/
def cWord (tok : BitVec 4) (recv send : Option Fifo) (body : Nat → State → Act) (s : State) : Out :=
  .next (s.issue s.cur .C 4 tok recv send false (body s.cur))

/-- A one-word C-engine instruction that writes register `d` (04 R81): sources are read at issue. -/
def cWrite (tok : BitVec 4) (d : BitVec 6) (val : Issue → DWord) (s : State) : Out :=
  cWord tok none none (fun k s => .ok (s.onTk k (fun t => t.setS d (val t)))) s

/-- A C.R instruction: the result from sa and sb. -/
def cBinary (f : CR) (op : DWord → DWord → DWord) (s : State) : Out :=
  cWrite f.tok f.d (fun t => op (t.getS f.a) (t.getS f.b)) s

/-- A C.R instruction that also reads sd. -/
def cTernary (f : CR) (op : DWord → DWord → DWord → DWord) (s : State) : Out :=
  cWrite f.tok f.d (fun t => op (t.getS f.d) (t.getS f.a) (t.getS f.b)) s

/-- A C.I instruction: sa and the sign-extended immediate. -/
def cImm (f : CI) (op : DWord → DWord → DWord) (s : State) : Out :=
  cWrite f.tok f.d (fun t => op (t.getS f.a) (f.imm.signExtend 64)) s

/-- ILLEGAL-OP at the C-engine unless `ok`: it is checked when the word reaches issue, before its tokens (02 R44). -/
def legalC (ok : Bool) (run : State → Out) (s : State) : Out :=
  if ok then run s else .next (s.raise s.cur .C { code := Code.illegalOp })

/-- A long-form C-engine command: `turn` says that it is a turn at D2 and D3 (15 R391); without `inHandler` it is of the classes
that handler mode refuses (12 R301). -/
def cLong (f : LW) (inHandler turn : Bool) (body : Nat → State → Act) (s : State) : Out :=
  legalC (inHandler || (s.sk s.cur).handler.isNone) (fun s => .next (s.issue s.cur .C 8 f.tok none none turn (body s.cur))) s

/-- The six-bit shift amount (04 R83). -/
def shiftAmt (b : DWord) : Nat := fld b 5 0

/-- Signed value of a doubleword. -/
def sgn (x : DWord) : Int := x.toInt

/-! ### S words (01 R17 to R19, 04 R97 to R104) -/

/-- Where an S word sends an engine: to the next word, or elsewhere. -/
inductive Flow where
  | seq
  | go (dest : Nat)
  deriving DecidableEq, Repr

/-- What an S word does to one engine once its outcome is known: from the engine, its word's address and the outcome, the
issue state after and the flow. -/
abbrev SAct := Issue → Engine → Nat → Bool → DWord → Except Stop (Issue × Flow)

/-- An S word of `len` bytes on engine `e`. With `out`, the C-engine evaluates the outcome and pushes it, and the other
engines pop it; without, each engine computes alone (01 R17 to R19). What would be an exception of the C-engine stops the
other engines (04 R106). -/
def State.issueS (s : State) (k : Nat) (e : Engine) (len : Nat) (out : Option (Issue → Except Stop (Bool × DWord))) (act : SAct) :
    State :=
  let t := s.tk k
  let pc := (t.eng e).pc.toNat
  let finish (r : Except Stop (Issue × Flow)) : State :=
    match r with
    | .error st => s.settle k e (.error (if e = .C then st else .wait true))
    | .ok (t', fl) =>
      s.updSk k (fun x =>
        let x := x.onT (fun _ => t'.point e)
        (match fl with
          | .seq => x.advance e len
          | .go dest => x.jump e dest).stepped e 0 |>.unstall)
  match e, out with
  | .C, _ =>
    if !t.slipOk then s.stallAt k e true
    else match (out.map (fun f => f t)).getD (.ok (true, 0)) with
      | .error st => finish (.error st)
      | .ok (tk, v) =>
        finish ((act t e pc tk v).map (fun (t', fl) =>
          (if out.isSome then { t' with oqa := t'.oqa ++ [⟨pc, tk, v⟩], oqv := t'.oqv ++ [⟨pc, tk, v⟩] } else t', fl)))
  | _, none => finish (act t e pc true 0)
  | _, some _ =>
    let q := if e = .A then t.oqa else t.oqv
    match q with
    | [] => s.stallAt k e true
    | o :: rest =>
      if o.addr ≠ pc then s.settle k e (.error (trapC Code.sharedControlMismatch))
      else finish (act (if e = .A then { t with oqa := rest } else { t with oqv := rest }) e pc o.taken o.val)

def sWord (len : Nat) (out : Option (Issue → Except Stop (Bool × DWord))) (act : SAct) (s : State) : Out :=
  .next (s.issueS s.cur s.curEng len out act)

/-- The target of an offset in words (01 R33). -/
def wordTarget (pc : Nat) (off : Int) : Nat := (BitVec.ofInt 56 ((pc : Int) + 4 * off)).toNat

/-- A taken branch or JMP: loops left behind are popped (04 R104). -/
def branchTo (t : Issue) (e : Engine) (dest : Nat) : Issue :=
  t.setEng e { t.eng e with loops := leaveLoops dest (t.eng e).loops }

/-- A conditional branch (04 R97). -/
def sBranch (f : SB) (cond : DWord → DWord → Bool) (s : State) : Out :=
  sWord 4 (some (fun t => .ok (cond (t.getS f.a) (t.getS f.b), 0)))
    (fun t e pc taken _ =>
      if taken then let dest := wordTarget pc f.off.toInt; .ok (branchTo t e dest, .go dest) else .ok (t, .seq)) s

/-- A jump to a target the word gives; a call writes the link registers (04 R98). -/
def sJump (len : Nat) (link : Bool) (dest : Nat → Nat) (s : State) : Out :=
  sWord len none (fun t e pc _ _ =>
    if link then .ok (t.link e (dw ((pc + len) % 2 ^ 56)), .go (dest pc)) else .ok (branchTo t e (dest pc), .go (dest pc))) s

/-- A jump through a register (04 R99, R100). -/
def sRegJump (reg : BitVec 6) (link : Bool) (s : State) : Out :=
  sWord 4 (some (fun t =>
      let dest := t.getS reg
      if fld dest 1 0 ≠ 0 ∨ fld dest 63 56 ≠ 0 then .error (trapA Code.badTarget dest) else .ok (true, dest)))
    (fun t e pc _ v => .ok (if link then t.link e (dw ((pc + 4) % 2 ^ 56)) else t, .go v.toNat)) s

/-- A loop word with trip count `n` (04 R102, R105). The skip of a loop that runs no time makes no back-edge test, for an enclosing loop
that ends at the same word either (log 57). -/
def loopAct (fin : BitVec 12) (t : Issue) (e : Engine) (pc : Nat) (n : DWord) : Except Stop (Issue × Flow) :=
  let last := pc + 4 * fin.toNat
  if n = 0 then .ok (t, .go ((last + 4) % 2 ^ 56))
  else if 4 ≤ (t.eng e).loops.length then .error (trapC Code.loopDepth)
  else .ok (t.setEng e { t.eng e with loops := ⟨(pc + 4) % 2 ^ 56, last % 2 ^ 56, n⟩ :: (t.eng e).loops }, .seq)

/-! ### Tokens that carry values (01 R24, 04 R95) -/

/-- The value a RECV takes: behind the entry the token field pops from the same FIFO (01 R24). -/
def Issue.recvVal (t : Issue) (e : Engine) (tok : BitVec 4) (i : Fifo) : DWord :=
  let n := b2n (tok.getLsbD 2 && i == fifoIn e false) + b2n (tok.getLsbD 3 && i == fifoIn e true)
  (((t.fifo i).drop n).head?.bind FifoEnt.val?).getD 0

end Sys2Proof.Machine
end

