-- ==== Sys2Proof/Machine/AccessScalar.lean ====
section
/-! DEFINITION. A-engine words but for the vector and ordering ones: address arithmetic, scalar loads and stores, scalar
scratchpad accesses, CHKP of a register, SEND.A and RECV.A (05 R107 to R125). -/

namespace Sys2Proof.Machine

open Sys2Proof

/-! ### Forms -/

def aWord (tok : BitVec 4) (recv send : Option Fifo) (body : Nat → State → Act) (s : State) : Out :=
  .next (s.issue s.cur .A 4 tok recv send false (body s.cur))

/-- An A.L word; `turn` for synchronisation accesses (15 R391). -/
def aLong (tok : BitVec 4) (turn : Bool) (body : Nat → State → Act) (s : State) : Out :=
  .next (s.issue s.cur .A 8 tok none none turn (body s.cur))

/-- Address arithmetic: value, and poison of the first poisoned source in the order AA, AB (05 R110, R122). -/
def aArith (tok : BitVec 4) (d : BitVec 5) (srcs : List (BitVec 5)) (val : Issue → DWord) (s : State) : Out :=
  aWord tok none none (fun k s => .ok (s.onTk k (fun t =>
    match srcs.find? (fun r => t.getAP r) with
    | some r => t.setA d (t.getA r) true
    | none => t.setA d (val t) false))) s

/-- POISON-USE naming a register (05 R123); of several poisoned ones the first in the list: the base, the index, then the data of an
access, AA, AB, AC of an A.L word (log 22). -/
def poisonReg (t : Issue) (rs : List (BitVec 5)) : Except Stop Unit :=
  match rs.find? (fun r => t.getAP r) with
  | some r => .error (trapI Code.poisonUse (r.setWidth 64))
  | none => .ok ()

/-! ### Address arithmetic (05 R110) -/

def execAdda (f : AR) (s : State) : Out := aArith f.tok f.d [f.a, f.b] (fun t => t.getA f.a + t.getA f.b) s
def execSuba (f : AR) (s : State) : Out := aArith f.tok f.d [f.a, f.b] (fun t => t.getA f.a - t.getA f.b) s
def execMova (f : AR) (s : State) : Out := aArith f.tok f.d [f.a] (fun t => t.getA f.a) s
def execAddai (f : AI) (s : State) : Out := aArith f.tok f.d [f.a] (fun t => t.getA f.a + f.imm.signExtend 64) s
def execShla (f : AI) (s : State) : Out := aArith f.tok f.d [f.a] (fun t => t.getA f.a <<< (f.imm.toNat % 64)) s
def execMulai (f : AI) (s : State) : Out := aArith f.tok f.d [f.a] (fun t => t.getA f.a * f.imm.signExtend 64) s
def execLia (f : AU) (s : State) : Out := aArith f.tok f.d [] (fun _ => f.imm.signExtend 64) s

/-! ### Scalar loads and stores (05 R111, R121, R122) -/

/-- Bytes and signedness of a load's width code (02 R47). -/
def loadWidth (w : Nat) : Nat × Bool :=
  match w with
  | 0 => (1, true) | 1 => (1, false) | 2 => (2, true) | 3 => (2, false) | 4 => (4, true) | 5 => (4, false) | _ => (8, false)

/-- A loaded value extended to 64 bits. -/
def extLoad (n : Nat) (sg : Bool) (x : Nat) : DWord := if sg then wrapD (signExt x (8 * n)) else dw x

/-- A scalar load: `spec` defers every fault of checks 3 to 7 into the destination's poison. -/
def scalarLoad (rt : BitVec 5) (regs : List (BitVec 5)) (ea : Issue → DWord) (w : Nat) (spec : Bool) (k : Nat) (s : State) : Act :=
  let t := s.tk k
  let (n, sg) := loadWidth w
  let poison : Act := .ok (s.onTk k (fun t => t.setA rt (ea t) true))
  match poisonReg t regs with
  | .error e => if spec then poison else .error e
  | .ok _ =>
    match s.plainCheck k (ea t) n false with
    | .error r => if spec && r.mc.isNone then poison else .error (.trap r)
    | .ok l => do
      let (x, s) ← s.load k l n
      .ok (s.onTk k (fun t => t.setA rt (extLoad n sg x) false))

/-- A scalar store of the low bytes of `rt`. -/
def scalarStore (rt : BitVec 5) (regs : List (BitVec 5)) (ea : Issue → DWord) (n : Nat) (k : Nat) (s : State) : Act := do
  let t := s.tk k
  poisonReg t (regs ++ [rt])
  let l ← liftR (s.plainCheck k (ea t) n true)
  s.store k l n ((t.getA rt).toNat % 2 ^ (8 * n))

/-- EA of the A.M and A.X scalar forms (05 R107). -/
def eaM (f : AM) (n : Nat) (t : Issue) : DWord := t.getA f.rb + f.off.signExtend 64 * dw n
def eaX (f : AX) (t : Issue) : DWord := t.getA f.rb + t.getA f.ri

def loadM (f : AM) (w : Nat) (spec : Bool) (s : State) : Out :=
  aWord f.tok none none (scalarLoad f.rt [f.rb] (eaM f (loadWidth w).1) w spec) s
def storeM (f : AM) (n : Nat) (s : State) : Out := aWord f.tok none none (scalarStore f.rt [f.rb] (eaM f n) n) s

def execLdI8 (f : AM) (s : State) : Out := loadM f 0 false s
def execLdN8 (f : AM) (s : State) : Out := loadM f 1 false s
def execLdI16 (f : AM) (s : State) : Out := loadM f 2 false s
def execLdN16 (f : AM) (s : State) : Out := loadM f 3 false s
def execLdI32 (f : AM) (s : State) : Out := loadM f 4 false s
def execLdN32 (f : AM) (s : State) : Out := loadM f 5 false s
def execLd64 (f : AM) (s : State) : Out := loadM f 6 false s
def execLdI8S (f : AM) (s : State) : Out := loadM f 0 true s
def execLdN8S (f : AM) (s : State) : Out := loadM f 1 true s
def execLdI16S (f : AM) (s : State) : Out := loadM f 2 true s
def execLdN16S (f : AM) (s : State) : Out := loadM f 3 true s
def execLdI32S (f : AM) (s : State) : Out := loadM f 4 true s
def execLdN32S (f : AM) (s : State) : Out := loadM f 5 true s
def execLd64S (f : AM) (s : State) : Out := loadM f 6 true s
def execLdIndexed (f : AX) (s : State) : Out :=
  aWord f.tok none none (scalarLoad f.rt [f.rb, f.ri] (eaX f) f.w.toNat false) s
def execLdIndexedS (f : AX) (s : State) : Out :=
  aWord f.tok none none (scalarLoad f.rt [f.rb, f.ri] (eaX f) f.w.toNat true) s
def execSt8 (f : AM) (s : State) : Out := storeM f 1 s
def execSt16 (f : AM) (s : State) : Out := storeM f 2 s
def execSt32 (f : AM) (s : State) : Out := storeM f 4 s
def execSt64 (f : AM) (s : State) : Out := storeM f 8 s
def execStIndexed (f : AX) (s : State) : Out :=
  aWord f.tok none none (scalarStore f.rt [f.rb, f.ri] (eaX f) (2 ^ (f.w.toNat % 4))) s

/-! ### The scratchpad (05 R119, R120) -/

/-- Bytes of a scratchpad. -/
def scrSize : Nat := 2 * 1024 * 1024

def rdScr (t : Tbl Byte) (o n : Nat) : Nat := ofLe ((List.range n).map (fun i => Tbl.look 0 t (o + i)))
def wrScr (t : Tbl Byte) (o n x : Nat) : Tbl Byte := (cellsAt o (leBytes n x)).foldl (fun t c => Tbl.set 0 t c.1 c.2) t

/-- SCRATCH-BOUND, then MISALIGNED, of an access at an offset that is not wrapped. -/
def scrCheck (o : Int) (n : Nat) (write : Bool) : Except Report Nat :=
  if o < 0 ∨ (scrSize : Int) < o + n then .error { code := Code.scratchBound, addr := wrapD o, write := write }
  else if o.toNat % n ≠ 0 then .error { code := Code.misaligned, addr := wrapD o, write := write }
  else .ok o.toNat

/-- The offset of an A.L scratchpad access. -/
def scrOff (f : AL) (t : Issue) : Int := ((t.getA f.a).toNat : Int) + f.imm.toInt

def execSpld (f : AL) (s : State) : Out :=
  aLong f.tok false (fun k s => do
    poisonReg (s.tk k) [f.a]
    let o ← liftR (scrCheck (scrOff f (s.tk k)) 8 false)
    .ok (s.onTk k (fun t => t.setA f.d (dw (rdScr (s.sk k).scr o 8)) false))) s

def execSpst (f : AL) (s : State) : Out :=
  aLong f.tok false (fun k s => do
    poisonReg (s.tk k) [f.a, f.b]
    let o ← liftR (scrCheck (scrOff f (s.tk k)) 8 true)
    .ok (s.updSk k (fun x => { x with scr := wrScr x.scr o 8 (x.t.getA f.b).toNat }))) s

/-! ### CHKP (05 R124, 12 R304) -/

def execChkp (f : AL) (s : State) : Out :=
  aLong f.tok false (fun k s =>
    if (s.tk k).getAP f.a then
      .error (.trap { code := Code.deferredFault, addr := (s.tk k).getA f.a, info := f.a.setWidth 64 })
    else .ok s) s

/-! ### SEND.A and RECV.A (05 R125) -/

def aSend (f : AR) (q : Fifo) (s : State) : Out :=
  aWord f.tok none (some q) (fun k s => do
    poisonReg (s.tk k) [f.a]
    .ok (s.onTk k (fun t => t.pushFifo q (.full (t.getA f.a))))) s

def aRecv (f : AR) (q : Fifo) (s : State) : Out :=
  aWord f.tok (some q) none (fun k s => .ok (s.onTk k (fun t => (t.setA f.d (t.recvVal .A f.tok q) false).popFifo q))) s

def execSendAAc (f : AR) (s : State) : Out := aSend f .ac s
def execSendAAv (f : AR) (s : State) : Out := aSend f .av s
def execRecvACa (f : AR) (s : State) : Out := aRecv f .ca s
def execRecvAVa (f : AR) (s : State) : Out := aRecv f .va s

end Sys2Proof.Machine
end

