-- ==== Sys2Proof/Machine/AccessVector.lean ====
section
/-! DEFINITION. Vector loads and stores between memory or the scratchpad and the load and store queues (01 R26, 05 R109,
R113 to R124). -/

namespace Sys2Proof.Machine

open Sys2Proof

/-- Element size and count from a30, or ACCESS-SHAPE or POISON-USE (05 R113). -/
def vecShape (t : Issue) (indexed : Bool) : Except Stop (Nat × Nat) :=
  let z := fld (t.getA 30) 15 14
  let n := fld (t.getA 30) 13 0
  if t.getAP 30 then .error (trapI Code.poisonUse 30)
  else if z = 3 ∨ 8192 < n * 2 ^ z ∨ (indexed ∧ 2048 < n) then .error (trapC Code.accessShape)
  else .ok (2 ^ z, n)

def loadQueue (r : Nat) : Queue := if r = 0 then .lq0 else .lq1
def storeQueue (r : Nat) : Queue := if r = 0 then .sq0 else .sq1

/-- The number a report names a queue head by: 0x20 plus its QS code (05 R123, R124, 12 R304). -/
def queueName (q : Queue) : DWord :=
  match q with
  | .lq0 => 0x21 | .lq1 => 0x22 | .sq0 => 0x23 | .sq1 => 0x24

/-- The lanes of 32 bits an element occupies: one, since elements are at most 4 bytes and aligned. -/
def elemLane (size i : Nat) : Nat := size * i / 4

/-- Element `i` of `size` bytes of a queue entry. -/
def elemOf (x : VWord) (size i : Nat) : Nat := (x.extractLsb' (8 * size * i) (8 * size)).toNat

/-- An access of one element: its index and address. -/
abbrev Elem := Nat × DWord

/-- What the checks of one element find. -/
abbrev ElemCheck (α : Type) := Elem → Except Report α

/-- The place of a check's report in the order of 05 R109: POISON-USE, then the address, its alignment, its translation, and
MEMORY-MODEL. -/
def checkRank (code : Nat) : Nat :=
  if code = Code.poisonUse then 0
  else if code = Code.addressRange ∨ code = Code.scratchBound then 1
  else if code = Code.misaligned then 2
  else if code = Code.memoryModel then 4
  else 3

/-- All checks of all active elements, before anything is read or written: the first failing check in the order of 05 R109, at
the lowest element that fails it, is reported (05 R109, R136, log 52). -/
def checkAll {α : Type} (chk : ElemCheck α) : List Elem → Except Stop (List (Nat × α))
  | [] => .ok []
  | e :: r =>
    match chk e, checkAll chk r with
    | .ok l, rest => rest.map (fun ls => (e.1, l) :: ls)
    | .error rep, .error (.trap q) =>
      .error (.trap (if checkRank q.code < checkRank rep.code then q else { rep with elem := e.1 }))
    | .error rep, _ => .error (.trap { rep with elem := e.1 })

/-- The speculative form: elements that pass, and those that fail (05 R121). -/
def checkSpec {α : Type} (chk : ElemCheck α) (es : List Elem) : List (Nat × α) × List Elem :=
  es.foldr (fun e (ok, bad) =>
    match chk e with
    | .ok l => ((e.1, l) :: ok, bad)
    | .error _ => (ok, e :: bad)) ([], [])

/-- A mask of the lanes elements occupy. -/
def laneMask (size : Nat) (is : List Nat) : LaneMask :=
  BitVec.ofNat 2048 (is.foldl (fun a i => a ||| 1 <<< elemLane size i) 0)

/-- Reads elements in order, gathering the entry's bytes. -/
def gather {α : Type} (rd : State → α → Except Stop (Nat × State)) (size : Nat) :
    List (Nat × α) → State → Nat → Except Stop (Nat × State)
  | [], s, acc => .ok (acc, s)
  | (i, l) :: r, s, acc => do
    let (x, s) ← rd s l
    gather rd size r s (acc ||| x <<< (8 * size * i))

/-- Writes elements in ascending order, so that the highest index prevails (05 R118). -/
def scatter {α : Type} (wr : State → α → Nat → Act) (size : Nat) (data : VWord) : List (Nat × α) → State → Act
  | [], s => .ok s
  | (i, l) :: r, s => do
    let s ← wr s l (elemOf data size i)
    scatter wr size data r s

/-! ### Elements -/

/-- Contiguous and strided elements. -/
def stridedElems (ea stride : DWord) (n : Nat) : List Elem := (List.range n).map (fun i => (i, ea + dw i * stride))

/-- Indexed elements that are active: those whose offset lane is enabled (05 R117). -/
def indexedElems (base : DWord) (offs : QEnt) (n : Nat) : List Elem :=
  (List.range n).filterMap (fun i =>
    if offs.en.getLsbD i then some (i, base + (offs.data.extractLsb' (32 * i) 32).signExtend 64) else none)

/-- Checks of a plain element. -/
def State.elemCheck (s : State) (k size : Nat) (write : Bool) : ElemCheck Loc := fun e => s.plainCheck k e.2 size write

/-- An element whose lane in a queue entry is enabled and poisoned is a POISON-USE at the element's address (05 R109, R123). Where one
element's data lane and offset lane are both poisoned, the lane checked first is named, the data lane (log 22). -/
def poisonLane {α : Type} (q : Queue) (x : QEnt) (lane : Nat → Nat) (chk : ElemCheck α) : ElemCheck α := fun e =>
  if x.en.getLsbD (lane e.1) && x.poison.getLsbD (lane e.1) then
    .error { code := Code.poisonUse, addr := e.2, info := queueName q }
  else chk e

/-- The uncorrectable error that the check of some element meets: it is not deferred (05 R121, 17 R427). -/
def checkMc {α : Type} (chk : ElemCheck α) (es : List Elem) : Option Stop :=
  es.findSome? (fun e => match chk e with
    | .error r => r.mc.map (fun m => .mc m.1 m.2)
    | .ok _ => none)

/-! ### Loads -/

/-- Allocates the load-queue entry of a load that has passed its checks, once there is room (05 R109, R114, R121). -/
def finishLoad {α : Type} (k : Nat) (q : Queue) (size : Nat) (oks : List (Nat × α)) (bads : List Elem) (padr : DWord)
    (rd : State → α → Except Stop (Nat × State)) (s : State) : Act :=
  if (s.tk k).qFull q then .error (.wait true)
  else do
    let (x, s) ← gather rd size oks s 0
    let ent : QEnt := { data := BitVec.ofNat 65536 x, en := laneMask size (oks.map (·.1) ++ bads.map (·.1))
                        poison := laneMask size (bads.map (·.1)), paddr := padr, arrived := oks.isEmpty }
    .ok (s.onTk k (fun t => t.pushQueue q ent))

/-- A vector load from memory. -/
def vecLoad (q : Queue) (regs : List (BitVec 5)) (size : Nat) (es : List Elem) (spec : Bool)
    (wrap : ElemCheck Loc → ElemCheck Loc) (k : Nat) (s : State) : Act :=
  let t := s.tk k
  let chk := wrap (s.elemCheck k size false)
  let rd := fun (s : State) (l : Loc) => s.load k l size
  match regs.find? (fun r => t.getAP r) with
  | some r =>
    if spec then finishLoad (α := Loc) k q size [] es (t.getA r) rd s else .error (trapI Code.poisonUse (r.setWidth 64))
  | none =>
    if spec then
      match checkMc chk es with
      | some e => .error e
      | none =>
        let (oks, bads) := checkSpec chk es
        finishLoad k q size oks bads ((bads.head?.map (·.2)).getD 0) rd s
    else do
      let oks ← checkAll chk es
      finishLoad k q size oks [] 0 rd s

/-- VLD and VLD.S (05 R115). -/
def vldForm (f : AM) (spec : Bool) (s : State) : Out :=
  aWord f.tok none none (fun k s => do
    let t := s.tk k
    let (size, n) ← vecShape t false
    let ea := t.getA f.rb + f.off.signExtend 64 * 64
    vecLoad (loadQueue f.rt.toNat) [f.rb] size (stridedElems ea (dw size) n) spec id k s) s

/-- VLDS (05 R116). -/
def vldsForm (f : AX) (spec : Bool) (s : State) : Out :=
  aWord f.tok none none (fun k s => do
    let t := s.tk k
    let (size, n) ← vecShape t false
    vecLoad (loadQueue f.rt.toNat) [f.rb, f.ri] size (stridedElems (t.getA f.rb) (t.getA f.ri) n) spec id k s) s

/-- VLDX (05 R117). -/
def vldxForm (f : AX) (spec : Bool) (s : State) : Out :=
  aWord f.tok none none (fun k s => do
    let t := s.tk k
    let (size, n) ← vecShape t true
    let oq := storeQueue f.ri.toNat
    match (t.queue oq).head? with
    | none => .error (.wait true)
    | some offs => do
      let s ← vecLoad (loadQueue f.rt.toNat) [f.rb] size (indexedElems (t.getA f.rb) offs n) spec (poisonLane oq offs id) k s
      .ok (s.onTk k (fun t => t.popQueue oq))) s

def execVld (f : AM) (s : State) : Out := vldForm f false s
def execVldS (f : AM) (s : State) : Out := vldForm f true s
def execVlds (f : AX) (s : State) : Out := vldsForm f false s
def execVldsS (f : AX) (s : State) : Out := vldsForm f true s
def execVldx (f : AX) (s : State) : Out := vldxForm f false s
def execVldxS (f : AX) (s : State) : Out := vldxForm f true s

/-! ### Stores -/

/-- The elements of a store whose data lane is enabled (05 R114). -/
def enabledElems (x : QEnt) (size : Nat) (es : List Elem) : List Elem := es.filter (fun e => x.en.getLsbD (elemLane size e.1))

/-- A vector store to memory from the head of `q`, which it pops. A poisoned base or stride register is reported before a poisoned data
lane (log 22). -/
def vecStore (q : Queue) (regs : List (BitVec 5)) (size : Nat) (es : Issue → QEnt → List Elem)
    (wrap : ElemCheck Loc → ElemCheck Loc) (k : Nat) (s : State) : Act := do
  let t := s.tk k
  match (t.queue q).head? with
  | none => .error (.wait true)
  | some x =>
    poisonReg t regs
    let chk := poisonLane q x (elemLane size) (wrap (s.elemCheck k size true))
    let oks ← checkAll chk (enabledElems x size (es t x))
    let s ← scatter (fun s l v => s.store k l size v) size x.data oks s
    .ok (s.onTk k (fun t => t.popQueue q))

def execVst (f : AM) (s : State) : Out :=
  aWord f.tok none none (fun k s => do
    let (size, n) ← vecShape (s.tk k) false
    vecStore (storeQueue f.rt.toNat) [f.rb] size
      (fun t _ => stridedElems (t.getA f.rb + f.off.signExtend 64 * 64) (dw size) n) id k s) s

def execVsts (f : AX) (s : State) : Out :=
  aWord f.tok none none (fun k s => do
    let (size, n) ← vecShape (s.tk k) false
    vecStore (storeQueue f.rt.toNat) [f.rb, f.ri] size (fun t _ => stridedElems (t.getA f.rb) (t.getA f.ri) n) id k s) s

/-- VSTX: data from one store queue, offsets from the other; both heads are popped (05 R117). -/
def execVstx (f : AX) (s : State) : Out :=
  aWord f.tok none none (fun k s => do
    let (size, n) ← vecShape (s.tk k) true
    let oq := storeQueue f.ri.toNat
    match ((s.tk k).queue oq).head? with
    | none => .error (.wait true)
    | some offs => do
      let s ← vecStore (storeQueue f.rt.toNat) [f.rb] size (fun t _ => indexedElems (t.getA f.rb) offs n) (poisonLane oq offs id) k s
      .ok (s.onTk k (fun t => t.popQueue oq))) s

/-! ### The scratchpad (05 R120) -/

/-- Contiguous scratchpad elements at an offset that is not wrapped. -/
def scrElemCheck (o : Int) (size : Nat) (write : Bool) : ElemCheck Nat := fun e => scrCheck (o + size * e.1) size write

/-- QS of a vector scratchpad access (01 R32). -/
def qsQueue (qs : BitVec 3) : Queue :=
  match qs.toNat with
  | 1 => .lq0 | 2 => .lq1 | 3 => .sq0 | _ => .sq1

def execSpldVector (f : AL) (s : State) : Out :=
  aLong f.tok false (fun k s => do
    let t := s.tk k
    let (size, n) ← vecShape t false
    poisonReg t [f.a]
    let oks ← checkAll (scrElemCheck (scrOff f t) size false) (stridedElems 0 0 n)
    finishLoad k (qsQueue f.qs) size oks [] 0 (fun s o => .ok (rdScr (s.sk k).scr o size, s)) s) s

def execSpstVector (f : AL) (s : State) : Out :=
  aLong f.tok false (fun k s => do
    let t := s.tk k
    let q := qsQueue f.qs
    let (size, n) ← vecShape t false
    match (t.queue q).head? with
    | none => .error (.wait true)
    | some x => do
      poisonReg t [f.a]
      let chk := poisonLane q x (elemLane size) (scrElemCheck (scrOff f t) size true)
      let oks ← checkAll chk (enabledElems x size (stridedElems (wrapD (scrOff f t)) (dw size) n))
      let s ← scatter (fun s o v => .ok (s.updSk k (fun x => { x with scr := wrScr x.scr o size v }))) size x.data oks s
      .ok (s.onTk k (fun t => t.popQueue q))) s

/-! ### CHKP of a queue head (05 R124) -/

/-- The lowest set bit of a mask. -/
def lowestLane (m : LaneMask) : Option Nat := (List.range 2048).find? (fun i => m.getLsbD i)

def execChkpQueue (f : AL) (s : State) : Out :=
  aLong f.tok false (fun k s =>
    let q := qsQueue f.qs
    match ((s.tk k).queue q).head? with
    | none => .error (.wait true)
    | some x =>
      if !x.arrived then .error (.wait false)
      else match lowestLane (x.en &&& x.poison) with
        | some i => .error (.trap { code := Code.deferredFault, addr := x.paddr, info := queueName q, elem := i })
        | none => .ok s) s

end Sys2Proof.Machine
end

