-- ==== Sys2Proof/Machine/RecLog.lean ====
section
/-! DEFINITION. The record log of a queue: logging a decision, draining the buffer, matching in replay (15 R396 to R399). -/

namespace Sys2Proof.Machine

/-- A decision as its entry would hold it: the entry's doublewords, and the bits a replay compares (15 R396, R399). -/
structure Decision where
  dw0 : DWord
  dw1 : DWord
  cmp0 : DWord
  cmp1 : DWord
  deriving DecidableEq, Repr

def logEntry0 (ty payload : Nat) : DWord := dw (place ty 4 60 + payload % 2 ^ 60)

def decSteal (thief victim taken : Nat) (tid : DWord) : Decision :=
  { dw0 := logEntry0 1 (place thief 7 46 + place victim 7 39 + place taken 32 0), dw1 := tid
    cmp0 := 0xFFFFFF8000000000, cmp1 := 0xFFFFFFFFFFFFFFFF }
def decAtomic (ea : Nat) (tid : DWord) : Decision :=
  { dw0 := logEntry0 2 (ea % 2 ^ 56), dw1 := tid
    cmp0 := 0xFFFFFFFFFFFFFFFF, cmp1 := 0xFFFFFFFFFFFFFFFF }
def decElect (group slot phase : Nat) (team : DWord) : Decision :=
  { dw0 := logEntry0 3 (place group 8 37 + place slot 5 32 + place phase 32 0), dw1 := team
    cmp0 := 0xFFFFFFFFFFFFFFFF, cmp1 := 0 }
def decIngest (len port stream : Nat) (stamp : DWord) : Decision :=
  { dw0 := logEntry0 4 (place len 16 32 + place port 1 8 + place stream 8 0), dw1 := stamp
    cmp0 := 0xFFFFFFFFFFFFFFFF, cmp1 := 0 }
def decSpawn (sk seq : Nat) (root : Nat) : Decision :=
  { dw0 := logEntry0 5 (place sk 7 46 + place seq 32 0), dw1 := dw (root % 2 ^ 32)
    cmp0 := 0xFFFFFFFFFFFFFFFF, cmp1 := 0 }

/-- TYPE of an entry (15 R396). -/
def entryType (x : DWord) : Nat := fld x 63 60

def State.updLog (s : State) (d q : Nat) (f : LogSt → LogSt) : State :=
  s.updDie d (fun D => { D with logs := Tbl.upd {} D.logs q f })
def State.logOf (s : State) (d q : Nat) : LogSt := Tbl.look {} (s.die d).logs q

def LogSt.closed (g : LogSt) (h : Nat) : Bool := if h = 0 then g.cl0 else g.cl1
def LogSt.setClosed (g : LogSt) (h : Nat) (b : Bool) : LogSt := if h = 0 then { g with cl0 := b } else { g with cl1 := b }

/-- Entries of a half. -/
def Level.cap (v : Level) : Nat := 2 ^ v.log2h / 16

/-- Address of entry `i` of half `h` on die `d` (15 R396). -/
def Level.entryAddr (v : Level) (d h i : Nat) : Nat := v.logBase + (2 * d + h) * 2 ^ v.log2h + 16 * i

/-- A half is left for the other: it closes, and the other, if open, becomes current (15 R396, R399). -/
def LogSt.leave (g : LogSt) : LogSt :=
  let g := g.setClosed g.cur true
  if g.closed (1 - g.cur) then g else { g with cur := 1 - g.cur, ncur := 0 }

/-- Writes buffered entries to the current half while one is open; entries that memory refuses stay buffered (15 R396,
R398). -/
def State.drainLog : Nat → State → Nat → Nat → Level → State
  | 0, s, _, _, _ => s
  | fuel + 1, s, d, q, v =>
    let g := s.logOf d q
    let g := if g.closed g.cur && !g.closed (1 - g.cur) then { g with cur := 1 - g.cur, ncur := 0 } else g
    match g.buf with
    | [] => s.updLog d q (fun _ => g)
    | (a, b) :: rest =>
      if g.closed g.cur then s.updLog d q (fun _ => g)
      else
        match s.unitWr d v.asid (v.entryAddr d g.cur g.ncur) (leBytes 8 a.toNat ++ leBytes 8 b.toNat) with
        | .error _ => s
        | .ok s =>
          let g := { g with buf := rest, ncur := g.ncur + 1 }
          let g := if g.ncur = v.cap then g.leave else g
          State.drainLog fuel (s.updLog d q (fun _ => g)) d q v

/-- Reads the head entry a die's replay stands at; none while its half is closed. END entries and the end of a half move it
to the other half (15 R399). -/
def State.replayHead : Nat → State → Nat → Nat → Level → Option (DWord × DWord) × State
  | 0, s, _, _, _ => (none, s)
  | fuel + 1, s, d, q, v =>
    let g := s.logOf d q
    let g := if g.closed g.cur && !g.closed (1 - g.cur) then { g with cur := 1 - g.cur, ncur := 0 } else g
    if g.closed g.cur then (none, s.updLog d q (fun _ => g))
    else
      match s.unitRd d v.asid (v.entryAddr d g.cur g.ncur) 16 with
      | .error _ => (none, s)
      | .ok (bs, s) =>
        let a := dw (ofLe (bs.take 8))
        let b := dw (ofLe (bs.drop 8))
        if entryType a = 0xF then State.replayHead fuel (s.updLog d q (fun _ => g.leave)) d q v
        else (some (a, b), s.updLog d q (fun _ => g))

/-- The next entry of a replay has been matched; an END entry behind it is consumed at once, and its half closes (15 R399). -/
def State.replayNext (s : State) (d q : Nat) (v : Level) : State :=
  let s := s.updLog d q (fun g =>
    let g := { g with ncur := g.ncur + 1 }
    if g.ncur = v.cap then g.leave else g)
  (s.replayHead 3 d q v).2

/-- Whether two doublewords agree under a mask. -/
def agree (mask a b : DWord) : Bool := (a &&& mask) == (b &&& mask)

/-- The level entry of a launch's queue, where its log is on (15 R386, R387). -/
def State.logLevel (s : State) (qid : Nat) : Option Level :=
  (Tbl.find s.levels qid).filter (fun v => v.mode == 1 || v.mode == 2)

/-- Whether an entry names the task of a Skillet as the agent of its decision: an atomic or an election by it, or a draw of its root on its
Skillet (15 R396, R399). -/
def TaskInfo.namedBy (i : TaskInfo) (k : Nat) (a b : DWord) : Bool :=
  match entryType a with
  | 2 => b == i.frame.taskId
  | 3 => i.teamId != noTeam && b == i.teamId && fld a 36 32 == i.teamSlot
  | 5 => fld a 52 46 == k && fld b 31 0 == fld i.frame.taskId 63 32
  | _ => false

/-- A die makes a decision of a logged kind, which the tasks of the Skillets `ks` have reached: recorded, or matched in replay, or it waits; where the
head names one of those tasks with another decision, that raises REPLAY-DIVERGENCE (15 R398, R399). A head that is no entry ends the log (log
21). -/
def State.decideLog (s : State) (d qid : Nat) (x : Decision) (ks : List Nat) : Act :=
  match s.logLevel qid with
  | none => .ok s
  | some v =>
    if v.mode = 1 then
      if 1024 ≤ (s.logOf d qid).buf.length then .error (.wait false)
      else .ok ((s.updLog d qid (fun g => { g with buf := g.buf ++ [(x.dw0, x.dw1)] })).drainLog 1025 d qid v)
    else if (s.logOf d qid).done then .ok s
    else match s.replayHead 3 d qid v with
    | (none, _) => .error (.wait false)
    | (some (a, b), s) =>
      if entryType a = 0 ∨ 5 < entryType a then .ok (s.updLog d qid (fun g => { g with done := true }))
      else if agree x.cmp0 a x.dw0 && agree x.cmp1 b x.dw1 then .ok (s.replayNext d qid v)
      else if ks.any (fun k => (s.sk k).info.namedBy k a b) then .error (trapC Code.replayDivergence)
      else .error (.wait false)

/-- The decision of a task on a Skillet, for the kinds logged at D0 and D1 only. -/
def State.decideLow (s : State) (k d : Nat) (x : Decision) : Act :=
  match s.launch? (s.sk k).info.launch with
  | some l => if l.level < 2 then s.decideLog d l.qid x [k] else .ok s
  | none => .ok s

/-- Whether both halves of a die are closed in a mode that logs, so that no task of the queue starts there (15 R398); a replay whose entries
are all matched goes on unlogged. -/
def State.logShut (s : State) (d qid : Nat) : Bool :=
  match s.logLevel qid with
  | some v => (s.logOf d qid).cl0 && (s.logOf d qid).cl1 && !(v.mode == 2 && (s.logOf d qid).done)
  | none => false

end Sys2Proof.Machine
end

