-- ==== Sys2Proof/Machine/Atomics.lean ====
section
/-! DEFINITION. Acquire loads, release stores, fences, atomics, WAITA and PFB (05 R126 to R136, 08 R187 to R189, R197, R205,
R206, 15 R397). -/

namespace Sys2Proof.Machine

open Sys2Proof

/-- EA of an A.L access (05 R107). -/
def eaL (f : AL) (t : Issue) : DWord := t.getA f.a + f.imm.signExtend 64

/-- Bytes of an A.L access. -/
def widthL (f : AL) : Nat := if f.w64 then 8 else 4

/-! ### LDA, STL, FENCE (05 R126, R127) -/

/-- The value of an acquire load: at package and system scope, and on checked pages, from the home (08 R188, R203). -/
def State.acquireRead (s : State) (k scope : Nat) (l : Loc) (n : Nat) : Except Stop (Nat × State) :=
  if 2 ≤ scope ∨ l.chk then s.homeRead k l n
  else match s.ldPlain (dieOf k) (s.asidOf k) l.host l.homeOnly l.pa n with
    | .error e => .error e.stop
    | .ok (bs, s') => .ok (ofLe bs, s')

/-- The write of a release store (08 R187, R188). -/
def State.releaseWrite (s : State) (k scope : Nat) (l : Loc) (n x : Nat) : Act :=
  if 2 ≤ scope ∨ l.chk then s.homeWrite k l n x
  else liftP (s.stPlain (dieOf k) (s.asidOf k) l.host l.homeOnly l.pa (cellsAt l.pa (leBytes n x)) (.engine k))

/-- A write that must be performed at system scope before what follows it, that of an STL with ORD = 1 or of an atomic with ORD = 0 (05 R127):
a host copy of its line goes first. -/
def State.snoopFirst (s : State) (scope : Nat) (l : Loc) : Act :=
  if scope = 3 ∧ !l.host ∧ s.hostCopies.contains (l.pa / 64) then
    .error (.hold { s with hostCopies := s.hostCopies.filter (· != l.pa / 64), backInv := s.backInv ++ [l.pa / 64] })
  else .ok s

/-- With ORD = 1 the earlier stores and atomics are performed at the scope first (05 R127). -/
def execLda (f : AL) (s : State) : Out :=
  aLong f.tok true (fun k s => do
    let t := s.tk k
    poisonReg t [f.a]
    let l ← liftR (s.syncCheck k (eaL f t) (widthL f) .rd false)
    let s ← if f.ord then s.releaseAt k f.scope.toNat else .ok s
    let (x, s) ← s.acquireRead k f.scope.toNat l (widthL f)
    let s := (s.syncRec k l true false false).acquireAt k f.scope.toNat
    .ok (s.onTk k (fun t => t.setA f.d (dw x) false))) s

def execStl (f : AL) (s : State) : Out :=
  aLong f.tok true (fun k s => do
    let t := s.tk k
    poisonReg t [f.a, f.b]
    let l ← liftR (s.syncCheck k (eaL f t) (widthL f) .wr false)
    let s ← s.releaseAt k f.scope.toNat
    let s ← if f.ord then s.snoopFirst f.scope.toNat l else .ok s
    let s ← s.releaseWrite k f.scope.toNat l (widthL f) ((t.getA f.b).toNat % 2 ^ (8 * widthL f))
    .ok (s.syncRec k l false true true)) s

def execFence (f : AL) (s : State) : Out :=
  aLong f.tok false (fun k s => do
    let s ← s.releaseAt k f.scope.toNat
    .ok (s.acquireAt k f.scope.toNat)) s

/-! ### Atomics (05 R128 to R130) -/

/-- The new value of an atomic from the word read, its operand and its replacement; none where nothing is written. -/
abbrev AtomicOp := Nat → Nat → Nat → Nat → Option Nat

/-- An atomic: one indivisible action at the home, released before and acquired after with ORD = 0, its order logged at the
home die (05 R129, 15 R397). `sx` sign-extends a 32-bit old value. -/
def atomic (f : AL) (sx : Bool) (op : AtomicOp) (s : State) : Out :=
  aLong f.tok true (fun k s => do
    let t := s.tk k
    let n := widthL f
    let w := 8 * n
    let scope := f.scope.toNat
    poisonReg t [f.a, f.b, f.c]
    let l ← liftR (s.syncCheck k (eaL f t) n .rw true)
    let s ← if f.ord then .ok s else s.releaseAt k scope
    let s ← if f.ord then .ok s else s.snoopFirst scope l
    let s ← if l.host then .ok s
            else s.decideLow k ((homeOf l.pa).getD (dieOf k)) (decAtomic l.va (s.sk k).info.frame.taskId)
    let (old, s) ← s.homeRead k l n
    let new := op w old ((t.getA f.b).toNat % 2 ^ w) ((t.getA f.c).toNat % 2 ^ w)
    let s ← match new with
      | some x => s.homeWrite k l n x
      | none => .ok s
    let s := s.syncRec k l (!f.ord) (!f.ord) new.isSome
    let s := if f.ord then s else s.acquireAt k scope
    .ok (s.onTk k (fun t => t.setA f.d (if sx then extLoad n true old else dw old) false))) s

def execAadd (f : AL) (s : State) : Out := atomic f false (fun w o b _ => some ((o + b) % 2 ^ w)) s
def execAand (f : AL) (s : State) : Out := atomic f false (fun _ o b _ => some (o &&& b)) s
def execAor (f : AL) (s : State) : Out := atomic f false (fun _ o b _ => some (o ||| b)) s
def execAxor (f : AL) (s : State) : Out := atomic f false (fun _ o b _ => some (o ^^^ b)) s
def execAswap (f : AL) (s : State) : Out := atomic f false (fun _ _ b _ => some b) s
def execAcas (f : AL) (s : State) : Out := atomic f false (fun _ o b c => if o = b then some c else none) s
def execAmin (f : AL) (s : State) : Out := atomic f true (fun w o b _ => some (if signExt o w < signExt b w then o else b)) s
def execAmax (f : AL) (s : State) : Out := atomic f true (fun w o b _ => some (if signExt o w < signExt b w then b else o)) s
def execAminn (f : AL) (s : State) : Out := atomic f false (fun _ o b _ => some (min o b)) s
def execAmaxn (f : AL) (s : State) : Out := atomic f false (fun _ o b _ => some (max o b)) s

/-! ### WAITA (05 R131 to R133) -/

/-- The granule name a watch is armed on: lines of host memory are told apart. -/
def watchGranule (l : Loc) : Nat := l.pa / 64 + (if l.host then 2 ^ 52 else 0)

/-- The final read of a WAITA, at the home as the read that arms it and translated afresh: an acquire with ORD = 0 (05 R131, R132). -/
def State.waitaRead (s : State) (k : Nat) (d : BitVec 5) (va : DWord) (scope : Nat) (acq : Bool) : Act := do
  let l ← liftR (s.syncCheck k va 8 .rd true)
  let (x, s) ← s.homeRead k l 8
  let s := s.syncRec k l acq false false
  let s := if acq then s.acquireAt k scope else s
  .ok ((s.unwatch k).onTk k (fun t => { t.setA d (dw x) false with waitFrom := none }))

/-- Arms a watch; with 1,024 armed on the die the oldest is displaced and returns (05 R132). -/
def State.arm (s : State) (k : Nat) (w : Watch) : State :=
  let ws := (s.die (dieOf k)).watches
  let displace (t : Issue) : Issue := { t with watch := t.watch.map (fun (v : Watch) => { v with woken := true }) }
  let s := match ws with
    | o :: rest =>
      if 1024 ≤ ws.length then (s.onTk o displace).updDie (dieOf k) (fun D => { D with watches := rest })
      else s
    | [] => s
  (s.onTk k (fun t => { t with watch := some w })).updDie (dieOf k) (fun D => { D with watches := D.watches ++ [k] })

/-- Whether no watcher of the die that armed earlier on the same granule is woken and has not returned (05 R133). -/
def State.watchTurn (s : State) (k : Nat) (w : Watch) : Bool :=
  ((s.die (dieOf k)).watches.takeWhile (· != k)).all (fun j => match (s.tk j).watch with
    | some v => !(v.woken && v.granule == w.granule)
    | none => true)

/-- Whether the time of a WAITA is over. -/
def Watch.late (w : Watch) (now : Nat) : Bool := w.limit != 0 && decide (w.since + w.limit.toNat ≤ now)

/-- Whether a parked WAITA is to return: a woken one in its turn, any other when its time is over (05 R131, R133). -/
def State.watchDue (s : State) (k : Nat) (w : Watch) : Bool := if w.woken then s.watchTurn k w else w.late s.now

/-- At D2 and D3, where a WAITA that is not satisfied arms nothing and waits for the task's next turn (15 R391), its time counts from its first
read (log 58). -/
def execWaita (f : AL) (s : State) : Out :=
  aLong f.tok true (fun k s => do
    let t := s.tk k
    let scope := f.scope.toNat
    match t.watch with
    | some w => if s.watchDue k w then s.waitaRead k w.d (dw w.va) w.scope.toNat w.acq else .error (.wait false)
    | none =>
      poisonReg t [f.a, f.b, f.c]
      let l ← liftR (s.syncCheck k (eaL f t) 8 .rd true)
      let (x, s1) ← s.homeRead k l 8
      let since := t.waitFrom.getD s.now
      let late : Bool := (s.sk k).info.granted && t.getA f.c != 0 && decide (since + (t.getA f.c).toNat ≤ s.now)
      if dw x ≠ t.getA f.b ∨ late then
        let s1 := s1.syncRec k l (!f.ord) false false
        let s1 := if f.ord then s1 else s1.acquireAt k scope
        .ok (s1.onTk k (fun t => { t.setA f.d (dw x) false with waitFrom := none }))
      else
        .error (.park ((s1.onTk k (fun t => { t with waitFrom := some since })).arm k
          { granule := watchGranule l, va := (eaL f t).toNat, d := f.d, tok := f.tok, scope := f.scope, acq := !f.ord
            since := s.now, limit := t.getA f.c, lg := levelShift l.level }))) s

/-! ### PFB (05 R134, R135) -/

/-- Whether a launch may name a semaphore: in its grant, on a live die of it (13 R322). -/
def State.semGranted (s : State) (l die i : Nat) : Bool :=
  match s.launch? l with
  | some L =>
    let q := L.pkt.getD 4 0
    L.dies.contains die && !L.lost.contains die && (s.die die).alive
      && decide (fld q 7 0 ≤ i) && decide (i < fld q 7 0 + fld q 16 8)
  | none => false

/-- The semaphore a PFB signals, if any. -/
def State.pfbSem (s : State) (k : Nat) (f : AL) (t : Issue) : Option (Nat × Nat) :=
  if f.c = 0 ∨ t.getAP f.c then none
  else
    let x := t.getA f.c
    let d := if x.getLsbD 10 then fld x 9 8 else dieOf k
    if s.semGranted (s.sk k).info.launch d (fld x 7 0) then some (d, fld x 7 0) else none

/-- A number no prefetch of the task has. -/
def freshPf (l : List Prefetch) : Nat := l.foldl (fun a p => max a (p.id + 1)) 0

/-- PFB retires when the prefetch is accepted; its pushes are places held until it completes (05 R134). -/
def execPfb (f : AL) (s : State) : Out :=
  let k := s.cur
  if (s.tk k).tokReady .A f.tok none none then
    let t := s.tk k
    let id := freshPf t.pfs
    let now := t.getAP f.a || t.getAP f.b || t.getA f.b == 0
    let s := s.onTk k (fun t => { (t.tokPop .A f.tok).tokPush .A f.tok (.held id) with pfs := t.pfs ++ [⟨id, s.pfbSem k f t⟩] })
    let s := s.retire k .A 8 0
    .next (if now then s.prefetchDone k id else s)
  else .next (s.stallAt k .A true)

end Sys2Proof.Machine
end

