-- ==== Sys2Proof/Machine/VecOps.lean ====
section
/-! DEFINITION. The operand machinery of the V-engine: sources, active elements, destinations, poison, rounding and draws
(01 R26, R27, 06 R137 to R144). -/

namespace Sys2Proof.Machine

open Sys2Proof

/-! ### Sources -/

/-- A source operand: a vector register or queue head (with the queue choice of QSEL), or a k register used for every
element (06 R141). -/
inductive VOpnd where
  | v (r : BitVec 6) (q : Bool)
  | k (r : BitVec 6)
  deriving DecidableEq, Repr

/-- What a source holds when it is read at issue. -/
structure VSrc where
  data : Nat := 0
  poison : Nat := 0
  scalar : Bool := false
  deriving DecidableEq, Repr

/-- The load queue a source field names, and whether it pops it (01 R27, R32): lq0, lq1, lq0.peek, lq1.peek. -/
def srcQueue (r : BitVec 6) : Queue × Bool := (if r.getLsbD 0 then .lq1 else .lq0, !r.getLsbD 1)

/-- Reads a source; an empty queue, or a head whose data has not all arrived, makes the engine wait (01 R26). -/
def Issue.vsrc (t : Issue) : VOpnd → Except Stop VSrc
  | .v r false => .ok { data := (t.getV r.toNat).toNat, poison := (t.getVP r.toNat).toNat }
  | .v r true =>
    match (t.queue (srcQueue r).1).head? with
    | none => .error (.wait true)
    | some x => if x.arrived then .ok { data := x.data.toNat, poison := x.poison.toNat } else .error (.wait false)
  | .k r => .ok { data := (t.getK r.toNat).toNat, poison := b2n (t.getKP r.toNat), scalar := true }

def Issue.vsrcs (t : Issue) : List VOpnd → Except Stop (List VSrc)
  | [] => .ok []
  | o :: r => do
    let x ← t.vsrc o
    let xs ← t.vsrcs r
    .ok (x :: xs)

/-- Whether an operand pops queue `q`. -/
def VOpnd.pops (q : Queue) : VOpnd → Bool
  | .v r true => srcQueue r == (q, true)
  | _ => false

/-- Each load queue that some operand pops is popped once (01 R27). -/
def Issue.popSrcs (t : Issue) (os : List VOpnd) : Issue :=
  let t := if os.any (VOpnd.pops .lq0) then t.popQueue .lq0 else t
  if os.any (VOpnd.pops .lq1) then t.popQueue .lq1 else t

/-- First lane of element `i` of width `w`, and how many lanes it touches (06 R138). -/
def laneAt (w i : Nat) : Nat := w * i / 32
def laneSpan (w i : Nat) : Nat := (w * i + w - 1) / 32 + 1 - laneAt w i

/-- Element `i` of width `w`. -/
def VSrc.el (x : VSrc) (w i : Nat) : Nat := (if x.scalar then x.data else x.data >>> (w * i)) % 2 ^ w

/-- Whether a lane that element `i` touches is poisoned. -/
def VSrc.bad (x : VSrc) (w i : Nat) : Bool :=
  if x.scalar then x.poison != 0 else (x.poison >>> laneAt w i) % 2 ^ laneSpan w i != 0

/-- The source of a field that has none. -/
def srcAt (xs : List VSrc) (j : Nat) : VSrc := xs.getD j {}

/-! ### Fields -/

/-- Whether QSEL lets VD, VA, VB or VC name a queue (01 R32). -/
def qD (f : VL) : Bool := f.qsel.getLsbD 3
def vA (f : VL) : VOpnd := .v f.a (f.qsel.getLsbD 2)
def vB (f : VL) : VOpnd := .v f.b (f.qsel.getLsbD 1)
def vC (f : VL) : VOpnd := .v f.c (f.qsel.getLsbD 0)
def kB (f : VL) : VOpnd := .k f.b

/-- The V.L twin of a short V.R word (02 R49). -/
def twinR (f : VR) (ty : BitVec 5) : VL := ⟨f.tok, f.d, f.a, f.b, 0, 0, false, 0, 0, ty, false, 0⟩
/-- The V.L twin of a short V.K word (02 R49). -/
def twinK (f : VK) (ty : BitVec 5) : VL := ⟨f.tok, f.d, f.a, f.ks.setWidth 6, 0, 0, false, 0, 0, ty, false, 0⟩

/-- The store queue a destination names. -/
def dstQueue (r : BitVec 6) : Queue := if r.getLsbD 0 then .sq1 else .sq0

/-- E for elements of width `w` (06 R138). -/
def Issue.count (t : Issue) (w : Nat) : Nat := 32 * t.vl / w

/-- Whether element `i` of width `w` is active: MEN = 0, or its lane's mask bit is set (06 R140). -/
def active (t : Issue) (f : VL) (w i : Nat) : Bool := !f.men || (t.getM f.msk.toNat).getLsbD (laneAt w i)

/-! ### Results -/

/-- What an instruction makes: the bits written and which they are, lanes enabled, lanes poisoned, flags, draw state. -/
structure VRes where
  data : Nat := 0
  wr : Nat := 0
  en : Nat := 0
  po : Nat := 0
  fl : FlagSet := 0
  seed : DWord := 0
  deriving DecidableEq, Repr

/-- Element `i` of width `w` written with `x`. -/
def VRes.put (r : VRes) (w i x : Nat) (bad : Bool) (fl : FlagSet) : VRes :=
  let lanes := (2 ^ laneSpan w i - 1) <<< laneAt w i
  { r with data := r.data ||| (x % 2 ^ w) <<< (w * i), wr := r.wr ||| (2 ^ w - 1) <<< (w * i), en := r.en ||| lanes
           po := if bad then r.po ||| lanes else r.po, fl := r.fl ||| fl }

/-- What an element's computation answers: its code, its flags, whether a source was poisoned. -/
abbrev VElem := Nat × FlagSet × Bool

/-- The first `n` elements, masked at width `wm` and written at width `wd`; with `draws`, each active one takes the next
draw, in ascending order (06 R140, R143, 03 R67). -/
def vFold (t : Issue) (f : VL) (n wm wd : Nat) (draws : Bool) (op : Nat → Nat → VElem) : VRes :=
  (List.range n).foldl (fun r i =>
    if active t f wm i then
      let seed := if draws then nextSeed r.seed else r.seed
      let (x, fl, bad) := op (drawOf seed) i
      { (r.put wd i x bad fl) with seed := seed }
    else if f.mz then r.put wd i 0 false 0 else r) { seed := t.drawState }

/-- Lanes of a register whose 32 bits were all written. -/
def VRes.fullLanes (r : VRes) : Nat :=
  (List.range 2048).foldl (fun a j => if (r.wr >>> (32 * j)) % 2 ^ 32 = 2 ^ 32 - 1 then a ||| 1 <<< j else a) 0

/-- Poison of a register after a write: lanes the result poisons, and lanes not wholly rewritten keep theirs. -/
def VRes.poison (r : VRes) (old : LaneMask) : LaneMask :=
  BitVec.ofNat 2048 r.po ||| (if old = 0 then 0 else old &&& ~~~(BitVec.ofNat 2048 r.fullLanes))

/-- Writes a result to vector register `d`. -/
def Issue.vreg (t : Issue) (d : Nat) (r : VRes) : Issue :=
  t.setV d (mergeBits (BitVec.ofNat 65536 r.wr) (t.getV d) (BitVec.ofNat 65536 r.data)) (r.poison (t.getVP d))

/-- Writes a result to VD: a register, or a new entry of a store queue (06 R140, 01 R26). -/
def Issue.vdst (t : Issue) (f : VL) (r : VRes) : Issue :=
  if qD f then
    t.pushQueue (dstQueue f.d)
      { data := BitVec.ofNat 65536 r.data, en := BitVec.ofNat 2048 r.en, poison := BitVec.ofNat 2048 r.po }
  else t.vreg f.d.toNat r

/-- Flags and draw state are left at retirement (03 R71). -/
def Issue.vflags (t : Issue) (r : VRes) : Issue := t.vleave r.fl r.seed

/-- The whole effect of a result. -/
def Issue.vwrite (t : Issue) (f : VL) (r : VRes) : Issue := (t.vdst f r).vflags r

/-! ### Issue -/

/-- A word that pushes a token or a store-queue entry retires before anything pops what it pushed (01 R23): the model has it retire as it
issues. Any other word retires with the V-engine's next decode step. -/
def Issue.vissued (t : Issue) (f : VL) : Issue := if f.tok.getLsbD 0 || f.tok.getLsbD 1 || qD f then t.vretire else t

/-- A V-engine word of `len` bytes: its sources are read, a store-queue place is there, it acts on the issue state, and the
queues it pops are popped once. -/
def vWord (len : Nat) (f : VL) (os : List VOpnd) (body : Issue → List VSrc → Except Stop Issue) (s : State) : Out :=
  .next (s.issue s.cur .V len f.tok none none false (fun s => do
    let t := s.tk s.cur
    let xs ← t.vsrcs os
    if qD f && t.qFull (dstQueue f.d) then .error (.wait true)
    else do
      let t' ← body t xs
      .ok (s.onTk s.cur (fun _ => (t'.popSrcs os).vissued f))))

/-- A POISON-USE that names a register (06 R144, 05 R123). -/
def poisonUse (r : Nat) : Stop := trapI Code.poisonUse (dw r)

/-- The number a vector operand is reported by: its register, or 0x20 plus the QS code of its queue (log 22). -/
def VOpnd.name : VOpnd → DWord
  | .v r false => r.setWidth 64
  | .v r true => if r.getLsbD 0 then 0x22 else 0x21
  | .k r => r.setWidth 64

/-- An elementwise instruction of width `w`: `op` computes an element from its sources. -/
def vElem (len w : Nat) (f : VL) (os : List VOpnd) (draws : Issue → Bool)
    (op : Issue → List VSrc → Nat → Nat → VElem) (s : State) : Out :=
  vWord len f os (fun t xs => .ok (t.vwrite f (vFold t f (t.count w) w w (draws t) (op t xs)))) s

/-- Whether any source of element `i` is poisoned. -/
def anyBad (xs : List VSrc) (w i : Nat) : Bool := xs.any (fun x => x.bad w i)

/-- The rounding mode in force: RM, or FPCTL.RM when RM is 0b000 (01 R32, 03 R70). -/
def Issue.rmode (t : Issue) (f : VL) : RMode := if f.rm = 0 then rmodeOf (fcRM t.fpctl).toNat else rmodeOf f.rm.toNat

/-- A k register used as a count, an index or a length: its value, or POISON-USE (06 R144). -/
def Issue.kCount (t : Issue) (r : BitVec 6) : Except Stop Nat :=
  if t.getKP r.toNat then .error (poisonUse r.toNat) else .ok (t.getK r.toNat).toNat

end Sys2Proof.Machine
end

