-- ==== Sys2Proof/Machine/VecArith.lean ====
section
/-! DEFINITION. Vector arithmetic (06 R146, R147). -/

namespace Sys2Proof.Machine

open Sys2Proof

/-- The arithmetic operations. -/
inductive VOp where
  | add | sub | mul | fma | fms | fnma | div | sqrt | rcp | rsq | min | max | abs | neg | cpys
  deriving DecidableEq, Repr

/-- Whether the operation rounds on floating types, and so draws in SR (06 R143, R146). -/
def VOp.rounds : VOp → Bool
  | .min => false | .max => false | .abs => false | .neg => false | .cpys => false
  | _ => true

/-- One over the square root: value, sticky, flags. -/
def FVal.rsq (a : FVal) : FVal × Bool × FlagSet :=
  match a with
  | .nan x => (.nan false, false, flIf x flNV)
  | .inf n => if n then (.nan false, false, flNV) else (.fin false 0 0, false, 0)
  | .fin n m e =>
    if m = 0 then (.inf n, false, flDZ)
    else if n then (.nan false, false, flNV)
    else
      let m := m <<< (e % 2).toNat
      let g := guardBits + Nat.log2 m
      let r := isqrt (2 ^ (2 * g) / m)
      (.fin false r (-(g : Int) - e / 2), r * r * m != 2 ^ (2 * g), 0)

/-- A subnormal code read as zero under DAZ (03 R69). -/
def FFmt.daz (F : FFmt) (daz : Bool) (x : Nat) : Nat :=
  if daz && bitsN x (F.w - 2) F.f == 0 then x / 2 ^ (F.w - 1) * 2 ^ (F.w - 1) else x

/-- A floating-point operation on codes (06 R147, 03 R462). -/
def VOp.float (op : VOp) (F : FFmt) (daz : Bool) (c : RCtx) (x y z : Nat) : Nat × FlagSet :=
  let rdn := c.md == .rdn
  let a := F.decode (F.daz daz x)
  let b := F.decode (F.daz daz y)
  let d := F.decode (F.daz daz z)
  let one : FVal := .fin false 1 0
  let put1 (r : FVal × Bool) : Nat × FlagSet := let (u, fl) := F.put c r.1 false; (u, fl ||| flIf r.2 flNV)
  let put2 (r : FVal × Bool × FlagSet) : Nat × FlagSet := let (u, fl) := F.put c r.1 r.2.1; (u, fl ||| r.2.2)
  let sb := 2 ^ (F.w - 1)
  match op with
  | .add => put1 (a.add rdn b)
  | .sub => put1 (a.add rdn b.neg)
  | .mul => put1 (a.mul b)
  | .fma => put1 (a.fma rdn b d)
  | .fms => put1 (a.fma rdn b d.neg)
  | .fnma => put1 (a.neg.fma rdn b d)
  | .div => put2 (a.div b)
  | .sqrt => put2 a.sqrt
  | .rcp => put2 (one.div a)
  | .rsq => put2 a.rsq
  | .min => F.minMax false (F.daz daz x) (F.daz daz y)
  | .max => F.minMax true (F.daz daz x) (F.daz daz y)
  | .abs => (x % sb, 0)
  | .neg => ((x + sb) % (2 * sb), 0)
  | .cpys => (x % sb + y / sb * sb, 0)

/-- An integer operation on 32-bit codes, read signed or not; the result is kept modulo 2^32 (06 R147). -/
def VOp.int (op : VOp) (sg : Bool) (x y : Nat) : Nat :=
  let a := intVal 32 sg x
  let b := intVal 32 sg y
  match op with
  | .add => wrapN (a + b) 32
  | .sub => wrapN (a - b) 32
  | .mul => wrapN (a * b) 32
  | .min => if b < a then y else x
  | .max => if a < b then y else x
  | .abs => wrapN (a.natAbs : Int) 32
  | .neg => wrapN (-a) 32
  | _ => x

/-- One element of an arithmetic instruction. -/
def VOp.elem (op : VOp) (f : VL) (t : Issue) (xs : List VSrc) (draw i : Nat) : VElem :=
  let ty := f.ty.toNat
  let w := elemBits ty
  let x := (srcAt xs 0).el w i
  let y := (srcAt xs 1).el w i
  let z := (srcAt xs 2).el w i
  let bad := anyBad xs w i
  match intFmt ty, floatFmt ty with
  | some (_, sg), _ => (op.int sg x y, 0, bad)
  | none, some F =>
    let (u, fl) := op.float F (fcDAZ t.fpctl) ⟨t.rmode f, draw, fcSATF t.fpctl, fcFTZ t.fpctl⟩ x y z
    (u, fl, bad)
  | none, none => (0, 0, bad)

/-- An arithmetic instruction on operands `os`. -/
def vArith (op : VOp) (len : Nat) (f : VL) (os : List VOpnd) (s : State) : Out :=
  vElem len (elemBits f.ty.toNat) f os
    (fun t => op.rounds && (floatFmt f.ty.toNat).isSome && t.rmode f == .sr) (op.elem f) s

def vRR (op : VOp) (f : VR) (s : State) : Out := vArith op 4 (twinR f 0) [vA (twinR f 0), vB (twinR f 0)] s
def vR1 (op : VOp) (f : VR) (s : State) : Out := vArith op 4 (twinR f 0) [vA (twinR f 0)] s
def vRK (op : VOp) (f : VK) (s : State) : Out := vArith op 4 (twinK f 0) [vA (twinK f 0), kB (twinK f 0)] s
def vLK (op : VOp) (f : VL) (s : State) : Out := vArith op 8 f [vA f, kB f] s
def vL1 (op : VOp) (f : VL) (s : State) : Out := vArith op 8 f [vA f] s
def vL2 (op : VOp) (f : VL) (s : State) : Out := vArith op 8 f [vA f, vB f] s
def vL3 (op : VOp) (f : VL) (s : State) : Out := vArith op 8 f [vA f, vB f, vC f] s

def execVadd (f : VR) (s : State) : Out := vRR .add f s
def execVsub (f : VR) (s : State) : Out := vRR .sub f s
def execVmul (f : VR) (s : State) : Out := vRR .mul f s
def execVmin (f : VR) (s : State) : Out := vRR .min f s
def execVmax (f : VR) (s : State) : Out := vRR .max f s
def execVabs (f : VR) (s : State) : Out := vR1 .abs f s
def execVneg (f : VR) (s : State) : Out := vR1 .neg f s
def execVaddK (f : VK) (s : State) : Out := vRK .add f s
def execVsubK (f : VK) (s : State) : Out := vRK .sub f s
def execVmulK (f : VK) (s : State) : Out := vRK .mul f s
def execVminK (f : VK) (s : State) : Out := vRK .min f s
def execVmaxK (f : VK) (s : State) : Out := vRK .max f s
def execVaddLong (f : VL) (s : State) : Out := vLK .add f s
def execVsubLong (f : VL) (s : State) : Out := vLK .sub f s
def execVmulLong (f : VL) (s : State) : Out := vLK .mul f s
def execVminLong (f : VL) (s : State) : Out := vLK .min f s
def execVmaxLong (f : VL) (s : State) : Out := vLK .max f s
def execVfma (f : VL) (s : State) : Out := vL3 .fma f s
def execVfms (f : VL) (s : State) : Out := vL3 .fms f s
def execVfnma (f : VL) (s : State) : Out := vL3 .fnma f s
def execVdiv (f : VL) (s : State) : Out := vL2 .div f s
def execVsqrt (f : VL) (s : State) : Out := vL1 .sqrt f s
def execVrcp (f : VL) (s : State) : Out := vL1 .rcp f s
def execVrsq (f : VL) (s : State) : Out := vL1 .rsq f s
def execVabsLong (f : VL) (s : State) : Out := vL1 .abs f s
def execVnegLong (f : VL) (s : State) : Out := vL1 .neg f s
def execVcpys (f : VL) (s : State) : Out := vL2 .cpys f s

end Sys2Proof.Machine
end

