-- ==== Sys2Proof/Machine/VecLogic.lean ====
section
/-! DEFINITION. Vector logic, shifts, saturating sums, compare, select and mask operations (06 R148 to R151). -/

namespace Sys2Proof.Machine

open Sys2Proof

/-! ### Logic and shifts (06 R148) -/

/-- A bitwise instruction on 32-bit elements. -/
def vBits (len : Nat) (f : VL) (os : List VOpnd) (op : Nat → Nat → Nat) (s : State) : Out :=
  vElem len 32 f os (fun _ => false)
    (fun _ xs _ i => (op ((srcAt xs 0).el 32 i) ((srcAt xs 1).el 32 i), 0, anyBad xs 32 i)) s

def bitNot (x _ : Nat) : Nat := 2 ^ 32 - 1 - x

def vBitsRR (f : VR) (op : Nat → Nat → Nat) (s : State) : Out :=
  vBits 4 (twinR f 0x18) [vA (twinR f 0x18), vB (twinR f 0x18)] op s
def vBitsLL (f : VL) (op : Nat → Nat → Nat) (s : State) : Out := vBits 8 f [vA f, vB f] op s

def execVand (f : VR) (s : State) : Out := vBitsRR f (· &&& ·) s
def execVor (f : VR) (s : State) : Out := vBitsRR f (· ||| ·) s
def execVxor (f : VR) (s : State) : Out := vBitsRR f (· ^^^ ·) s
def execVnot (f : VR) (s : State) : Out := vBits 4 (twinR f 0x18) [vA (twinR f 0x18)] bitNot s
def execVandLong (f : VL) (s : State) : Out := vBitsLL f (· &&& ·) s
def execVorLong (f : VL) (s : State) : Out := vBitsLL f (· ||| ·) s
def execVxorLong (f : VL) (s : State) : Out := vBitsLL f (· ^^^ ·) s
def execVnotLong (f : VL) (s : State) : Out := vBits 8 f [vA f] bitNot s

/-- A shift by the k register of VB, its count no more than 32 (06 R148). -/
def vShift (len : Nat) (f : VL) (op : Nat → Nat → Nat) (s : State) : Out :=
  vWord len f [vA f] (fun t xs => do
    let n ← t.kCount f.b
    .ok (t.vwrite f (vFold t f (t.count 32) 32 32 false
      (fun _ i => (op ((srcAt xs 0).el 32 i) (min n 32), 0, anyBad xs 32 i))))) s

def shl32 (x n : Nat) : Nat := (x <<< n) % 2 ^ 32
def shr32 (x n : Nat) : Nat := x >>> n
def sra32 (x n : Nat) : Nat := wrapN (signExt x 32 / ((2 ^ n : Nat) : Int)) 32

def execVshl (f : VK) (s : State) : Out := vShift 4 (twinK f 0x18) shl32 s
def execVshr (f : VK) (s : State) : Out := vShift 4 (twinK f 0x18) shr32 s
def execVsra (f : VK) (s : State) : Out := vShift 4 (twinK f 0x18) sra32 s
def execVshlLong (f : VL) (s : State) : Out := vShift 8 f shl32 s
def execVshrLong (f : VL) (s : State) : Out := vShift 8 f shr32 s
def execVsraLong (f : VL) (s : State) : Out := vShift 8 f sra32 s

/-- A saturating sum or difference in the type of TY. -/
def vSat (f : VL) (op : Int → Int → Int) (s : State) : Out :=
  let (w, sg) := (intFmt f.ty.toNat).getD (32, true)
  vElem 8 w f [vA f, vB f] (fun _ => false) (fun _ xs _ i =>
    let (x, ch) := intClamp w sg (op (intVal w sg ((srcAt xs 0).el w i)) (intVal w sg ((srcAt xs 1).el w i)))
    (x, flIf ch flSAT, anyBad xs w i)) s

def execVadds (f : VL) (s : State) : Out := vSat f (· + ·) s
def execVsubs (f : VL) (s : State) : Out := vSat f (· - ·) s

/-! ### Compare (06 R149) -/

/-- The condition AUX names, on an ordering −1, 0, 1 (02 R50). -/
def condHolds (aux : Nat) (c : Int) : Bool :=
  match aux with
  | 0 => c == 0 | 1 => c != 0 | 2 => decide (c < 0) | 3 => decide (c ≤ 0) | 4 => decide (0 < c) | 5 => decide (0 ≤ c)
  | _ => false

/-- Compares two codes: result and flags. -/
def cmpElem (ty aux : Nat) (daz : Bool) (x y : Nat) : Bool × FlagSet :=
  match intFmt ty, floatFmt ty with
  | some (w, sg), _ =>
    let a := intVal w sg x
    let b := intVal w sg y
    (condHolds aux (if a < b then -1 else if b < a then 1 else 0), 0)
  | none, some F =>
    let a := F.decode (F.daz daz x)
    let b := F.decode (F.daz daz y)
    let nan := a.isNan || b.isNan
    let nv := if 2 ≤ aux ∧ aux ≤ 5 then nan else a.isSig || b.isSig
    (if nan then aux == 1 || aux == 6 else condHolds aux (a.cmp b), flIf nv flNV)
  | none, none => (false, 0)

/-- The first source whose lane of element `i` is poisoned, by name. -/
def badName (os : List VOpnd) (xs : List VSrc) (w i : Nat) : DWord :=
  (((os.zip xs).find? (fun p => p.2.bad w i)).map (fun p => p.1.name)).getD 0

def execVcmp (f : VL) (s : State) : Out :=
  let os := [vA f, vB f]
  let w := elemBits f.ty.toNat
  vWord 8 f os (fun t xs =>
    let n := t.count w
    match (List.range n).find? (fun i => active t f w i && anyBad xs w i) with
    | some i => .error (.trap { code := Code.poisonUse, info := badName os xs w i, elem := i })
    | none =>
      let (m, fl) := (List.range n).foldl (fun (acc : Nat × FlagSet) i =>
        let lanes := (2 ^ laneSpan w i - 1) <<< laneAt w i
        if active t f w i then
          let (c, fl) := cmpElem f.ty.toNat f.aux.toNat (fcDAZ t.fpctl) ((srcAt xs 0).el w i) ((srcAt xs 1).el w i)
          (if c then acc.1 ||| lanes else acc.1, acc.2 ||| fl)
        else (if f.mz then acc.1 else acc.1 ||| ((t.getM f.d.toNat).toNat &&& lanes), acc.2)) (0, 0)
      .ok ((t.setM f.d.toNat (BitVec.ofNat 2048 m)).vleave fl t.drawState)) s

/-! ### Select (06 R150) and mask operations (06 R151) -/

def execVsel (f : VL) (s : State) : Out :=
  let w := elemBits f.ty.toNat
  vWord 8 f [vA f, vB f] (fun t xs =>
    .ok (t.vwrite f (vFold t { f with men := false } (t.count w) w w false (fun _ i =>
      let x := srcAt xs (if active t f w i then 0 else 1)
      (x.el w i, 0, x.bad w i))))) s

/-- The mask VMOP makes. -/
def maskOp (aux : Nat) (a b : LaneMask) : LaneMask :=
  match aux with
  | 0 => a &&& b | 1 => a ||| b | 2 => a ^^^ b | 3 => a &&& ~~~b | 4 => ~~~a | 5 => BitVec.allOnes 2048 | _ => 0

def execVmop (f : VL) (s : State) : Out :=
  vWord 8 f [] (fun t _ => .ok (t.setM f.d.toNat (maskOp f.aux.toNat (t.getM f.a.toNat) (t.getM f.b.toNat)))) s

end Sys2Proof.Machine
end

