-- ==== Sys2Proof/Machine/VecConvert.lean ====
section
/-! DEFINITION. Element conversion (06 R152, 03 R66, R72 to R74). -/

namespace Sys2Proof.Machine

open Sys2Proof

/-- Whether every finite value and infinity of one floating format is a value of the other. -/
def FFmt.holds (D S : FFmt) : Bool :=
  decide (S.f ≤ D.f) && decide (D.qmin ≤ S.qmin) && !D.exceeds S.maxM S.maxE && (S.sp != .ieee || D.sp == .ieee)

/-- Whether every value of an integer format is a value of a floating format. -/
def FFmt.holdsInt (D : FFmt) (w : Nat) (sg : Bool) : Bool :=
  decide (w ≤ D.f + 1 + b2n sg) && !D.exceeds (if sg then 2 ^ (w - 1) else 2 ^ w - 1) 0

/-- A pair (D, S) that cannot round (06 R152). -/
def cannotRound (d s : Nat) : Bool :=
  match floatFmt d, floatFmt s, intFmt s with
  | some D, some S, _ => D.holds S
  | some D, none, some (w, sg) => D.holdsInt w sg
  | none, none, _ => true
  | _, _, _ => false

/-- One element converted: a pair that cannot round is exact, whatever FPCTL holds (03 R74, 06 R152). -/
def convElem (d s : Nat) (daz : Bool) (c : RCtx) (x : Nat) : Nat × FlagSet :=
  match floatFmt d, floatFmt s, intFmt d, intFmt s with
  | some D, some S, _, _ =>
    let daz := daz && decide (s < 2)
    if D.holds S then D.conv {} (S.decodeDaz daz x) false
    else D.conv { c with ftz := c.ftz && decide (d < 2) } (S.decodeDaz daz x) false
  | some D, none, _, some (w, sg) => D.conv { c with ftz := c.ftz && decide (d < 2) } (FVal.ofInt (intVal w sg x)) false
  | none, some S, some (w, sg), _ => toIntFmt w sg c (S.decodeDaz (daz && decide (s < 2)) x) false
  | none, none, some (w, sg), some (w', sg') =>
    let (u, ch) := intClamp w sg (intVal w' sg' x)
    (u, flIf ch flSAT)
  | _, _, _, _ => (0, 0)

def execVcvt (f : VL) (s : State) : Out :=
  let d := f.ty.toNat
  let src := (f.c.setWidth 5).toNat
  let wd := elemBits d
  let ws := elemBits src
  let w := max wd ws
  vWord 8 f [vA f] (fun t xs =>
    let x := srcAt xs 0
    let draws := t.rmode f == .sr && !cannotRound d src
    .ok (t.vwrite f (vFold t f (t.count w) w wd draws (fun draw i =>
      let (u, fl) := convElem d src (fcDAZ t.fpctl) ⟨t.rmode f, draw, fcSATF t.fpctl, fcFTZ t.fpctl⟩ (x.el ws i)
      (u, fl, x.bad ws i))))) s

end Sys2Proof.Machine
end

