-- ==== Sys2Proof/Machine/CopyShape.lean ====
section
/-! DEFINITION. Shape records, transform words and the elements of a copy (10 R251, R254 to R256, R264, R265). -/

namespace Sys2Proof.Machine

open Sys2Proof

/-! ### Shape records (10 R251) -/

structure Shape where
  rank : Nat
  ty : Nat
  ext : List Nat
  str : List Int
  scale : Nat
  padv : Nat
  deriving DecidableEq, Repr

/-- A record from its doublewords. -/
def Shape.of (q : List DWord) : Shape :=
  let x (i : Nat) : DWord := q.getD i 0
  { rank := fld (x 0) 7 5, ty := fld (x 0) 4 0
    ext := [fld (x 1) 31 0, fld (x 1) 63 32, fld (x 2) 31 0, fld (x 2) 63 32]
    str := (List.range 4).map (fun d => signExt (fld (x (3 + d)) 39 0) 40)
    scale := fld (x 7) 63 32, padv := fld (x 7) 31 0 }

def Shape.w (h : Shape) : Nat := elemBits h.ty
/-- Bytes of an element, at least one. -/
def Shape.size (h : Shape) : Nat := max 1 (h.w / 8)
/-- Extent of a dimension; 1 above RANK. -/
def Shape.d (h : Shape) (i : Nat) : Nat := if i < h.rank then h.ext.getD i 1 else 1
def Shape.count (h : Shape) : Nat := h.d 0 * h.d 1 * h.d 2 * h.d 3
/-- Rows of D0 elements (10 R264). -/
def Shape.rows (h : Shape) : Nat := h.d 1 * h.d 2 * h.d 3

/-- The element types of records and conversions. -/
def copyTy (ty : Nat) : Bool := decide (ty ≤ 0x0C) || (decide (0x18 ≤ ty) && decide (ty ≤ 0x1B))

/-- Whether a record breaks no rule of R251. -/
def shapeOk (q : List DWord) : Bool :=
  let h := Shape.of q
  fld (q.getD 0 0) 63 8 == 0 && decide (1 ≤ h.rank) && decide (h.rank ≤ 4) && copyTy h.ty
    && (List.range 4).all (fun i =>
      fld (q.getD (3 + i) 0) 63 40 == 0 &&
      (if i < h.rank then decide (1 ≤ h.ext.getD i 0) && decide (h.ext.getD i 0 ≤ 2 ^ 31)
          && (decide (h.w < 8) || decide (h.str.getD i 0 % (h.size : Int) = 0))
       else h.ext.getD i 0 == 0 && h.str.getD i 0 == 0))
    && (decide (8 ≤ h.w) || h.str.getD 0 0 == 0) && decide (h.count ≤ 2 ^ 32)

/-- Position of an element in its dimensions: dimension 0 fastest. -/
structure Idx where
  i0 : Nat
  i1 : Nat
  i2 : Nat
  i3 : Nat
  deriving DecidableEq, Repr

def Shape.idx (h : Shape) (e : Nat) : Idx :=
  ⟨e % h.d 0, e / h.d 0 % h.d 1, e / (h.d 0 * h.d 1) % h.d 2, e / (h.d 0 * h.d 1 * h.d 2)⟩
/-- Element `i0` of row `r`. -/
def Shape.rowIdx (h : Shape) (r i0 : Nat) : Idx := ⟨i0, r % h.d 1, r / h.d 1 % h.d 2, r / (h.d 1 * h.d 2)⟩

/-- Byte address and bit of an element (10 R251, 03 R59). -/
def Shape.loc (h : Shape) (base : Nat) (x : Idx) : Int × Nat :=
  let st (i : Nat) : Int := h.str.getD i 0
  let a : Int := base + x.i1 * st 1 + x.i2 * st 2 + x.i3 * st 3
  if h.w < 8 then (a, h.w * x.i0) else (a + x.i0 * st 0, 0)

/-- The bytes of the scratchpad a tensor takes: from, and up to. -/
def Shape.extent (h : Shape) (base : Nat) : Int × Int :=
  let span (i : Nat) : Int := ((h.d i : Int) - 1) * h.str.getD i 0
  let ds := if h.w < 8 then [1, 2, 3] else [0, 1, 2, 3]
  let last : Int := if h.w < 8 then ((h.d 0 * h.w + 7) / 8 : Nat) else (h.size : Int)
  (ds.foldl (fun a i => a + min 0 (span i)) (base : Int), ds.foldl (fun a i => a + max 0 (span i)) (base : Int) + last)

/-! ### The transform word (10 R255, R256) -/

def xScl (x : DWord) : Bool := x.getLsbD 0
def xCvt (x : DWord) : Bool := x.getLsbD 1
def xCty (x : DWord) : Nat := fld x 6 2
def xCrm (x : DWord) : Nat := fld x 9 7
def xCsat (x : DWord) : Bool := x.getLsbD 10
def xTrn (x : DWord) : Bool := x.getLsbD 11
def xPad (x : DWord) : Bool := x.getLsbD 12
def xChk (x : DWord) : Bool := x.getLsbD 13

/-- Whether a transform word may stand in a card. -/
def xformOk (x : DWord) (flat : Bool) : Bool :=
  fld x 31 14 == 0 && (!flat || x == 0) && decide (xCrm x ≤ 4) && (xCvt x || fld x 10 2 == 0) && (xChk x || fld x 63 32 == 0)

/-- Whether types fit the stages enabled. -/
def typesOk (x : DWord) (S D : Shape) : Bool :=
  let src := if xScl x then 0 else S.ty
  !(xScl x && S.ty == 1)
    && (if xCvt x then xCty x == D.ty && copyTy src && copyTy (xCty x) && src != xCty x else D.ty == src)

/-- Whether extents fit, element for element: CPY and CPYR. -/
def extentsOk (x : DWord) (S D : Shape) : Bool :=
  let n (i : Nat) : Nat := if xTrn x then S.d (match i with
    | 0 => 1 | 1 => 0 | i => i) else S.d i
  (!xTrn x || (decide (2 ≤ S.rank) && decide (2 ≤ D.rank)))
    && (if xPad x then (List.range 4).all (fun i => decide (n i ≤ D.d i))
        else S.rank == D.rank && (List.range 4).all (fun i => n i == D.d i))

/-- Whether rows fit: CPYG and CPYS. -/
def rowsOk (x : DWord) (S D : Shape) : Bool :=
  !xTrn x && (if xPad x then decide (S.d 0 ≤ D.d 0) else S.d 0 == D.d 0)

/-- The code a source element becomes, and the flags of the convert stage (10 R256). -/
def stageElem (x : DWord) (S D : Shape) (c : Nat) : Nat × FlagSet :=
  let c := if xScl x then
      let wide : FVal := match floatFmt S.ty, intFmt S.ty with
        | some F, _ => F.decode c
        | none, some (w, sg) => fp32.decode (fp32.put {} (FVal.ofInt (intVal w sg c)) false).1
        | _, _ => .fin false 0 0
      (fp32.put {} (wide.mul (fp32.decode S.scale)).1 false).1
    else c
  let md : RMode := match xCrm x with
    | 2 => .rz | 3 => .rdn | 4 => .rup | _ => .rne
  if xCvt x then convElem D.ty (if xScl x then 0 else S.ty) false { md := md, satf := xCsat x } c else (c, 0)

/-- The code of a pad element: PADV of the destination record (log 31). -/
def padCode (D : Shape) : Nat :=
  if D.ty = 1 then (fp64.conv {} (match fp32.decode D.padv with
    | .nan _ => .nan false
    | v => v) false).1
  else D.padv % 2 ^ D.w

/-- Where a destination element comes from: it is not written, it is padding, or it is an element of the source. -/
inductive Origin where
  | none | pad
  | at (x : Idx)
  deriving DecidableEq, Repr

/-- Origin of a destination element of CPY and CPYR. -/
def originCpy (x : DWord) (S D : Shape) (e : Nat) : Origin :=
  let j := D.idx e
  let i : Idx := if xTrn x then ⟨j.i1, j.i0, j.i2, j.i3⟩ else j
  if S.d 0 ≤ i.i0 ∨ S.d 1 ≤ i.i1 ∨ S.d 2 ≤ i.i2 ∨ S.d 3 ≤ i.i3 then .pad else .at i

/-- Origin of a destination element whose row comes from source row `r`. -/
def originRow (S D : Shape) (r : Option Nat) (e : Nat) : Origin :=
  match r with
  | none => .none
  | some r => let i0 := e % D.d 0; if S.d 0 ≤ i0 then .pad else .at (S.rowIdx r i0)

/-- The row of a scatter that a destination row receives: the highest source row that names it, and not by the entry that skips
(10 R265). -/
def scatterRow (index : List Nat) (q : Nat) : Option Nat :=
  if q = 0xFFFFFFFF then none else ((index.zipIdx.filter (fun e => e.1 == q)).getLast?).map (·.2)

/-! ### CRC-32C (10 R256) -/

def crcBits : Nat → Nat → Nat
  | 0, c => c
  | n + 1, c => crcBits n (if c % 2 = 1 then (c / 2) ^^^ 0x82F63B78 else c / 2)

def crc32c (bs : List Nat) : Nat := (bs.foldl (fun c b => crcBits 8 (c ^^^ b)) 0xFFFFFFFF) ^^^ 0xFFFFFFFF

end Sys2Proof.Machine
end

