-- ==== Sys2Proof/Machine/Jobs.lean ====
section
/-! DEFINITION. Engine jobs: cards, the window, edges and order classes, how a job reaches memory and the scratchpad, its
wait, signal, faults and errors (08 R199 to R202, R205, 09 R225, R233, R236, R244, 10 R246 to R250, R270, 12 R305, 17
R427). -/

namespace Sys2Proof.Machine

open Sys2Proof

/-- Why a job's access does not happen: a fault the job halts on (12 R305), an uncorrectable error (17 R427), or a conflict that leaves
the granules before it written (08 R207). -/
inductive JStop where
  | fault (r : Report)
  | mc (kind pa : Nat)
  | after (s : State) (r : Report)

def PErr.jstop (e : PErr) : JStop := .mc e.mc.1 e.mc.2

/-- What a failed check of a job's access comes to. -/
def Report.jstop (r : Report) : JStop := match r.mc with
  | some (kind, pa) => .mc kind pa
  | none => .fault r

/-! ### Memory as a job reaches it (08 R197, R199, R206) -/

def State.jobAgent (s : State) (d w : Nat) (j : Job) : Agent :=
  { die := d, asid := j.asid, tag := tagOfTask j.taskId, clk := j.clk
    ltag := ((s.launch? j.launch).map (·.tag)).getD 0
    writer := .job j.tid (jobId d w j ||| 0x8000000000000000)
    tlbs := if j.kind.griddle then s.gTlbs d else s.dTlbs d }

/-- The parts of a range that lie in one 64-byte granule each: address and length. -/
def granules (va n : Nat) : List (Nat × Nat) :=
  if n = 0 then []
  else (List.range ((va + n - 1) / 64 + 1 - va / 64)).map (fun i =>
    let lo := max va (64 * (va / 64 + i))
    (lo, min (va + n) (64 * (va / 64 + i + 1)) - lo))

/-- The translation of every granule of an access, before any takes effect. -/
def State.jobLocs (s : State) (ag : Agent) (a n : Nat) (nd : Need) : Except JStop (List (Loc × Nat)) :=
  (granules a n).mapM (fun (va, len) =>
    if 2 ^ 56 ≤ va then .error (.fault { code := Code.addressRange, addr := dw va, write := nd != .rd })
    else match s.xlate ag.tlbs ag.asid va nd with
    | .error r => .error r.jstop
    | .ok l => .ok (l, len))

/-- The first granule whose race check fails: how many come before it, and the report (08 R206, R207). -/
def State.firstClash (s : State) (ag : Agent) (write : Bool) : List (Loc × Nat) → Option (Nat × Report)
  | [] => none
  | (l, _) :: r =>
    match s.raceCheck ag l write with
    | .error e => some (0, e)
    | .ok _ => (s.firstClash ag write r).map (fun (n, e) => (n + 1, e))

/-- Reads granules in ascending order, each with its part in the race record. -/
def State.readLocs (ag : Agent) : List (Loc × Nat) → State → Except JStop (List Byte × State)
  | [], s => .ok ([], s)
  | (l, n) :: r, s =>
    match (s.raceUpdate ag l (fun r => r.addReader ag.tag ag.clk)).rdHome ag.die ag.asid l.host l.pa n with
    | .error x => .error x.jstop
    | .ok (b, s) => (State.readLocs ag r s).map (fun (bs, s) => (b ++ bs, s))

/-- Reads granules without a part in any race record. -/
def State.peekLocs (ag : Agent) : List (Loc × Nat) → State → Except JStop (List Byte × State)
  | [], s => .ok ([], s)
  | (l, n) :: r, s =>
    match s.rdHome ag.die ag.asid l.host l.pa n with
    | .error x => .error x.jstop
    | .ok (b, s) => (State.peekLocs ag r s).map (fun (bs, s) => (b ++ bs, s))

/-- Writes granules in ascending order. -/
def State.writeLocs (ag : Agent) : List (Loc × Nat) → List Byte → State → Except JStop State
  | [], _, s => .ok s
  | (l, n) :: r, bs, s =>
    match (s.raceUpdate ag l (fun r => r.addWriter ag.tag ag.clk true)).wrHome ag.die ag.asid l.host
        (cellsAt l.pa (bs.take n)) ag.writer with
    | .error x => .error x.jstop
    | .ok s => State.writeLocs ag r (bs.drop n) s

/-- A plain read of `n` bytes by a job. -/
def State.jobRead (s : State) (ag : Agent) (a : DWord) (n : Nat) : Except JStop (List Byte × State) := do
  let ls ← s.jobLocs ag a.toNat n .rd
  match s.firstClash ag false ls with
  | some (_, r) => .error r.jstop
  | none => State.readLocs ag ls s

/-- One plain write by a job: every check is made first, and where one fails nothing is written (08 R206). DESIGN CHOICE (log 60): R207 has a
job stop at the granule that fails with its earlier granules written; the model keeps that to the granules of a bulk transfer. -/
def State.jobWrite (s : State) (ag : Agent) (a : DWord) (bs : List Byte) : Except JStop State := do
  let ls ← s.jobLocs ag a.toNat bs.length .wr
  match s.firstClash ag true ls with
  | some (_, r) => .error r.jstop
  | none => State.writeLocs ag ls bs s

/-- A run of bytes that a job moves granule by granule, each an access of its own: a conflict stops it at that granule, with the earlier
ones written (08 R207). DEDUCED (log 60): R206 has one access that covers several granules write nothing. -/
def State.jobWriteEach (s : State) (ag : Agent) (a : DWord) (bs : List Byte) : Except JStop State := do
  let ls ← s.jobLocs ag a.toNat bs.length .wr
  match s.firstClash ag true ls with
  | some (n, r) => do
    let s ← State.writeLocs ag (ls.take n) bs s
    match r.jstop with
    | .fault r => .error (.after s r)
    | e => .error e
  | none => State.writeLocs ag ls bs s

/-! ### The two spaces of a job: memory, and its task's scratchpad (09 R244) -/

def scrOut (o : Int) (w : Bool) : JStop := .fault { code := Code.scratchBound, addr := wrapD o, write := w }

/-- Bytes at an address, or at an offset of the scratchpad. -/
def State.jrd (s : State) (d w : Nat) (j : Job) (sp : Bool) (a : Int) (n : Nat) : Except JStop (List Byte × State) :=
  if sp then
    if a < 0 ∨ (scrSize : Int) < a + n then .error (scrOut a false)
    else .ok ((List.range n).map (fun i => Tbl.look 0 (s.sk j.sk).scr (a.toNat + i)), s)
  else s.jobRead (s.jobAgent d w j) (wrapD a) n

def State.jwr (s : State) (d w : Nat) (j : Job) (sp : Bool) (a : Int) (bs : List Byte) (each : Bool := false) : Except JStop State :=
  if sp then
    if a < 0 ∨ (scrSize : Int) < a + bs.length then .error (scrOut a true)
    else
      let put (t : Tbl Byte) : Tbl Byte := (cellsAt a.toNat bs).foldl (fun t c => Tbl.set 0 t c.1 c.2) t
      .ok (s.updSk j.sk (fun x => { x with scr := put x.scr }))
  else if each then s.jobWriteEach (s.jobAgent d w j) (wrapD a) bs
  else s.jobWrite (s.jobAgent d w j) (wrapD a) bs

/-- The bytes at an address as they stand, where a write of part of a byte keeps the other bits (09 R235, 03 R59). -/
def State.jpeek (s : State) (d w : Nat) (j : Job) (sp : Bool) (a : Int) (n : Nat) : Except JStop (List Byte × State) :=
  if sp then s.jrd d w j sp a n
  else
    match s.jobLocs (s.jobAgent d w j) (wrapD a).toNat n .wr with
    | .error e => .error e
    | .ok ls => State.peekLocs (s.jobAgent d w j) ls s

/-- `nb` bits that start at bit `bit` of the stream at an address (03 R59). -/
def State.jrdBits (s : State) (d w : Nat) (j : Job) (sp : Bool) (a : Int) (bit nb : Nat) : Except JStop (Nat × State) := do
  let (bs, s) ← s.jrd d w j sp (a + (bit / 8 : Nat)) ((bit % 8 + nb + 7) / 8)
  .ok ((ofLe bs >>> (bit % 8)) % 2 ^ nb, s)

/-- Writes `nb` bits of a stream and no other. -/
def State.jwrBits (s : State) (d w : Nat) (j : Job) (sp : Bool) (a : Int) (bit nb x : Nat) : Except JStop State :=
  let at_ : Int := a + (bit / 8 : Nat)
  let sh := bit % 8
  let n := (sh + nb + 7) / 8
  if nb = 0 then .ok s
  else if sh = 0 ∧ nb % 8 = 0 then s.jwr d w j sp at_ (leBytes n (x % 2 ^ nb))
  else do
    let (old, s) ← s.jpeek d w j sp at_ n
    let o := ofLe old
    let keep := o % 2 ^ sh + (o >>> (sh + nb)) <<< (sh + nb)
    s.jwr d w j sp at_ (leBytes n (keep + (x % 2 ^ nb) <<< sh))

/-! ### Cards (09 R225) -/

/-- The card a command captures, or CSTORE-BOUND (04 R91). -/
def cardAt (t : Issue) (i : DWord) : Except Stop (List DWord) :=
  if 511 < i.toNat + 15 then .error (trapC Code.cstoreBound)
  else .ok ((List.range 16).map (fun n => Tbl.look 0 t.cst (i.toNat + n)))

/-- Doubleword `i` of a card. -/
def cdw (c : List DWord) (i : Nat) : DWord := c.getD i 0

/-- Whether the header of a card holds nothing that is not permitted. -/
def headerOk (c : List DWord) : Bool :=
  let h := cdw c 0
  fld h 63 32 == 0 && !h.getLsbD 7 && !h.getLsbD 3 && decide (fld h 6 4 ≤ 4)
    && (List.range (fld h 6 4)).all (fun f => fld (cdw c (1 + 2 * f)) 63 56 == 0 && fld (cdw c (2 + 2 * f)) 61 40 == 0)

/-- The semaphore a completion signals, and the one a start waits for: die and index (REM = 0 names the issuing die). -/
def sigSem (c : List DWord) (own : Nat) : Option (Nat × Nat) :=
  let h := cdw c 0
  if h.getLsbD 31 then some (if h.getLsbD 30 then fld h 29 28 else own, fld h 27 20) else none
def waitSem (c : List DWord) (own : Nat) : Option (Nat × Nat) :=
  let h := cdw c 0
  if h.getLsbD 19 then some (if h.getLsbD 18 then fld h 17 16 else own, fld h 15 8) else none

/-- SYNC-ACCESS of a card's semaphores (09 R224, 10 R262). -/
def State.cardSync (s : State) (k : Nat) (c : List DWord) : Except Stop Unit :=
  let ok (x : Option (Nat × Nat)) : Bool := match x with
    | some (d, i) => s.semGranted (s.sk k).info.launch d i
    | none => true
  need (ok (sigSem c (dieOf k)) && ok (waitSem c (dieOf k))) (trapC Code.syncAccess)

/-- A job as a task's command makes it. -/
def State.newJob (s : State) (k : Nat) (kind : JobKind) (card : List DWord) : Job :=
  let i := (s.sk k).info
  { kind := kind, seq := 0, srcDie := dieOf k, sk := k, tid := i.id, launch := i.launch, asid := s.asidOf k
    taskId := i.frame.taskId, clk := i.sclk, card := card, hm := (s.sk k).handler.isSome }

/-- The task of a Skillet as the issuer of a command. -/
def State.issuerOf (s : State) (k : Nat) : Issuer :=
  let i := (s.sk k).info
  ⟨i.id, i.launch, dieOf k, (s.sk k).handler.isSome, i.frame.taskId⟩

/-- Flags a job gathers, which its completion reports (09 R226, R243, 10 R258). -/
def Job.raise (j : Job) (fl : FlagSet) : Job :=
  { j with sat := j.sat || (fl &&& flSAT) != 0, of := j.of || (fl &&& flOF) != 0, nv := j.nv || (fl &&& flNV) != 0
           zs := j.zs || (fl &&& flZS) != 0 }

/-! ### The window (10 R247) -/

def State.freeWin (s : State) (d : Nat) : Option Nat :=
  (List.range 256).find? (fun w => (Tbl.find (s.die d).window w).isNone)

/-- A job takes window entry `w` of a die, and the die's next sequence number. -/
def State.putJob (s : State) (d w : Nat) (j : Job) : State :=
  let s := { s with nextId := s.nextId + 1 }
  s.updDie d (fun D => { D with jobSeq := D.jobSeq + 1, window := Tbl.put D.window w { j with seq := D.jobSeq, ord := s.nextId } })

/-- Writes the id of a job to a command's destination. -/
def State.giveId (s : State) (k : Nat) (r : BitVec 6) (d w : Nat) : State :=
  match s.job? d w with
  | some j => s.onTk k (fun t => t.setS r (jobId d w j))
  | none => s

/-! ### Edges and order classes (10 R248, R249) -/

/-- Two footprints that order their jobs. -/
def Foot.clash (a b : Foot) (sameTask : Bool) : Bool :=
  (a.w || b.w) && a.sp == b.sp && (!a.sp || sameTask) && a.len != 0 && b.len != 0
    && decide (a.base < b.base + b.len) && decide (b.base < a.base + a.len)

/-- Footprints that take part in edges: a copy that another die issued has none (10 R266); those of a Whisk job are formed
where it runs (14 R383). -/
def Job.edgeFoots (j : Job) (d : Nat) : List Foot := if j.srcDie = d ∨ j.kind.whisk then j.foots else []

/-- Whether no earlier job that runs on the same die and has not completed has an edge with this one. -/
def State.edgesClear (s : State) (d : Nat) (j : Job) : Bool :=
  allDies.all (fun w => (s.die w).window.all (fun e =>
    decide (j.ord ≤ e.2.ord) || e.2.asid != j.asid || s.runDie w e.2 != s.runDie d j
      || !(e.2.edgeFoots w).any (fun a => (j.edgeFoots d).any (fun b => a.clash b (e.2.tid == j.tid)))))

/-- Whether every earlier job of the Skillet in the same order class has completed. -/
def State.classClear (s : State) (j : Job) : Bool :=
  allDies.all (fun d => (s.die d).window.all (fun e =>
    decide (j.ord ≤ e.2.ord) || e.2.sk != j.sk || e.2.card.isEmpty || fld (cdw e.2.card 0) 2 0 != fld (cdw j.card 0) 2 0))

/-- A job that is otherwise ready joins the queue of its wait semaphore, and may be served at once; one without a wait is
ready (10 R270). -/
def State.joinWait (s : State) (d w : Nat) (j : Job) : State :=
  match waitSem j.card j.srcDie with
  | none => s.updJob d w (fun j => { j with st := .ready })
  | some (e, i) =>
    let s := s.updJob d w (fun j => { j with st := .waiting })
    (s.updSem e i (fun m => { m with q := m.q ++ [.job d w] })).semRun e i

/-! ### Completion (08 R200, 10 R250) -/

/-- The signal: a release at die scope, or at package scope for the semaphore of another die than runs the job, whose writes come
first. A Whisk job run there leaves no older clean copy on the semaphore's die, whose tasks acquire at die scope and see the outputs
(14 R383, log 60). -/
def State.jobSignal (s : State) (d : Nat) (j : Job) : State :=
  match sigSem j.card j.srcDie with
  | none => s
  | some (e, i) =>
    let r := s.runDie d j
    let s := if e = r then s else s.writeThroughAll r
    let s := if j.kind.whisk ∧ e ≠ r then s.selfInvalidate e else s
    s.semInc e i (j.clk + 1)

/-- A job whose writes and status are made signals and leaves the window. -/
def State.finishJob (s : State) (d w : Nat) (j : Job) : State := (s.jobSignal d j).dropJob d w

/-! ### Faults and errors of a job (12 R305, 17 R427) -/

/-- The Skillet on which a task runs. -/
def State.taskAt (s : State) (tid : Nat) : Option Nat := allSks.find? (fun k => (s.sk k).busy && (s.sk k).info.id == tid)

def Job.issuer (j : Job) : Issuer := ⟨j.tid, j.launch, j.srcDie, j.hm, j.taskId⟩

/-- Reports an asynchronous engine fault to the issuing task, running or saved; that of a command which a handler issued ends the launch
(12 R301, R305). `seq` is its place among the task's pending faults. -/
def State.tellIssuer (s : State) (j : Issuer) (seq : Nat) (r : Report) : State :=
  let put (i : TaskInfo) : TaskInfo := { i with pend := i.pend ++ [(seq, { r with async := true, eng := 0 })] }
  if j.hm then s.endLaunch j.launch ⟨1, Code.handlerFault, j.srcDie, j.taskId, { r with async := true }.cause⟩
  else match s.taskAt j.tid with
  | some k => s.onInfo k put
  | none => { s with saved := s.saved.map (fun e => if e.1 = j.tid then (e.1, { e.2 with info := put e.2.info }) else e) }

/-- The asynchronous engine fault of a job (12 R305). -/
def State.notifyTask (s : State) (d w : Nat) (j : Job) (r : Report) : State := s.tellIssuer j.issuer j.seq { r with info := jobId d w j }

/-- A job halts on a fault; a slab whose head it is halts too (09 R233). One whose launch is ending is aborted (13 R340). -/
def State.haltJob (s : State) (d w : Nat) (j : Job) (r : Report) : State :=
  if !(s.launch? j.launch).any (fun L => L.ending.isNone) then s.abortJob d w
  else
  let s := s.updJob d w (fun j => { j with st := .halted r })
  let s := if j.kind.griddle then s.updSlab d j.slab (fun b => { b with halt := true }) else s
  s.notifyTask d w j r

/-- An uncorrectable error met by a job: it aborts without its signal, its task halts where it is, and the entry is logged
(17 R427, R428). -/
def State.mcJobAs (s : State) (d w : Nat) (j : Job) (m : McInfo) : State :=
  let m := { m with job := jobId d w j, asid := j.asid, taskId := j.taskId }
  let s := s.abortJob d w
  match s.taskAt j.tid with
  | some k => s.mcTask k m
  | none =>
    match Tbl.find s.saved j.tid with
    | none => (s.logMc { m with launch := j.launch }).1
    | some _ =>
      let (s, written) := s.logMc { m with halted := true, tid := j.tid, launch := j.launch }
      let s := { s with saved := s.saved.map (fun e => if e.1 = j.tid then (e.1, { e.2 with halted := true }) else e) }
      if written then s else s.endLaunch j.launch ⟨2, 0xFFFF, j.srcDie, j.taskId, 0⟩

/-- The same, for an address in memory. -/
def State.mcJob (s : State) (d w : Nat) (j : Job) (kind pa : Nat) : State :=
  let (u, b, e) := mcPlace pa d
  s.mcJobAs d w j { die := e, unit := u, bank := b, kind := kind, addr := pa }

/-- What a stopped access comes to. -/
def State.jobStop (s : State) (d w : Nat) (j : Job) : JStop → State
  | .fault r => s.haltJob d w j r
  | .mc kind pa => s.mcJob d w j kind pa
  | .after s r => s.haltJob d w j r

/-! ### A pending acceptance (10 R247) -/

/-- A command that parks until its job is accepted. -/
def parkAccept (s : State) (k d : Nat) (j : Job) (r : Ret) : Act :=
  .error (.park (s.onTk k (fun t => { t with cmd := some (.accept d j r) })))

/-- Whether the C-engine stands at a command that has passed its checks and waits for acceptance. -/
def State.accepting (s : State) (k : Nat) : Bool :=
  match (s.tk k).cmd with
  | some (.accept _ _ _) => true
  | _ => false

end Sys2Proof.Machine
end

