-- ==== Sys2Proof/Machine/Wire.lean ====
section
/-! DEFINITION. What lies on the wires: checksums, the flits of a Benvas packet, an Ethernet frame read field by field (18 R442, R443, R445). -/

namespace Sys2Proof.Machine

open Sys2Proof

/-! ### Checksums -/

/-- A checksum register run over bytes; each value is computed before the next step is taken, so that the kernel evaluates it. -/
def crcFold (step : Nat → Byte → Nat) : List Byte → Nat → Nat
  | [], c => c
  | b :: r, c => match step c b with
    | 0 => crcFold step r 0
    | n + 1 => crcFold step r (n + 1)

/-- `n` steps of a checksum register of 64 bits that shifts left, most significant bit first. -/
def crc64Bits : Nat → Nat → Nat
  | 0, c => c
  | n + 1, c => crc64Bits n (if c.testBit 63 then (2 * c) % 2 ^ 64 ^^^ 0x42F0E1EBA9EA3693 else 2 * c)

/-- The CRC-64 of a flit (18 R442). -/
def crc64 (bs : List Byte) : Nat := (crcFold (fun c b => crc64Bits 8 (c ^^^ b.toNat <<< 56)) bs (2 ^ 64 - 1)) ^^^ (2 ^ 64 - 1)

/-- `n` steps of a checksum register of 32 bits that shifts right. -/
def crc32Bits : Nat → Nat → Nat
  | 0, c => c
  | n + 1, c => crc32Bits n (if c % 2 = 1 then (c / 2) ^^^ 0xEDB88320 else c / 2)

/-- The frame check sequence of IEEE 802.3. -/
def crc32 (bs : List Byte) : Nat := (crcFold (fun c b => crc32Bits 8 (c ^^^ b.toNat)) bs 0xFFFFFFFF) ^^^ 0xFFFFFFFF

/-! ### Flits (18 R442) -/

def flitPayload : Nat := 240

/-- Flits of a packet of `len` payload bytes. -/
def flitCount (len : Nat) : Nat := (16 + len + 239) / flitPayload

/-- A flit with its header and its checksum; its payload is filled up with zeros. -/
def flit (type seq index : Nat) (payload : List Byte) : List Byte :=
  let body := leBytes 8 (type + 256 * (seq % 65536) + 2 ^ 24 * (index % 256)) ++ payload ++ List.replicate (flitPayload - payload.length) 0
  body ++ leBytes 8 (crc64 body)

/-- Whether a flit is whole: its length, and its checksum, whose bytes ascend as those of every doubleword do (log 61). -/
def flitOk (f : List Byte) : Bool := f.length == 256 && ofLe (f.drop 248) == crc64 (f.take 248)

/-- Whether a flit carries place `i` of the packet numbered `seq`. -/
def flitAt (seq i : Nat) (f : List Byte) : Bool :=
  let h := ofLe (f.take 8)
  h % 256 == (if i = 0 then 1 else 2) && h / 256 % 65536 == seq && h / 2 ^ 24 == i

/-- KIND of a packet. -/
def kindNum : PacketKind → Nat
  | .write => 1 | .flagAdd => 2 | .handleMove => 3 | .readRequest => 4 | .readReply => 5

def packetKind : Nat → Option PacketKind
  | 1 => some .write | 2 => some .flagAdd | 3 => some .handleMove | 4 => some .readRequest | 5 => some .readReply
  | _ => none

/-- The header of a packet. -/
def packetHeader (p : Packet) : List Byte :=
  leBytes 8 (kindNum p.kind + place p.src 12 4 + place p.dst 12 16 + place p.asid 16 28 + place p.data.length 12 44) ++ leBytes 8 (p.addr % 2 ^ 56)

/-- The flits of a packet on its link. -/
def flitsOf (seq : Nat) (p : Packet) : List (List Byte) :=
  let all := packetHeader p ++ p.data
  (List.range (flitCount p.data.length)).map (fun i => flit (if i = 0 then 1 else 2) seq i ((all.drop (flitPayload * i)).take flitPayload))

/-- The SEQ and the packet that flits carry; none where one of them is not whole, or they are not the flits of a packet. -/
def packetOf (fs : List (List Byte)) : Option (Nat × Packet) :=
  let seq := ofLe ((fs.headD []).take 8) / 256 % 65536
  if !(fs.all flitOk && fs.zipIdx.all (fun x => flitAt seq x.2 x.1)) then none
  else
    let all := fs.flatMap (fun f => (f.drop 8).take flitPayload)
    let a := ofLe (all.take 8)
    let b := ofLe ((all.drop 8).take 8)
    let len := bitsN a 55 44
    match packetKind (bitsN a 3 0) with
    | none => none
    | some kind =>
      if len ≤ 2048 ∧ fs.length = flitCount len ∧ a < 2 ^ 56 ∧ b < 2 ^ 56 then
        some (seq, { kind := kind, src := bitsN a 15 4, dst := bitsN a 27 16, asid := bitsN a 43 28, addr := b, data := (all.drop 16).take len
                     job := 0 })
      else none

/-! ### Frames (18 R445) -/

/-- `n` bytes of a frame from offset `o`, the first of them the highest. -/
def beAt (bs : List Byte) (o n : Nat) : Nat := ((bs.drop o).take n).foldl (fun a b => 256 * a + b.toNat) 0

/-- Whether a frame of the wire has a length that is accepted and a good check sequence. -/
def frameOk (bs : List Byte) : Bool :=
  decide (64 ≤ bs.length) && decide (bs.length ≤ 9216) && ofLe (bs.drop (bs.length - 4)) == crc32 (bs.take (bs.length - 4))

def frameDmac (bs : List Byte) : Nat := beAt bs 0 6
def frameTagged (bs : List Byte) : Bool := beAt bs 12 2 == 0x8100

/-- The VLAN id of a frame. DESIGN CHOICE (log 61): one without a tag counts as VLAN 0. -/
def frameVlan (bs : List Byte) : Nat := if frameTagged bs then beAt bs 14 2 % 4096 else 0

/-- The UDP destination port of a frame; none where it carries no UDP header: over IPv4, in a first fragment, or over IPv6 without
extension headers. -/
def frameUdp (bs : List Byte) : Option Nat :=
  let o := if frameTagged bs then 16 else 12
  let ip := o + 2
  if beAt bs o 2 = 0x0800 then
    if beAt bs (ip + 9) 1 = 17 ∧ beAt bs (ip + 6) 2 % 8192 = 0 then some (beAt bs (ip + 4 * (beAt bs ip 1 % 16) + 2) 2) else none
  else if beAt bs o 2 = 0x86DD ∧ beAt bs (ip + 6) 1 = 17 then some (beAt bs (ip + 42) 2)
  else none

end Sys2Proof.Machine
end

