-- ==== Sys2Proof/Machine/Copies.lean ====
section
/-! DEFINITION. Colander jobs: card fields, chunks and bitmap slots, the packets of a copy to another chip, what a chunk reads
and writes (10 R253, R254, R258 to R260, R264 to R266, 18 R442, R458). -/

namespace Sys2Proof.Machine

open Sys2Proof

/-- An address field of a card. -/
def caddr (c : List DWord) (i : Nat) : DWord := cdw c i &&& 0x00FFFFFFFFFFFFFF

/-! ### Fields of a Colander card (10 R253, R266) -/

def cpSsp (c : List DWord) : Bool := (cdw c 9).getLsbD 63
def cpDsp (c : List DWord) : Bool := (cdw c 10).getLsbD 63
def cpBen (c : List DWord) : Bool := (cdw c 11).getLsbD 63
def cpSlot (c : List DWord) : Nat := fld (cdw c 11) 17 12
def cpBoff (c : List DWord) : Nat := fld (cdw c 11) 11 0
def cpX (c : List DWord) : DWord := cdw c 12
def cpFlat (c : List DWord) : Bool := cdw c 13 == 0
def cpLen (c : List DWord) : Nat := fld (cdw c 14) 39 0
def cpFlag (c : List DWord) : DWord := dw (fld (cdw c 15) 63 16 * 256)
def cpFen (c : List DWord) : Bool := (cdw c 15).getLsbD 15
def cpXchip (c : List DWord) : Bool := (cdw c 15).getLsbD 14
def cpTdie (c : List DWord) : Nat := fld (cdw c 15) 13 12
def cpChip (c : List DWord) : Nat := fld (cdw c 15) 11 0

/-- A job that crosses to another chip. -/
def Job.far (j : Job) : Bool := j.kind == .cpyr && cpXchip j.card

def Job.S (j : Job) : Shape := Shape.of j.rec1
def Job.D (j : Job) : Shape := Shape.of j.rec2

/-- A shaped far copy without its destination's record, which no link reaches: it can only halt (18 R444). -/
def Job.unread (j : Job) : Bool := j.far && !cpFlat j.card && j.rec2.isEmpty

/-- Bits of a copy's destination stream (10 R256, R258). -/
def Job.streamBits (j : Job) : Nat := if cpFlat j.card then 8 * cpLen j.card else if j.unread then 0 else j.D.count * j.D.w
/-- Chunks of a copy. -/
def Job.nChunks (j : Job) : Nat := ceilDiv j.streamBits 4096

/-! ### Bitmap slots (10 R258 to R260, R267) -/

def State.slot (s : State) (d i : Nat) : BSlot := Tbl.look {} (s.die d).slots i
def State.updSlot (s : State) (d i : Nat) (f : BSlot → BSlot) : State := s.updDie d (fun D => { D with slots := Tbl.upd {} D.slots i f })

/-- A run of `n` ones from bit `lo`. -/
def runMask (lo n : Nat) : BitVec 4096 := BitVec.ofNat 4096 ((2 ^ n - 1) <<< lo)

/-- Chunk bits set by a job: the slot's release clock rises to the job's clock + 1. -/
def State.setChunks (s : State) (j : Job) (mask : BitVec 4096) : State :=
  if cpBen j.card ∧ mask ≠ 0 then
    s.updSlot j.srcDie (cpSlot j.card) (fun b => { b with bits := b.bits ||| mask, clk := min (max b.clk (j.clk + 1)) 0xFFFFFFFF })
  else s

/-- The chunk bits of a copy are cleared when it is accepted. -/
def State.clearChunks (s : State) (j : Job) : State :=
  if cpBen j.card then
    s.updSlot j.srcDie (cpSlot j.card) (fun b => { b with bits := b.bits &&& ~~~(runMask (cpBoff j.card) j.nChunks) })
  else s

/-- A chunk has landed. The chunk bits of a scatter wait for its completion (10 R265). -/
def State.landChunk (s : State) (d w : Nat) (j : Job) (n : Nat) : State :=
  let s := if j.kind = .cpys then s else s.setChunks j (runMask (cpBoff j.card + n) 1)
  s.updJob d w (fun j => { j with landed := n :: j.landed })

/-- The completion of a scatter sets every chunk bit of the copy (10 R265). -/
def State.scatterDone (s : State) (j : Job) : State :=
  if j.kind = .cpys then s.setChunks j (runMask (cpBoff j.card) j.nChunks) else s

/-! ### Acceptance -/

/-- A copy enters the window of the die that runs it, once that has an entry (10 R247, R259). -/
def State.acceptCopy (s : State) (e : Nat) (j : Job) : Option (Nat × State) :=
  match s.freeWin e with
  | some w => if (s.die e).alive then some (w, (s.putJob e w j).clearChunks j) else none
  | none => none

/-! ### Links (18 R442 to R444) -/

def State.link (s : State) (i : Nat) : Link := Tbl.look {} s.links i
def State.updLink (s : State) (i : Nat) (f : Link → Link) : State := { s with links := Tbl.upd {} s.links i f }

/-- The links that reach a chip. -/
def State.route (s : State) (chip : Nat) : BitVec 6 := Tbl.look 0 s.routes chip

/-- The lowest live link to a chip. -/
def State.liveLink (s : State) (chip : Nat) : Option Nat :=
  (List.range 6).find? (fun i => (s.route chip).getLsbD i && (s.link i).up)

/-- Whether a link takes another packet: it is not retraining and its replay buffer has room. -/
def Link.ready (l : Link) : Bool := l.up && !l.retraining && decide (l.replay.length < 256)

/-- A packet is numbered, kept for replay and sent; during a replay the replay comes to it in its turn (18 R443). -/
def State.sendOn (s : State) (i : Nat) (p : Packet) : State :=
  s.updLink i (fun l =>
    { l with nextSeq := (l.nextSeq + 1) % 65536, replay := l.replay ++ [(l.nextSeq, p)]
             out := if l.cursor.isSome then l.out else l.out ++ [(l.nextSeq, p)]
             lastAck := if l.replay.isEmpty then s.now else l.lastAck })

/-- A packet handed to the lowest live link to its chip, if that takes it. -/
def State.sendLive (s : State) (p : Packet) : Option State :=
  match s.liveLink p.dst with
  | some i => if (s.link i).ready then some (s.sendOn i p) else none
  | none => none

/-- Whether a down link to a chip still keeps packets: those go first (18 R444, R458). -/
def State.behind (s : State) (chip : Nat) : Bool :=
  (List.range 6).any (fun i => (s.route chip).getLsbD i && !(s.link i).up && !(s.link i).replay.isEmpty)

/-- A new packet is sent, if nothing older of its chip waits on a down link. -/
def State.send (s : State) (p : Packet) : Option State := if s.behind p.dst then none else s.sendLive p

/-- The packets that wait at a link go as far as they are taken. -/
def State.drainWaiting (link : Nat) : List Packet → State → State
  | [], s => s
  | p :: r, s =>
    match s.send p with
    | some s => State.drainWaiting link r (s.updLink link (fun l => { l with waiting := l.waiting.tail }))
    | none => s

/-- A packet that must not be lost: where no link takes it now, it waits at the lowest link of its route; to a chip that is unrouted nothing
goes. -/
def State.post (s : State) (p : Packet) : State :=
  match s.send p with
  | some s => s
  | none =>
    match (List.range 6).find? (fun i => (s.route p.dst).getLsbD i) with
    | some i => s.updLink i (fun l => { l with waiting := l.waiting ++ [p] })
    | none => s

/-! ### Elements -/

/-- The origin of destination element `e` (10 R256, R264, R265). -/
def Job.origin (j : Job) (e : Nat) : Origin :=
  match j.kind with
  | .cpyg => originRow j.S j.D (j.rows[e / j.D.d 0]?) e
  | .cpys => originRow j.S j.D (scatterRow j.rows (e / j.D.d 0)) e
  | _ => originCpy (cpX j.card) j.S j.D e

/-- The code of destination element `e`; none where it is not written. -/
def State.copyElem (s : State) (d w : Nat) (j : Job) (e : Nat) : Except JStop (Option Nat × FlagSet × State) :=
  match j.origin e with
  | .none => .ok (none, 0, s)
  | .pad => .ok (some (padCode j.D), 0, s)
  | .at x => do
    let (a, bit) := j.S.loc (caddr j.card 9).toNat x
    let (c, s) ← s.jrdBits d w j (cpSsp j.card) a bit j.S.w
    let (u, fl) := stageElem (cpX j.card) j.S j.D c
    .ok (some u, fl, s)

/-- The elements of a stream that touch chunk `n`: the first, and how many. -/
def Job.chunkElems (j : Job) (n : Nat) : Nat × Nat :=
  let lo := 4096 * n / j.D.w
  (lo, min j.D.count (ceilDiv (4096 * (n + 1)) j.D.w) - lo)

/-- The codes of `n` elements from `e` on. -/
def State.copyElems (d w : Nat) (j : Job) : Nat → Nat → State → Except JStop (List (Nat × Option Nat) × FlagSet × State)
  | 0, _, s => .ok ([], 0, s)
  | n + 1, e, s => do
    let (x, fl, s) ← s.copyElem d w j e
    let (xs, fl', s) ← State.copyElems d w j n (e + 1) s
    .ok ((e, x) :: xs, fl ||| fl', s)

/-- The first bit of the destination that an element takes, counted from bit 0 of the byte at address 0 (03 R59). -/
def Job.firstBit (j : Job) (e : Nat) : Int :=
  let (a, bit) := j.D.loc (caddr j.card 10).toNat (j.D.idx e)
  8 * a + bit

/-- Whether two destination elements share a bit. -/
def Job.share (j : Job) (e f : Nat) : Bool :=
  decide (j.firstBit e < j.firstBit f + j.D.w) && decide (j.firstBit f < j.firstBit e + j.D.w)

/-- The first bits of the later elements that a landed chunk has written and that share a bit with element `e`: the highest index determines
the bits (10 R254). An element that is not written overlays nothing (10 R264, R265). -/
def Job.laterBits (j : Job) (n e : Nat) : List Int :=
  (j.landed.filter (fun m => decide (n < m))).flatMap (fun m =>
    let (lo, k) := j.chunkElems m
    ((List.range k).filter (fun i => decide (e < lo + i) && j.origin (lo + i) != .none && j.share e (lo + i))).map (fun i =>
      j.firstBit (lo + i)))

/-- The bits of element `e` that no later element has taken. -/
def Job.freeBits (j : Job) (n e : Nat) : List Nat :=
  (List.range j.D.w).filter (fun i => !(j.laterBits n e).any (fun b => decide (b ≤ j.firstBit e + i) && decide (j.firstBit e + i < b + j.D.w)))

/-- Writes the bits `is` of an element's code. -/
def State.putBits (d w : Nat) (j : Job) (a : Int) (bit x : Nat) : List Nat → State → Except JStop State
  | [], s => .ok s
  | i :: r, s =>
    match s.jwrBits d w j (cpDsp j.card) a (bit + i) 1 (x >>> i) with
    | .error e => .error e
    | .ok s => State.putBits d w j a bit x r s

/-- Writes elements in ascending order, each without the bits that later elements have taken. -/
def State.putElems (d w : Nat) (j : Job) (n : Nat) : List (Nat × Option Nat) → State → Except JStop State
  | [], s => .ok s
  | (_, none) :: r, s => State.putElems d w j n r s
  | (e, some x) :: r, s => do
    let (a, bit) := j.D.loc (caddr j.card 10).toNat (j.D.idx e)
    let s ← if (j.laterBits n e).isEmpty then s.jwrBits d w j (cpDsp j.card) a bit j.D.w x
      else State.putBits d w j a bit x (j.freeBits n e) s
    State.putElems d w j n r s

/-- Chunk `n` of the destination stream, from the elements that touch it, of which `lo` is the first (10 R256, 03 R59). -/
def streamPart (w n lo : Nat) (xs : List (Nat × Option Nat)) : Nat :=
  (xs.foldl (fun a (e, x) => a + (x.getD 0) <<< (w * (e - lo))) 0 >>> (4096 * n - w * lo)) % 2 ^ 4096

/-- Chunk `n` of a copy is read, passed through the stages and written; its flags and stream are kept with the job. -/
def State.copyChunk (s : State) (d w : Nat) (j : Job) (n : Nat) : Except JStop State :=
  let c := j.card
  if cpFlat c then do
    let len := min 512 (cpLen c - 512 * n)
    let (bs, s) ← s.jrd d w j (cpSsp c) (((caddr c 9).toNat + 512 * n : Nat) : Int) len
    s.jwr d w j (cpDsp c) (((caddr c 10).toNat + 512 * n : Nat) : Int) bs true
  else do
    let (lo, k) := j.chunkElems n
    let (xs, fl, s) ← State.copyElems d w j k lo s
    let s ← State.putElems d w j n xs s
    let st := if xChk (cpX c) then [(n, streamPart j.D.w n lo (xs.filter (fun e => e.2.isSome)))] else []
    .ok (s.updJob d w (fun j =>
      { j with sat := j.sat || (fl &&& flSAT) != 0, of := j.of || (fl &&& flOF) != 0, nv := j.nv || (fl &&& flNV) != 0
               stream := st ++ j.stream.filter (fun e => e.1 != n) }))

/-- The stream bytes a check covers: for gathers, the rows written. -/
def Job.checkedBytes (j : Job) : List Nat :=
  let bits := match j.kind with
    | .cpyg => min j.rows.length j.D.rows * j.D.d 0 * j.D.w
    | _ => j.streamBits
  (List.range ((bits + 7) / 8)).map (fun i => (Tbl.look 0 j.stream (i / 512) >>> (8 * (i % 512))) % 256)

/-! ### A copy to another chip (18 R458) -/

/-- Bytes of a far copy's stream, `len` of them from offset `o`: read and staged on the issuing die. -/
def State.farBytes (s : State) (d w : Nat) (j : Job) (o len : Nat) : Except JStop (List Byte × FlagSet × State) :=
  let c := j.card
  if cpFlat c then (s.jrd d w j (cpSsp c) (((caddr c 9).toNat + o : Nat) : Int) len).map (fun r => (r.1, 0, r.2))
  else do
    let lo := 8 * o / j.D.w
    let hi := min j.D.count (ceilDiv (8 * (o + len)) j.D.w)
    let (xs, fl, s) ← State.copyElems d w j (hi - lo) lo s
    let all := xs.foldl (fun a (e, x) => a + (x.getD 0) <<< (j.D.w * (e - lo))) 0
    .ok (leBytes len (all >>> (8 * o - j.D.w * lo)), fl, s)

/-- Bytes of a copy's stream. -/
def Job.streamBytes (j : Job) : Nat := (j.streamBits + 7) / 8
/-- Write packets of a far copy. -/
def Job.packets (j : Job) : Nat := ceilDiv j.streamBytes 2048

/-- Hands the next packet of a far copy to the link: packet `rp` of the data, then the flag packet. None where the link
takes none now, or none is left. -/
def State.sendNext (s : State) (d w : Nat) (j : Job) : Except JStop (Option State) :=
  let c := j.card
  let pk (kind : PacketKind) (a : Nat) (bs : List Byte) : Packet :=
    { kind := kind, src := s.chipId.toNat, dst := cpChip c, asid := j.asid, addr := a, data := bs, job := jobTag d w }
  if s.route (cpChip c) = 0 ∨ j.unread then .error (.fault { code := Code.permissionFault, addr := caddr c 10, write := true })
  else if s.behind (cpChip c) || !(match s.liveLink (cpChip c) with
    | some i => (s.link i).ready
    | none => false) then .ok none
  else if j.rp < j.packets then do
    let len := min 2048 (j.streamBytes - 2048 * j.rp)
    let (bs, fl, s) ← s.farBytes d w j (2048 * j.rp) len
    let s := s.updJob d w (fun j =>
      { j with rp := j.rp + 1, sat := j.sat || (fl &&& flSAT) != 0, of := j.of || (fl &&& flOF) != 0, nv := j.nv || (fl &&& flNV) != 0
               stream := if xChk (cpX c) then
                   (List.range (ceilDiv len 512)).foldl (fun t n => Tbl.put t (4 * j.rp + n) (ofLe ((bs.drop (512 * n)).take 512))) j.stream
                 else j.stream })
    .ok (s.send (pk .write ((caddr c 10).toNat + 2048 * j.rp) bs))
  else if cpFen c ∧ !j.sent then
    .ok ((s.updJob d w (fun j => { j with sent := true })).send (pk .flagAdd (cpFlag c).toNat []))
  else .ok none

/-! ### The start of a gather or scatter (10 R264, R265) -/

/-- The row numbers a bit stream selects, ascending. -/
def maskRows (bs : List Byte) (R : Nat) : List Nat := (List.range R).filter (fun r => (bs.getD (r / 8) 0).getLsbD (r % 8))

/-- Reads the mask or the index array. A gather writes COUNT and TRUNC and sets the bits of the chunks it will not write, in
one action. -/
def State.beginCopy (s : State) (d w : Nat) (j : Job) : Except JStop State :=
  let c := j.card
  match j.kind with
  | .cpyg => do
    let (bs, s) ← s.jrd d w j false (caddr c 15).toNat ((j.S.rows + 7) / 8)
    let sel := maskRows bs j.S.rows
    let cap := j.D.rows
    let first := ceilDiv (min sel.length cap * j.D.d 0 * j.D.w) 4096
    let rest := (List.range (j.nChunks - first)).map (first + ·)
    let s := s.updSlot j.srcDie (cpSlot c) (fun b => { b with count := sel.length, trunc := decide (cap < sel.length) })
    let s := s.setChunks j (runMask (cpBoff c + first) (j.nChunks - first))
    .ok (s.updJob d w (fun j => { j with rows := sel.take cap, landed := rest, sent := true }))
  | .cpys => do
    let (bs, s) ← s.jrd d w j false (caddr c 15).toNat (4 * j.S.rows)
    let idx := (List.range j.S.rows).map (fun r => ofLe ((bs.drop (4 * r)).take 4))
    .ok (s.updJob d w (fun j => { j with rows := idx, sent := true }))
  | _ => .ok s

/-! ### The flag of a copy to another die (10 R266) -/

/-- AADD.64 of 1 on the flag doubleword at its home: a release at package scope. -/
def State.addFlag (s : State) (d w : Nat) (j : Job) : Except JStop State :=
  let ag := s.jobAgent d w j
  let a := (cpFlag j.card).toNat
  match s.xlate ag.tlbs ag.asid a .rw with
  | .error r => .error r.jstop
  | .ok l =>
    if !l.host && (apertureOf l.pa).isSome then
      .error (.fault { code := Code.permissionFault, addr := dw a, level := l.level, write := true })
    else match (if l.chk then (s.recordLoc ag l.va true).map (fun _ => ()) else .ok ()) with
    | .error r => .error r.jstop
    | .ok _ =>
      let s := s.writeThroughAll d
      match s.rdHome d j.asid l.host l.pa 8 with
      | .error e => .error e.jstop
      | .ok (bs, s) =>
        match s.wrHome d j.asid l.host (cellsAt l.pa (leBytes 8 (ofLe bs + 1))) ag.writer with
        | .error e => .error e.jstop
        | .ok s => .ok (s.raceUpdate ag l (fun r => r.addWriter ag.tag ag.clk false))

end Sys2Proof.Machine
end

