-- ==== Sys2Proof/Machine/GriddleMath.lean ====
section
/-! DEFINITION. The arithmetic of the Griddle: format words, the walk along K, the drain (03 R60 to R65, R76 to R80, 09 R227 to
R230, R235). -/

namespace Sys2Proof.Machine

/-! ### Format words (09 R227, R228, 03 R76) -/

/-- A format word's fields. -/
structure GFmtW where
  a : Nat
  b : Nat
  c : Nat
  asl : Nat
  bsl : Nat
  deriving DecidableEq, Repr

def GFmtW.of (x : Nat) : GFmtW := ⟨bitsN x 4 0, bitsN x 9 5, bitsN x 14 10, bitsN x 16 15, bitsN x 18 17⟩

/-- The combinations a format word may name (03 R76). -/
def comboOk (a b c : Nat) : Bool :=
  let both (lo hi : Nat) : Bool := decide (lo ≤ a) && decide (a ≤ hi) && decide (lo ≤ b) && decide (b ≤ hi)
  if c = 1 then a == 1 && b == 1
  else if c = 0 then (a == 0 && b == 0) || both 2 8 || both 0x0D 0x12 || both 0x13 0x15 || both 0x16 0x17
  else if c = 0x18 then both 9 0x0C
  else false

/-- The scale location suits the format (09 R228). -/
def scaleLocOk (ty loc : Nat) : Bool := if familyOf ty = .plain then loc == 0 else loc == 1 || loc == 2

/-- Whether a format word may be pushed (09 R228). -/
def gfmtOk (x : Nat) : Bool :=
  let F := GFmtW.of x
  x >>> 19 == 0 && decide (F.a ≤ 0x17) && decide (F.b ≤ 0x17) && comboOk F.a F.b F.c && scaleLocOk F.a F.asl && scaleLocOk F.b F.bsl

/-- ATY of an accumulator type code: 0 FP32, 1 FP64, 2 INT32 (09 R239). -/
def atyOf (c : Nat) : Nat := if c = 1 then 1 else if c = 0x18 then 2 else 0

/-! ### One step along K (03 R77 to R80) -/

/-- The part of an operand row that one step reads: elements as a number, scale bytes. -/
structure RowPart where
  el : Nat := 0
  sc : List Nat := []
  deriving DecidableEq, Repr

/-- Code of element `i` of a part. -/
def RowPart.code (r : RowPart) (ty i : Nat) : Nat := (r.el >>> (elemBits ty * i)) % 2 ^ elemBits ty

/-- The decoded value of element `i` of an MX or FB part (03 R61, R63). -/
def RowPart.blockVal (r : RowPart) (ty i : Nat) : FVal :=
  let s := r.sc.getD (i / blockLen ty) 0
  if familyOf ty = .fb then decFB ty (r.code ty i) s else decMX ty (r.code ty i) s

/-- Whether a part holds an FB block with a zero scale (03 R64). -/
def RowPart.zeroScale (r : RowPart) (ty : Nat) : Bool := familyOf ty == .fb && r.sc.any fbZeroScale

/-- A plain pair: one FMA per element in ascending k (03 R77). -/
def walkPlain (ta tb : Nat) (A : FFmt) (x y : RowPart) : List Nat → Nat × FlagSet → Nat × FlagSet
  | [], r => r
  | i :: is, (acc, fl) =>
    let a := ((floatFmt ta).getD fp32).decode (x.code ta i)
    let b := ((floatFmt tb).getD fp32).decode (y.code tb i)
    let (v, nv) := FVal.fma false a b (A.decode acc)
    let (u, f) := A.put {} v false
    walkPlain ta tb A x y is (u, fl ||| f ||| flIf nv flNV)

/-- An integer pair: exact products, the sum wraps (03 R78). -/
def walkInt (ta tb : Nat) (x y : RowPart) (is : List Nat) (acc : Nat) : Nat :=
  let val (ty c : Nat) : Int := match intFmt ty with
    | some (w, sg) => intVal w sg c
    | none => 0
  is.foldl (fun acc i => wrapN ((acc : Int) + val ta (x.code ta i) * val tb (y.code tb i)) 32) acc

/-- The exact sum of a block's products, and whether an invalid operation was performed (03 R79, R462). With a NaN term the infinities
raise nothing (log 57). -/
def exactSum (ts : List (FVal × Bool)) : FVal × Bool :=
  let nv := ts.any (·.2)
  let vs := ts.map (·.1)
  let up := vs.any (fun v => v == .inf false)
  let down := vs.any (fun v => v == .inf true)
  if vs.any FVal.isNan then (.nan false, nv)
  else if up && down then (.nan false, true)
  else if up then (.inf false, nv)
  else if down then (.inf true, nv)
  else match vs with
    | [] => (.fin false 0 0, nv)
    | v :: r => (r.foldl (fun a b => (a.add false b).1) v, nv)

/-- acc + t rounded to FP32 (03 R79). -/
def accAdd (acc : Nat) (t : FVal) : Nat × FlagSet :=
  let (v, nv) := (fp32.decode acc).add false t
  let (u, f) := fp32.put {} v false
  (u, f ||| flIf nv flNV)

/-- MX and FB pairs: one rounding per block (03 R79). -/
def walkBlocks (ta tb : Nat) (x y : RowPart) : List (List Nat) → Nat × FlagSet → Nat × FlagSet
  | [], r => r
  | blk :: bs, (acc, fl) =>
    let (t, nv) := exactSum (blk.map (fun i => (x.blockVal ta i).mul (y.blockVal tb i)))
    let (u, f) := accAdd acc t
    walkBlocks ta tb x y bs (u, fl ||| f ||| flIf nv flNV)

/-- One class of a DX block (03 R80): p and q are the selectors of A and B. -/
def dxClass (ta tb : Nat) (x y : RowPart) (is : List Nat) (p q : Bool) (r : Nat × FlagSet) : Nat × FlagSet :=
  match is.filter (fun i => dxSel ta (x.code ta i) == p && dxSel tb (y.code tb i) == q) with
  | [] => r
  | idx =>
    let c : Int := idx.foldl (fun c i =>
      let a := x.code ta i
      let b := y.code tb i
      let m : Int := (dxMag ta a * dxMag tb b : Nat)
      if dxSign ta a == dxSign tb b then c + m else c - m) 0
    let xa := x.sc.getD (b2n p) 0
    let xb := y.sc.getD (b2n q) 0
    let t : FVal := if xa = 0xFF ∨ xb = 0xFF then .nan false else (FVal.ofInt c).scale2 ((xa : Int) + xb - 254)
    let (u, f) := accAdd r.1 t
    (u, r.2 ||| f)

/-- One element of the tile over `n` elements of K, which start at a block boundary: its accumulator after, and flags. -/
def gmmaWalk (F : GFmtW) (n : Nat) (x y : RowPart) (acc : Nat) : Nat × FlagSet :=
  let is := List.range n
  match familyOf F.a with
  | .plain =>
    if F.c = 0x18 then (walkInt F.a F.b x y is acc, 0)
    else walkPlain F.a F.b (if F.c = 1 then fp64 else fp32) x y is (acc, 0)
  | .dx =>
    let r := dxClass F.a F.b x y is false false (acc, 0)
    let r := dxClass F.a F.b x y is false true r
    let r := dxClass F.a F.b x y is true false r
    dxClass F.a F.b x y is true true r
  | _ =>
    let len := blockLen F.a
    walkBlocks F.a F.b x y ((List.range (ceilDiv n len)).map (fun b => is.filter (fun i => i / len == b))) (acc, 0)

/-! ### The drain (09 R234, R235, R237) -/

/-- The steps of a drain that are enabled, with what each reads for one element. -/
structure DrainIn where
  row : Option Nat := none
  col : Option Nat := none
  ts : Option Nat := none
  bias : Option Nat := none
  old : Option FVal := none
  clamp : Option (Nat × Nat) := none
  deriving DecidableEq, Repr

/-- x op y rounded to FP32 under RNE. -/
def stepF (op : FVal → FVal → FVal × Bool) (x : Nat) (y : FVal) : Nat × FlagSet :=
  let (v, nv) := op (fp32.decode x) y
  let (u, f) := fp32.put {} v false
  (u, f ||| flIf nv flNV)

def stepOpt (o : Option FVal) (op : FVal → FVal → FVal × Bool) (r : Nat × FlagSet) : Nat × FlagSet :=
  match o with
  | none => r
  | some y => let (u, f) := stepF op r.1 y; (u, r.2 ||| f)

/-- Max(CLO, Min(x, CHI)) of a value that is not a NaN; SAT when it changes x. -/
def clampF (lo hi : Nat) (r : Nat × FlagSet) : Nat × FlagSet :=
  if (fp32.decode r.1).isNan then r
  else
    let u := (fp32.minMax true lo (fp32.minMax false r.1 hi).1).1
    (u, r.2 ||| flIf (u != r.1) flSAT)

/-- What is written for an accumulator of type `aty` (09 R235): to FP64 the conversion widens, which keeps an infinity whatever DSAT says (03
R74). -/
def drainElem (aty dty : Nat) (md : RMode) (dsat : Bool) (i : DrainIn) (x : Nat) : Nat × FlagSet :=
  let out (F : FFmt) (r : Nat × FlagSet) : Nat × FlagSet :=
    match floatFmt dty with
    | some D =>
      if D = F then r
      else let (u, f) := D.conv { md := md, satf := dsat && D != fp64 } (F.decode r.1) false; (u, r.2 ||| f)
    | none => r
  if aty = 1 then out fp64 (x, 0)
  else match intFmt dty with
  | some (w, sg) =>
    let (u, ch) := intClamp w sg (intVal 32 true x)
    (u, flIf ch flSAT)
  | none =>
    let r : Nat × FlagSet := if aty = 2 then fp32.put {} (FVal.ofInt (intVal 32 true x)) false else (x, 0)
    let code (o : Option Nat) : Option FVal := o.map fp32.decode
    let r := stepOpt (code i.row) FVal.mul r
    let r := stepOpt (code i.col) FVal.mul r
    let r := stepOpt (code i.ts) FVal.mul r
    let r := stepOpt (code i.bias) (FVal.add false) r
    let r := stepOpt i.old (FVal.add false) r
    let r := match i.clamp with
      | some (lo, hi) => clampF lo hi r
      | none => r
    out fp32 r

/-- The destination types of a drain (09 R237). -/
def drainTy (ty : Nat) : Bool := decide (ty ≤ 0x0C) || ty == 0x18 || ty == 0x1A

end Sys2Proof.Machine
end

