-- ==== Sys2Proof/Machine/Slabs.lean ====
section
/-! DEFINITION. Slabs: plates, places, sets as they will stand, leases and their grants, the command queue, freeing (09 R212 to
R222, R226, R241, R242). -/

namespace Sys2Proof.Machine

open Sys2Proof

/-! ### Plates (09 R212 to R215) -/

/-- The plates of a rectangle: 16 × row + column. -/
def rectPlates (lh lw y x : Nat) : List Nat :=
  (List.range (2 ^ lh)).flatMap (fun i => (List.range (2 ^ lw)).map (fun j => 16 * (y + i) + (x + j)))

def Slab.plates (b : Slab) : List Nat := rectPlates b.lh b.lw b.y0 b.x0

/-- Whether a plate belongs to a slab of the die. -/
def Die.inSlab (D : Die) (p : Nat) : Bool := D.slabs.any (fun e => e.2.plates.contains p)

/-- The available-plate map: a pending plate leaves it when no slab contains it any longer (09 R214), and is available while it is under
test (17 R432). -/
def Die.available (D : Die) (p : Nat) : Bool :=
  !D.retired.getLsbD p && (!D.pendRet.getLsbD p || D.inSlab p || D.underTest.getLsbD p)

def Die.freePlate (D : Die) (p : Nat) : Bool := D.available p && !D.inSlab p && !D.underTest.getLsbD p

/-- The plates a launch's slabs hold on a die, and its quota (09 R215, 13 R322). -/
def Die.platesHeld (D : Die) (l : Nat) : Nat := (D.slabs.filter (fun e => e.2.launch == l)).foldl (fun n e => n + 2 ^ (e.2.lh + e.2.lw)) 0
def State.plateQuota (s : State) (l : Nat) : Nat := ((s.launch? l).map (fun L => fld (L.pkt.getD 0 0) 44 36)).getD 0

/-! ### Requests and references (09 R215, R216) -/

structure SlabReq where
  lh : Nat
  lw : Nat
  fix : Bool
  y : Nat
  x : Nat
  deriving DecidableEq, Repr

/-- A request word, or GRIDDLE-ARG. -/
def slabReq (r : DWord) : Except Stop SlabReq :=
  let q : SlabReq := ⟨fld r 2 0, fld r 5 3, r.getLsbD 6, fld r 10 7, fld r 14 11⟩
  if fld r 63 15 ≠ 0 ∨ 4 < q.lh ∨ 4 < q.lw ∨ (q.fix ∧ (q.y % 2 ^ q.lh ≠ 0 ∨ q.x % 2 ^ q.lw ≠ 0)) then
    .error (trapC Code.griddleArg)
  else .ok q

/-- The aligned origins of a size, ascending y, then ascending x. -/
def origins (lh lw : Nat) : List (Nat × Nat) :=
  (List.range (16 / 2 ^ lh)).flatMap (fun i => (List.range (16 / 2 ^ lw)).map (fun j => (i * 2 ^ lh, j * 2 ^ lw)))

/-- A reference that says why there is no slab. -/
def srefFail (code lmask : Nat) : DWord := dw (2 ^ 63 + place lmask 4 8 + code)

/-- The slab an SREF names on the issuing die, or BAD-SLAB (09 R216). -/
def State.needSlab (s : State) (k : Nat) (sref : DWord) : Except Stop (Nat × Slab) :=
  match s.slabOf (dieOf k) (s.sk k).info.launch sref with
  | some r => .ok r
  | none => .error (trapC Code.badSlab)

/-! ### Sets (09 R213, R217) -/

def Slab.aset (b : Slab) (i : Nat) : ASet := Tbl.look {} b.sets i
def Slab.putSet (b : Slab) (i : Nat) (a : ASet) : Slab := { b with sets := Tbl.put b.sets i a }

/-- Element (m, n) of a set, as its code. -/
def ASet.el (a : ASet) (m n : Nat) : Nat := (Tbl.look 0 a.data (2048 * m + n)).toNat

/-- The largest tile of a geometry for a type. -/
def maxM (lh : Nat) : Nat := 64 * 2 ^ lh
def maxN (lw aty : Nat) : Nat := (if aty = 0 then 64 else 32) * 2 ^ lw

/-- M and N of a GMMA card, and K and ACC (09 R229). -/
def gmM (c : List DWord) : Nat := fld (cdw c 13) 10 0
def gmN (c : List DWord) : Nat := fld (cdw c 13) 26 16
def gmK (c : List DWord) : Nat := fld (cdw c 13) 56 32
def gmAcc (c : List DWord) : Bool := (cdw c 13).getLsbD 63
/-- M, N, DTY and KEEP of a GDRAIN card (09 R234). -/
def gdM (c : List DWord) : Nat := fld (cdw c 14) 42 32
def gdN (c : List DWord) : Nat := fld (cdw c 14) 58 48
def gdTy (c : List DWord) : Nat := fld (cdw c 10) 45 41
def gdKeep (c : List DWord) : Bool := (cdw c 10).getLsbD 52

/-- A set that a KEEP = 1 drain or a GSAVE has written out (09 R217). -/
def savedOut (x : SetState × Nat) : SetState × Nat := if x.1 = .live then (.clean, x.2) else x

/-- State and type a job leaves set `set` in, from those before it, none where they are not known before the job has run: a GREST takes them
from its image, and a GRESHAPE empties a set or leaves it, which is known where it is EMPTY, or LIVE and so kept (09 R217, R241). -/
def Job.after (j : Job) (set : Nat) (x : Option (SetState × Nat)) : Option (SetState × Nat) :=
  if j.kind = .greshape then x.filter (fun y => y.1 != .clean)
  else if j.set ≠ set then x
  else match j.kind with
  | .gmma =>
    if gmM j.card = 0 ∨ gmN j.card = 0 then x
    else if gmAcc j.card ∧ gmK j.card = 0 then x.map (fun y => if y.1 = .empty then y else (.live, atyOf (GFmtW.of j.fmt.toNat).c))
    else some (.live, atyOf (GFmtW.of j.fmt.toNat).c)
  | .gdrain => if gdKeep j.card then x.map savedOut else some (.empty, 3)
  | .gzero => some (.empty, 3)
  | .gsave => x.map savedOut
  | _ => none

/-- State and type of a set once every accepted command has completed; none while a queued GREST or GRESHAPE leaves them unknown (09
R217). -/
def State.setAhead (s : State) (d : Nat) (b : Slab) (set : Nat) : Option (SetState × Nat) :=
  let a := b.aset set
  b.queue.foldl (fun x w => match s.job? d w with
    | some j => j.after set x
    | none => x) (some (a.st, a.aty))

/-! ### Leases (09 R218 to R222) -/

/-- The lease a Skillet's task has on a slab: held, or saved and not yet granted again. -/
structure LView where
  set : Nat
  fmts : List DWord
  held : Bool
  deriving DecidableEq, Repr

/-- Whether a saved lease names slab `i` of die `d` in its present generation. -/
def SavedLease.names (l : SavedLease) (d i : Nat) (b : Slab) : Bool :=
  fld l.sref 7 6 == d && fld l.sref 5 0 == i && fld l.sref 29 22 == b.gen

def State.leaseView (s : State) (k i : Nat) (b : Slab) : Option LView :=
  match b.lease.filter (fun l => l.sk == k) with
  | some l => some ⟨l.set, l.fmts, true⟩
  | none => ((s.sk k).info.saved.find? (fun l => l.names (dieOf k) i b)).map (fun l => ⟨l.set, l.fmts, false⟩)

/-- NO-LEASE, or the lease (09 R224). -/
def State.needLease (s : State) (k i : Nat) (b : Slab) : Except Stop LView :=
  match s.leaseView k i b with
  | some v => .ok v
  | none => .error (trapC Code.noLease)

/-- Leases a Skillet holds, waits for, or has saved. -/
def State.leaseCount (s : State) (k : Nat) : Nat :=
  ((s.die (dieOf k)).slabs.filter (fun e => match e.2.lease with
    | some l => l.sk == k
    | none => false)).length + (s.sk k).info.saved.length

/-- The waiter whose turn it is: the first in the order P + 1, P + 2, … (09 R220) of those that wait since an earlier cycle, so that
requests of one cycle meet (R245). -/
def Slab.nextWaiter (b : Slab) (now : Nat) : Option LWait :=
  (List.range 32).findSome? (fun n => b.waiters.find? (fun w => w.sk % 32 == (b.ptr + 1 + n) % 32 && decide (w.since < now)))

/-- The waiter that a free slab is granted to: a slab being freed is granted to none (09 R220, R242). -/
def Slab.granted (b : Slab) (now : Nat) : Option LWait := if b.lease.isNone && !b.closing then b.nextWaiter now else none

/-- A waiter takes the lease. -/
def State.giveLease (s : State) (d i : Nat) (w : LWait) : State :=
  s.updSlab d i (fun b =>
    { b with lease := some ⟨w.sk, w.set, w.budget, w.fmts, s.now⟩, ptr := w.sk % 32, waiters := b.waiters.filter (· != w) })

/-- Grants a free slab to its next waiter: a saved lease comes back, a stalled GLEASE retires (09 R220, R221). -/
def State.grant (s : State) (d i : Nat) : State :=
  match Tbl.find (s.die d).slabs i with
  | none => s
  | some b =>
    match b.granted s.now with
    | none => s
    | some w =>
      let s := s.giveLease d i w
      if w.saved then s.onInfo w.sk (fun t => { t with saved := t.saved.filter (fun l => !l.names d i b) })
      else match (s.tk w.sk).cmd with
        | some (.grant _ r) => (s.onTk w.sk (fun t => { t with cmd := none })).retire w.sk .C 8 r.tok
        | _ => s

/-- One unit of the budget is used; the last ends the lease (09 R219). -/
def Slab.spend (b : Slab) (now : Nat) : Slab :=
  match b.lease with
  | none => b
  | some l => { b with lease := if l.budget ≤ 1 then none else some { l with budget := l.budget - 1, idle := now } }

/-! ### The command queue (09 R226) -/

/-- A job enters its slab's queue, if the queue and the window have room and the Skillet holds the lease: its unit of budget,
and a GMMA's format word, are used. Answers the window entry. -/
def State.acceptGriddle (s : State) (k : Nat) (j : Job) : Option (Nat × State) :=
  let d := dieOf k
  match Tbl.find (s.die d).slabs j.slab, s.freeWin d with
  | some b, some w =>
    match b.lease with
    | none => none
    | some l =>
      if l.sk = k ∧ b.queue.length < 32 ∧ !b.closing then
        let fmts := if j.kind = .gmma then l.fmts.tail else l.fmts
        let s := s.putJob d w { j with fmt := if j.kind = .gmma then l.fmts.headD 0 else j.fmt }
        some (w, s.updSlab d j.slab (fun b => ({ b with queue := b.queue ++ [w], lease := some { l with fmts := fmts } } : Slab).spend s.now))
      else none
  | _, _ => none

/-- The head job of a slab: its window entry and itself. -/
def State.headJob (s : State) (d i : Nat) : Option (Nat × Slab × Job) :=
  match Tbl.find (s.die d).slabs i with
  | none => none
  | some b => match b.queue.head? with
    | none => none
    | some w => (s.job? d w).map (fun j => (w, b, j))

/-! ### Freeing (09 R216, R242) -/

/-- A command stalled on a slab of die `d` raises BAD-SLAB: a GLEASE when the slab goes, a command that waits to be accepted when the
slab accepts no more (09 R242). -/
def State.failStalled (s : State) (d : Nat) (p : PendCmd → Bool) : State :=
  ((List.range 32).map (32 * d + ·)).foldl (fun s k =>
    if (s.sk k).busy && (match (s.tk k).cmd with
      | some c => p c
      | none => false)
    then ((s.onTk k (fun t => { t with cmd := none })).turnOver k true).raise k .C { code := Code.badSlab } else s) s

/-- Whether a command waits for acceptance into slab `i`'s queue. -/
def PendCmd.toSlab (i : Nat) : PendCmd → Bool
  | .accept _ j _ => j.kind.griddle && j.slab == i
  | _ => false

/-- Whether a command is a GLEASE stalled on slab `i`. -/
def PendCmd.onSlab (i : Nat) : PendCmd → Bool
  | .grant n _ => n == i
  | _ => false

/-- A slab goes: its lease and every waiting request and saved lease with it; a GLEASE stalled on it raises BAD-SLAB. -/
def State.freeSlab (s : State) (d i : Nat) : State :=
  match Tbl.find (s.die d).slabs i with
  | none => s
  | some b =>
    let drop (t : TaskInfo) : TaskInfo := { t with saved := t.saved.filter (fun l => !l.names d i b) }
    let s := s.updDie d (fun D => { D with slabs := Tbl.del D.slabs i })
    let s : State := { s with sks := s.sks.map (fun (k, x) => (k, x.onInfo drop)) }
    let s : State := { s with saved := s.saved.map (fun (n, v) => (n, { v with info := drop v.info })) }
    s.failStalled d (fun c => c.toSlab i || c.onSlab i)

/-- A GRESHAPE acts: the reference it gives, and the slab after (09 R241). -/
def State.reshape (s : State) (d i : Nat) (b : Slab) (q : SlabReq) : DWord × Slab :=
  let D := s.die d
  let live := ((List.range 4).filter (fun n => (b.aset n).st == .live)).foldl (fun m n => m + 2 ^ n) 0
  let cands := if q.fix then [(q.y, q.x)]
    else (b.y0 / 2 ^ q.lh * 2 ^ q.lh, b.x0 / 2 ^ q.lw * 2 ^ q.lw) :: origins q.lh q.lw
  let fits (c : Nat × Nat) : Bool :=
    (rectPlates q.lh q.lw c.1 c.2).all (fun p => D.available p && (D.freePlate p || b.plates.contains p))
  if live ≠ 0 then (srefFail 0x10 live, b)
  else if s.plateQuota b.launch < D.platesHeld b.launch - 2 ^ (b.lh + b.lw) + 2 ^ (q.lh + q.lw) then (srefFail 3 0, b)
  else match cands.find? fits with
  | none => (srefFail 1 0, b)
  | some (y, x) =>
    let b' := { b with lh := q.lh, lw := q.lw, y0 := y, x0 := x, sets := [] }
    let b' := { b' with pr := b'.plates.any (fun p => D.pendRet.getLsbD p) }
    (b'.sref d i, b')

end Sys2Proof.Machine
end

