-- ==== Sys2Proof/Machine/GriddleCmd.lean ====
section
/-! DEFINITION. The Griddle commands (09 R215 to R243): each makes the checks of R224 in their order, then acts or waits. -/

namespace Sys2Proof.Machine

open Sys2Proof

/-- Writes a command's result register. -/
def State.result (s : State) (k : Nat) (r : BitVec 6) (x : DWord) : State := s.onTk k (fun t => t.setS r x)

/-! ### Slabs -/

/-- GALLOC's search and creation (09 R215): what sd receives, and the state after. -/
def State.galloc (s : State) (k : Nat) (q : SlabReq) : DWord × State :=
  let d := dieOf k
  let D := s.die d
  let l := (s.sk k).info.launch
  let cands := if q.fix then [(q.y, q.x)] else origins q.lh q.lw
  if s.plateQuota l < D.platesHeld l + 2 ^ (q.lh + q.lw) then (srefFail 3 0, s)
  else match (List.range 64).find? (fun i => (Tbl.find D.slabs i).isNone) with
  | none => (srefFail 2 0, s)
  | some i =>
    match cands.find? (fun c => (rectPlates q.lh q.lw c.1 c.2).all D.freePlate) with
    | none => (srefFail 1 0, s)
    | some (y, x) =>
      let g := (Tbl.look 0 D.slabGen i + 1) % 256
      let b : Slab := { gen := g, lh := q.lh, lw := q.lw, y0 := y, x0 := x, launch := l }
      (b.sref d i, s.updDie d (fun D => { D with slabs := Tbl.put D.slabs i b, slabGen := Tbl.put D.slabGen i g }))

def execGalloc (f : LW) (s : State) : Out :=
  cLong f false false (fun k s => do
    let q ← slabReq ((s.tk k).getS f.a)
    let s ← s.stampGate k f.stamp
    let (x, s) := s.galloc k q
    .ok (s.result k f.d x)) s

/-- GFREE: an issue that follows its own acceptance goes on waiting (09 R242). -/
def execGfree (f : LW) (s : State) : Out :=
  cLong f false false (fun k s => do
    let sref := (s.tk k).getS f.a
    let own := (Tbl.find (s.die (dieOf k)).slabs (fld sref 5 0)).map (fun b =>
      b.closing && b.freer == (s.sk k).info.id && b.gen == fld sref 29 22 && !sref.getLsbD 63 && fld sref 7 6 == dieOf k)
    let i ← if own = some true then .ok (fld sref 5 0) else (s.needSlab k sref).map (·.1)
    match Tbl.find (s.die (dieOf k)).slabs i with
    | none => .error (trapC Code.badSlab)
    | some b => do
      need (b.closing || match s.leaseView k i b with
        | some v => v.held
        | none => true) (.wait false)
      let s ← if b.closing then .ok s else s.stampGate k f.stamp
      if b.queue.isEmpty then .ok ((s.freeSlab (dieOf k) i).onTk k (fun t => { t with cmd := none }))
      else
        let s := (s.updSlab (dieOf k) i (fun b => { b with closing := true, freer := (s.sk k).info.id })).failStalled (dieOf k) (·.toSlab i)
        .error (.park (s.onTk k (fun t => { t with cmd := some (.free i ⟨f.d, f.tok⟩) })))) s

/-- GRESHAPE acts once it stands alone at the head of the queue: what sd receives (09 R241). -/
def State.actReshape (s : State) (k i w : Nat) (r : BitVec 6) : Option State :=
  match s.headJob (dieOf k) i with
  | some (w', b, j) =>
    if w' = w then
      match slabReq j.fmt with
      | .error _ => none
      | .ok q =>
        let (x, b') := s.reshape (dieOf k) i b q
        some (((s.updSlab (dieOf k) i (fun _ => b')).dropJob (dieOf k) w).result k r x)
    else none
  | none => none

/-- An accepted GRESHAPE acts and retires once it may. -/
def State.awaitReshape (s : State) (k i w : Nat) (r : Ret) : Act :=
  match s.actReshape k i w r.d with
  | some s => .ok (s.onTk k (fun t => { t with cmd := none }))
  | none => .error (.park (s.onTk k (fun t => { t with cmd := some (.act i w r) })))

/-- The accepted GRESHAPE of a task that a trap or a save has taken from its C-engine: back at its address the engine waits on it
again, and submits no second one (09 R226, R245). -/
def State.ownReshape (s : State) (k : Nat) : Option (Nat × Nat) :=
  let x := s.sk k
  ((s.die (dieOf k)).window.find? (fun e =>
    e.2.kind == .greshape && e.2.tid == x.info.id && e.2.hm == x.handler.isSome && e.2.rec1 == [x.t.c.pc.setWidth 64])).map (fun e =>
      (e.2.slab, e.1))

/-- A job enters the window of its die, and its slab's queue where it is of the Griddle, if they have room (09 R226, 10 R247). -/
def State.acceptJob (s : State) (k e : Nat) (j : Job) : Option (Nat × State) :=
  if j.kind.griddle then s.acceptGriddle k j else s.acceptCopy e j

/-- What an accepted command goes on to: its job's id, or for a GRESHAPE its turn in the queue (09 R226, R241). -/
def State.accepted (s : State) (k e w : Nat) (j : Job) (r : Ret) : Act :=
  let s := s.onTk k (fun t => { t with cmd := none })
  if j.kind = .greshape then s.awaitReshape k j.slab w r else .ok (s.giveId k r.d e w)

/-- Submits a job that has passed its checks, or parks its command until there is room or the lease has come back (09 R224). -/
def State.submitTo (s : State) (k e : Nat) (j : Job) (r : Ret) : Act :=
  match s.acceptJob k e j with
  | some (w, s) => s.accepted k e w j r
  | none => parkAccept s k e j r

/-- A command that waits for acceptance tries again; it is not checked again (09 R224, 10 R262). -/
def State.retryAccept (s : State) (k e : Nat) (j : Job) (stamp : BitVec 16) (r : Ret) : Act := do
  let s ← s.stampGate k stamp
  match s.acceptJob k e j with
  | some (w, s) => s.accepted k e w j r
  | none => .error (.wait false)

/-- The same, for the slab queues of the issuing die. -/
def State.submitGriddle (s : State) (k : Nat) (j : Job) (r : Ret) : Act := s.submitTo k (dieOf k) j r

def execGreshape (f : LW) (s : State) : Out :=
  cLong f false true (fun k s => do
    let t := s.tk k
    match t.cmd with
    | some (.act i w r) => s.awaitReshape k i w r
    | some (.accept e j r) => s.retryAccept k e j f.stamp r
    | _ =>
      match s.ownReshape k with
      | some (i, w) => s.awaitReshape k i w ⟨f.d, f.tok⟩
      | none => do
        let (i, b) ← s.needSlab k (t.getS f.a)
        let _ ← slabReq (t.getS f.b)
        let v ← s.needLease k i b
        let s ← s.stampGate k f.stamp
        s.submitGriddle k { (s.newJob k .greshape []) with slab := i, set := v.set, fmt := t.getS f.b, rec1 := [t.c.pc.setWidth 64] }
          ⟨f.d, f.tok⟩) s

/-! ### Leases and format words -/

/-- GLEASE joins the round-robin of its slab and retires at the grant, which comes in a later cycle than the request (09 R218, R220,
R245). -/
def execGlease (f : LW) (s : State) : Out :=
  cLong f false false (fun k s => do
    let t := s.tk k
    let (i, b) ← s.needSlab k (t.getS f.a)
    let r := t.getS f.b
    match t.cmd with
    | some (.grant _ _) =>
      match b.granted s.now with
      | some w => if w.sk = k then .ok ((s.giveLease (dieOf k) i w).onTk k (fun t => { t with cmd := none })) else .error (.wait false)
      | none => .error (.wait false)
    | _ => do
      need (fld r 63 11 == 0 && fld r 3 2 == 0 && decide (fld r 10 4 ≤ 64)) (trapC Code.griddleArg)
      need ((s.leaseView k i b).isNone && decide (s.leaseCount k < 4)) (trapC Code.griddleArg)
      let s ← s.stampGate k f.stamp
      let bud := if fld r 10 4 = 0 then 16 else fld r 10 4
      let s := s.updSlab (dieOf k) i (fun b => { b with waiters := b.waiters ++ [⟨k, fld r 1 0, bud, [], false, s.now⟩] })
      .error (.park (s.onTk k (fun t => { t with cmd := some (.grant i ⟨f.d, f.tok⟩) })))) s

def execGrel (f : LW) (s : State) : Out :=
  cLong f false false (fun k s => do
    let (i, b) ← s.needSlab k ((s.tk k).getS f.a)
    need ((s.leaseView k i b).isSome || b.waiters.any (fun w => w.sk == k)) (trapC Code.noLease)
    let s ← s.stampGate k f.stamp
    let s := s.updSlab (dieOf k) i (fun b =>
      { b with lease := b.lease.filter (fun l => l.sk != k), waiters := b.waiters.filter (fun w => w.sk != k) })
    .ok (s.onInfo k (fun x => { x with saved := x.saved.filter (fun l => !l.names (dieOf k) i b) }))) s

def execGfmt (f : LW) (s : State) : Out :=
  cLong f false false (fun k s => do
    let t := s.tk k
    let (i, b) ← s.needSlab k (t.getS f.a)
    let v ← s.needLease k i b
    need (gfmtOk (t.getS f.b).toNat) (trapC Code.badFormat)
    need (decide (v.fmts.length < 16)) (trapC Code.formatOverflow)
    need v.held (.wait false)
    let s ← s.stampGate k f.stamp
    .ok (s.updSlab (dieOf k) i (fun b => { b with lease := b.lease.map (fun l => { l with fmts := l.fmts ++ [t.getS f.b] }) }))) s

/-! ### Jobs -/

/-- A misaligned address of a card, or stride: the report names the base. -/
def alignTo (n : Nat) (as : List (DWord × DWord)) : Except Stop Unit :=
  match as.find? (fun e => e.1.toNat % n != 0) with
  | some e => .error (trapA Code.misaligned e.2)
  | none => .ok ()


/-- Bytes that elements of a type are aligned to. -/
def elemAlign (ty : Nat) : Nat := max 1 (elemBits ty / 8)

/-- The checks of a GMMA card alone (09 R225, R229, R231). -/
def gmmaCardOk (c : List DWord) : Bool :=
  headerOk c && [9, 11, 14, 15].all (fun i => fld (cdw c i) 63 56 == 0) && fld (cdw c 13) 62 57 == 0 && fld (cdw c 13) 31 27 == 0
    && fld (cdw c 13) 15 11 == 0 && decide (gmK c ≤ 2 ^ 24)

/-- M and N lie inside the largest tile (09 R213, R231, R237). -/
def Slab.tileOk (b : Slab) (aty m n : Nat) : Bool := decide (m ≤ maxM b.lh) && decide (n ≤ maxN b.lw aty)

/-- GMMA. Where a queued GREST or GRESHAPE leaves the set's state unknown, the command waits unaccepted and is checked again. DESIGN CHOICE
(log 60): the checks of ACC-TYPE and GRIDDLE-SHAPE need that state, and R224 names no such wait. -/
def execGmma (f : LW) (s : State) : Out :=
  cLong f false true (fun k s => do
    let t := s.tk k
    match t.cmd with
    | some (.accept e j r) => s.retryAccept k e j f.stamp r
    | _ => do
      let (i, b) ← s.needSlab k (t.getS f.a)
      let v ← s.needLease k i b
      let c ← cardAt t (t.getS f.b)
      need (gmmaCardOk c) (trapC Code.badCard)
      s.cardSync k c
      match v.fmts with
      | [] => .error (trapC Code.formatUnderflow)
      | w :: _ => do
        let F := GFmtW.of w.toNat
        alignTo (elemAlign F.a) [(caddr c 9, caddr c 9), (dw (fld (cdw c 10) 39 0), caddr c 9)]
        alignTo (elemAlign F.b) [(caddr c 11, caddr c 11), (dw (fld (cdw c 12) 39 0), caddr c 11)]
        need (b.tileOk (atyOf F.c) (gmM c) (gmN c)) (trapC Code.griddleShape)
        match s.setAhead (dieOf k) b v.set with
        | none => .error (.wait false)
        | some (st, aty) => do
          need (st == .empty || aty == atyOf F.c) (trapC Code.accType)
          let s ← s.stampGate k f.stamp
          s.submitGriddle k { (s.newJob k .gmma c) with slab := i, set := v.set } ⟨f.d, f.tok⟩) s

/-- The checks of a GDRAIN card alone, for a set of the type given (09 R225, R234, R237). -/
def gdrainCardOk (c : List DWord) (st : SetState) (aty : Nat) : Bool :=
  let x := cdw c 10
  let ty := gdTy c
  let steps := (List.range 7).any (fun n => n != 2 && x.getLsbD (50 + n))
  let int := (intFmt ty).isSome
  headerOk c && [9, 11, 12, 13].all (fun i => fld (cdw c i) 63 56 == 0) && fld x 63 57 == 0
    && fld (cdw c 14) 63 59 == 0 && fld (cdw c 14) 47 43 == 0 && drainTy ty && decide (fld x 48 46 ≤ 4)
    && (st == .empty || ((aty != 1 || decide (ty ≤ 1)) && !(steps && aty == 1) && !(int && aty == 0)))
    && !(steps && int)
    && (!x.getLsbD 51 || (let lo := fp32.decode (fld (cdw c 15) 31 0)
          let hi := fp32.decode (fld (cdw c 15) 63 32)
          !lo.isNan && !hi.isNan && decide (lo.cmp hi ≤ 0)))

/-- The first row of a range of the scratchpad that does not lie inside it. -/
def scrRowsBad (base stride : Int) (rows bytes : Nat) : Option Int :=
  if bytes = 0 then none
  else ((List.range rows).map (fun (m : Nat) => base + m * stride)).find? (fun o => decide (o < 0 ∨ (scrSize : Int) < o + bytes))

/-- A signed 40-bit stride. -/
def stride40 (x : DWord) : Int := signExt (fld x 39 0) 40

/-- GDRAIN, which waits as GMMA does where its set's state is not known (log 60). -/
def execGdrain (f : LW) (s : State) : Out :=
  cLong f false true (fun k s => do
    let t := s.tk k
    match t.cmd with
    | some (.accept e j r) => s.retryAccept k e j f.stamp r
    | _ => do
      let (i, b) ← s.needSlab k (t.getS f.a)
      let v ← s.needLease k i b
      let c ← cardAt t (t.getS f.b)
      match s.setAhead (dieOf k) b v.set with
      | none => .error (.wait false)
      | some (st, aty) => do
        need (gdrainCardOk c st aty) (trapC Code.badCard)
        s.cardSync k c
        let x := cdw c 10
        let ty := gdTy c
        match (if x.getLsbD 40 then scrRowsBad (caddr c 9).toNat (stride40 x) (gdM c) ((gdN c * elemBits ty + 7) / 8) else none) with
        | some o => .error (trapA Code.scratchBound (wrapD o))
        | none => do
          alignTo (elemAlign ty) [(caddr c 9, caddr c 9), (dw (fld x 39 0), caddr c 9)]
          alignTo 4 ((if x.getLsbD 53 then [(caddr c 11, caddr c 11)] else []) ++ (if x.getLsbD 54 then [(caddr c 12, caddr c 12)] else [])
            ++ (if x.getLsbD 55 then [(caddr c 13, caddr c 13)] else []))
          let at_ := if st = .empty then (if (intFmt ty).isSome then 2 else 0) else aty
          need (b.tileOk at_ (gdM c) (gdN c)) (trapC Code.griddleShape)
          let s ← s.stampGate k f.stamp
          s.submitGriddle k { (s.newJob k .gdrain c) with slab := i, set := v.set } ⟨f.d, f.tok⟩) s

def execGzero (f : LW) (s : State) : Out :=
  cLong f false true (fun k s => do
    let t := s.tk k
    match t.cmd with
    | some (.accept e j r) => s.retryAccept k e j f.stamp r
    | _ => do
      let (i, b) ← s.needSlab k (t.getS f.a)
      let v ← s.needLease k i b
      let s ← s.stampGate k f.stamp
      s.submitGriddle k { (s.newJob k .gzero []) with slab := i, set := v.set } ⟨0, f.tok⟩) s

/-- Bytes of an accumulator image (09 R239). -/
def imageLen (lh lw : Nat) : Nat := 64 + 16384 * 2 ^ lh * 2 ^ lw

/-- GSAVE and GREST (09 R240). -/
def imageCmd (kind : JobKind) (f : LW) (s : State) : Out :=
  cLong f false true (fun k s => do
    let t := s.tk k
    match t.cmd with
    | some (.accept e j r) => s.retryAccept k e j f.stamp r
    | _ => do
      let (i, b) ← s.needSlab k (t.getS f.a)
      let v ← s.needLease k i b
      let c ← cardAt t (t.getS f.b)
      need (headerOk c && fld (cdw c 9) 63 56 == 0 && fld (cdw c 10) 63 1 == 0 && [11, 12, 13, 14, 15].all (fun n => cdw c n == 0))
        (trapC Code.badCard)
      s.cardSync k c
      need (!(cdw c 10).getLsbD 0 || decide ((caddr c 9).toNat + imageLen b.lh b.lw ≤ scrSize)) (trapA Code.scratchBound (caddr c 9))
      alignTo 64 [(caddr c 9, caddr c 9)]
      let s ← s.stampGate k f.stamp
      s.submitGriddle k { (s.newJob k kind c) with slab := i, set := v.set } ⟨f.d, f.tok⟩) s

def execGsave (f : LW) (s : State) : Out := imageCmd .gsave f s
def execGrest (f : LW) (s : State) : Out := imageCmd .grest f s

/-! ### Status (09 R243) -/

def SetState.num : SetState → Nat
  | .empty => 0 | .clean => 1 | .live => 2

/-- The slab status word. -/
def Slab.status (b : Slab) : DWord :=
  let two (g : ASet → Nat) : Nat := (List.range 4).foldl (fun a i => a + g (b.aset i) * 4 ^ i) 0
  dw (place (b2n b.pr) 1 28 + place (b2n b.sat) 1 27 + place (b2n b.of) 1 26 + place (b2n b.nv) 1 25 + place (b2n b.zs) 1 24
    + place (b2n b.abort) 1 23 + place (b2n b.halt) 1 22 + place b.queue.length 6 16
    + place (two (fun a => if a.st = .empty then 3 else a.aty)) 8 8 + two (fun a => a.st.num))

/-- Four rows of a plate map from row `y`. -/
def plateRows (p : Nat → Bool) (y : Nat) : DWord := dw ((List.range 64).foldl (fun a i => a + b2n (p (16 * y + i)) * 2 ^ i) 0)

/-- The lease word. -/
def Slab.leaseWord (b : Slab) : DWord :=
  let w := place b.waiters.length 5 16
  match b.lease with
  | some l => dw (place (l.sk % 32) 5 0 + place 1 1 5 + place l.set 2 6 + place l.budget 7 8 + w)
  | none => dw w

def execGstat (f : LW) (s : State) : Out :=
  cLong f false false (fun k s => do
    let t := s.tk k
    let x := t.getS f.b
    let sel := fld x 3 0
    let D := s.die (dieOf k)
    let sl ← if sel = 0 ∨ sel = 1 ∨ sel = 10 then (s.needSlab k (t.getS f.a)).map some else .ok none
    need (decide (sel ≤ 10) && fld x 63 9 == 0 && fld x 7 4 == 0 && (!x.getLsbD 8 || sel == 0)) (trapC Code.griddleArg)
    let s ← s.stampGate k f.stamp
    match sl with
    | none => .ok (s.result k f.d (if sel ≤ 5 then plateRows D.available (4 * (sel - 2)) else plateRows D.freePlate (4 * (sel - 6))))
    | some (i, b) =>
      match sel with
      | 0 =>
        let s := s.result k f.d b.status
        .ok (if x.getLsbD 8 then
            s.updSlab (dieOf k) i (fun b => { b with sat := false, of := false, nv := false, zs := false, abort := false })
          else s)
      | 1 => .ok (s.result k f.d (dw (b.rp % 2 ^ 25)))
      | _ => .ok (s.result k f.d b.leaseWord)) s

end Sys2Proof.Machine
end

