-- ==== Sys2Proof/Machine/ColanderCmd.lean ====
section
/-! DEFINITION. The Colander commands: CPY, CPYG, CPYS, CPYR, CWAIT, CTEST (10 R261 to R268). -/

namespace Sys2Proof.Machine

open Sys2Proof

/-- An async-style stop of a job's access, as the command that makes it raises it (10 R252). -/
def JStop.precise : JStop → Stop
  | .fault r => .trap r
  | .mc kind pa => .mc kind pa
  | .after _ r => .trap r

def liftJ {α : Type} : Except JStop α → Except Stop α
  | .ok x => .ok x
  | .error e => .error e.precise

/-- Check 4: the card's own fields (10 R253, R255, R264 to R266). -/
def copyCardOk (kind : JobKind) (c : List DWord) : Bool :=
  headerOk c && fld (cdw c 9) 62 56 == 0 && fld (cdw c 10) 62 56 == 0 && fld (cdw c 11) 62 18 == 0
    && fld (cdw c 13) 63 56 == 0 && (if cpFlat c then fld (cdw c 14) 63 40 == 0 else fld (cdw c 14) 63 56 == 0 && cdw c 14 != 0)
    && xformOk (cpX c) (cpFlat c)
    && (match kind with
      | .cpyg => cpBen c && !cpFlat c
      | .cpys => !cpFlat c
      | .cpyr => !(cpXchip c && cpDsp c)
      | _ => cdw c 15 == 0)

/-- Whether a launch may name a bitmap slot of a die (13 R322). -/
def State.slotGranted (s : State) (l d i : Nat) : Bool :=
  match s.launch? l with
  | some L =>
    let q := L.pkt.getD 4 0
    L.dies.contains d && !L.lost.contains d && (s.die d).alive
      && decide (fld q 29 24 ≤ i) && decide (i < fld q 29 24 + fld q 38 32)
  | none => false

/-- Check 6: the range of the one address that takes a whole doubleword, a mask's or an index array's (log 54), alignment of the
addresses that need no record, and a flat copy's extent in the scratchpad. -/
def copyAddrs (kind : JobKind) (c : List DWord) : Except Stop Unit := do
  need (!(kind == .cpyg || kind == .cpys) || fld (cdw c 15) 63 56 == 0) (trapA Code.addressRange (cdw c 15))
  let al (n : Nat) (a : DWord) : Except Stop Unit := need (a.toNat % n == 0) (trapA Code.misaligned a)
  if cpFlat c then .ok ()
  else do
    al 64 (caddr c 13)
    al 64 (caddr c 14)
  match kind with
  | .cpyg => al 8 (caddr c 15)
  | .cpys => al 4 (caddr c 15)
  | _ => .ok ()
  if cpFlat c then do
    let fits (sp : Bool) (a : DWord) : Except Stop Unit := need (!sp || decide (a.toNat + cpLen c ≤ scrSize)) (trapA Code.scratchBound a)
    fits (cpSsp c) (caddr c 9)
    fits (cpDsp c) (caddr c 10)
  else .ok ()

/-- Checks 8 to 10 of a job whose records have been read. -/
def copyShapes (j : Job) : Except Stop Unit := do
  let c := j.card
  if cpFlat c then .ok ()
  else do
    let x := cpX c
    need (shapeOk j.rec1 && shapeOk j.rec2 && typesOk x j.S j.D
      && (if j.kind = .cpyg ∨ j.kind = .cpys then rowsOk x j.S j.D else extentsOk x j.S j.D)) (trapC Code.badShape)
    need (decide ((caddr c 9).toNat % j.S.size = 0)) (trapA Code.misaligned (caddr c 9))
    need (decide ((caddr c 10).toNat % j.D.size = 0)) (trapA Code.misaligned (caddr c 10))
    let fits (sp : Bool) (h : Shape) (a : DWord) : Except Stop Unit :=
      let (lo, hi) := h.extent a.toNat
      need (!sp || (decide (0 ≤ lo) && decide (hi ≤ (scrSize : Int)))) (trapA Code.scratchBound a)
    fits (cpSsp c) j.S (caddr c 9)
    fits (cpDsp c) j.D (caddr c 10)
  need (!cpBen c || decide (cpBoff c + j.nChunks ≤ 4096)) (trapC Code.badCard)

/-- Asks another chip for the destination record of a far copy: the command waits for the reply (10 R266, 18 R442). A copy to an unrouted chip
is accepted without it and halts at chunk 0 (18 R444). -/
def State.askRecord (s : State) (k : Nat) (j : Job) (stamp : BitVec 16) (r : Ret) : Act :=
  let c := j.card
  let p : Packet := { kind := .readRequest, src := s.chipId.toNat, dst := cpChip c, asid := j.asid, addr := (caddr c 14).toNat
                      data := [], job := k }
  if s.route (cpChip c) = 0 then do
    let s ← s.stampGate k stamp
    s.submitTo k (dieOf k) j r
  else match s.send p with
  | some s => parkAccept s k (dieOf k) { j with sent := true } r
  | none => .error (.wait false)

/-- Checks 8 to 11, the stamp, and acceptance (10 R262). -/
def State.submitCopy (s : State) (k e : Nat) (j : Job) (stamp : BitVec 16) (r : Ret) : Act := do
  copyShapes j
  let s ← s.stampGate k stamp
  let s := s.onTk k (fun t => { t with cmd := none })
  let j := { j with chunks := j.nChunks, sent := false }
  s.submitTo k e j r

/-- A copy command. -/
def copyCmd (kind : JobKind) (f : LW) (s : State) : Out :=
  cLong f true true (fun k s => do
    let t := s.tk k
    let r : Ret := ⟨f.d, f.tok⟩
    match t.cmd with
    | some (.accept e j _) =>
      if !j.sent then s.retryAccept k e j f.stamp r
      else if j.flagged then .error (.trap { code := Code.permissionFault, addr := caddr j.card 14 })
      else if j.rec2.isEmpty then .error (.wait false)
      else s.submitCopy k e j f.stamp r
    | _ => do
      let c ← cardAt t (t.getS f.b)
      need (copyCardOk kind c) (trapC Code.badCard)
      s.cardSync k c
      need (!cpBen c || s.slotGranted (s.sk k).info.launch (dieOf k) (cpSlot c)) (trapC Code.syncAccess)
      copyAddrs kind c
      let j := s.newJob k kind c
      let e := if kind = .cpyr ∧ !cpXchip c then cpTdie c else dieOf k
      if cpFlat c then s.submitCopy k e j f.stamp r
      else do
        let ag := { s.jobAgent e 0 j with tlbs := s.dTlbs e }
        let (a, s) ← liftJ (s.jobRead ag (caddr c 13) 64)
        let j := { j with rec1 := dwords 8 a }
        if j.far then s.askRecord k j f.stamp r
        else do
          let (b, s) ← liftJ (s.jobRead ag (caddr c 14) 64)
          s.submitCopy k e { j with rec2 := dwords 8 b } f.stamp r) s

def execCpy (f : LW) (s : State) : Out := copyCmd .cpy f s
def execCpyg (f : LW) (s : State) : Out := copyCmd .cpyg f s
def execCpys (f : LW) (s : State) : Out := copyCmd .cpys f s
def execCpyr (f : LW) (s : State) : Out := copyCmd .cpyr f s

/-! ### CWAIT and CTEST (10 R267, R268) -/

/-- Word `i` of a slot's chunk bits. -/
def BSlot.word (b : BSlot) (i : Nat) : DWord := b.bits.extractLsb' (64 * i) 64

/-- The count word of a slot (10 R260). -/
def BSlot.countWord (b : BSlot) : DWord :=
  dw (place (b2n b.nv) 1 35 + place (b2n b.of) 1 34 + place (b2n b.sat) 1 33 + place (b2n b.trunc) 1 32 + place b.count 32 0)

/-- SYNC-ARG and SYNC-ACCESS of a slot descriptor. -/
def State.slotCheck (s : State) (k : Nat) (a : DWord) (wait : Bool) : Except Stop Unit := do
  need (fld a 63 14 == 0 && !(wait && a.getLsbD 12)) (trapC Code.syncArg)
  need (s.slotGranted (s.sk k).info.launch (dieOf k) (fld a 5 0)) (trapC Code.syncAccess)

/-- A zero mask waits for nothing; CWAIT retires with its acquire all the same (10 R267, log 54). -/
def execCwait (f : LW) (s : State) : Out :=
  cLong f true true (fun k s => do
    let t := s.tk k
    let a := t.getS f.a
    let m := t.getS f.b
    s.slotCheck k a true
    let b := s.slot (dieOf k) (fld a 5 0)
    need (b.word (fld a 11 6) &&& m == m) (.wait false)
    let s ← s.stampGate k f.stamp
    .ok ((s.acquireAt k (if a.getLsbD 13 then 2 else 1)).onInfo k (fun i => i.raiseClk b.clk))) s

def execCtest (f : LW) (s : State) : Out :=
  cLong f true false (fun k s => do
    let a := (s.tk k).getS f.a
    s.slotCheck k a false
    let s ← s.stampGate k f.stamp
    let d := dieOf k
    let b := s.slot d (fld a 5 0)
    if a.getLsbD 12 then
      let s := s.onTk k (fun t => t.setS f.d b.countWord)
      .ok (if a.getLsbD 13 then s.updSlot d (fld a 5 0) (fun b => { b with sat := false, of := false, nv := false }) else s)
    else .ok (s.onTk k (fun t => t.setS f.d (b.word (fld a 11 6))))) s

end Sys2Proof.Machine
end

