-- ==== Sys2Proof/Machine/GriddleRun.lean ====
section
/-! DEFINITION. What Griddle jobs do once started, from the slab's row-progress register onwards: each answers the state it
reached, and why it stopped there (09 R226, R230, R233, R235, R236, R240). -/

namespace Sys2Proof.Machine

open Sys2Proof

/-- How far a job got, and what stopped it. -/
abbrev Run := State × Option JStop

/-- A running Griddle job: die, window entry, slab, job. -/
structure GJob where
  d : Nat
  w : Nat
  i : Nat
  j : Job
  deriving DecidableEq, Repr

def State.slabAt (s : State) (g : GJob) : Slab := Tbl.look ⟨0, 0, 0, 0, 0, 0, [], 31, none, [], [], false, false, false, false, false, false, false, 0, false, 0⟩ (s.die g.d).slabs g.i
def State.onSlab (s : State) (g : GJob) (f : Slab → Slab) : State := s.updSlab g.d g.i f

/-- Flags a running job gathers: its completion sets them in the slab's status (09 R226). -/
def State.gather (s : State) (g : GJob) (fl : FlagSet) : State := s.updJob g.d g.w (fun j => j.raise fl)

/-! ### GMMA (09 R230, R231, R233) -/

/-- Reads the part of operand row `r` that covers elements k0 to k0 + n − 1: elements, then scales (09 R227, R229). -/
def State.rowPart (s : State) (g : GJob) (ty loc : Nat) (base : DWord) (stride : Int) (scl : DWord) (sstride K k0 n r : Nat) :
    Except JStop (RowPart × State) := do
  let w := elemBits ty
  let row : Int := (base.toNat : Int) + r * stride
  let (bs, s) ← s.jrd g.d g.w g.j false (row + (k0 * w / 8 : Nat)) ((n * w + 7) / 8)
  if loc = 0 then .ok ({ el := ofLe bs }, s)
  else do
    let srow : Int := if loc = 1 then ((scl.toNat + r * sstride : Nat) : Int) else row + ((K * w + 7) / 8 : Nat)
    let (ss, s) ← s.jrd g.d g.w g.j false (srow + (k0 / blockLen ty * blockScales ty : Nat)) (ceilDiv n (blockLen ty) * blockScales ty)
    .ok ({ el := ofLe bs, sc := ss.map (·.toNat) }, s)

/-- Reads the parts of rows `r`, `r` + 1, … -/
def rowParts (rd : State → Nat → Except JStop (RowPart × State)) : Nat → Nat → State → Except JStop (List RowPart × State)
  | 0, _, s => .ok ([], s)
  | n + 1, r, s => do
    let (x, s) ← rd s r
    let (xs, s) ← rowParts rd n (r + 1) s
    .ok (x :: xs, s)

/-- The tile after one step, and the flags raised. -/
def stepTile (F : GFmtW) (n : Nat) (zero : Bool) (as bs : List RowPart) (a : ASet) : ASet × FlagSet :=
  as.zipIdx.foldl (fun r x => bs.zipIdx.foldl (fun (r : ASet × FlagSet) y =>
    let (u, fl) := gmmaWalk F n x.1 y.1 (if zero then 0 else a.el x.2 y.2)
    ({ r.1 with data := Tbl.set 0 r.1.data (2048 * x.2 + y.2) (dw u) }, r.2 ||| fl)) r) (a, 0)

/-- One step of a GMMA, from k0: all its reads, then its sums. -/
def State.gmmaStep (s : State) (g : GJob) (k0 : Nat) : Except JStop State := do
  let c := g.j.card
  let F := GFmtW.of g.j.fmt.toNat
  let n := min 32 (gmK c - k0)
  let rdA := fun (s : State) (r : Nat) => s.rowPart g F.a F.asl (caddr c 9) (stride40 (cdw c 10)) (caddr c 14) (fld (cdw c 10) 63 40) (gmK c) k0 n r
  let rdB := fun (s : State) (r : Nat) => s.rowPart g F.b F.bsl (caddr c 11) (stride40 (cdw c 12)) (caddr c 15) (fld (cdw c 12) 63 40) (gmK c) k0 n r
  let (as, s) ← rowParts rdA (gmM c) 0 s
  let (bs, s) ← rowParts rdB (gmN c) 0 s
  let a := (s.slabAt g).aset g.j.set
  let (a', fl) := stepTile F n (k0 == 0 && !gmAcc c) as bs { a with st := .live, aty := atyOf F.c }
  let zs := as.any (·.zeroScale F.a) || bs.any (·.zeroScale F.b)
  .ok ((s.onSlab g (fun b => { (b.putSet g.j.set a') with rp := k0 + n })).gather g (fl ||| flIf zs flZS))

/-- The steps of a GMMA that remain. -/
def State.gmmaSteps (g : GJob) : Nat → State → Run
  | 0, s => (s, none)
  | n + 1, s =>
    match s.gmmaStep g (s.slabAt g).rp with
    | .error e => (s, some e)
    | .ok s => State.gmmaSteps g n s

def State.runGmma (s : State) (g : GJob) : Run :=
  let c := g.j.card
  if gmM c = 0 ∨ gmN c = 0 then (s, none)
  else if gmK c = 0 then
    if gmAcc c then
      (s.onSlab g (fun b =>
        let a := b.aset g.j.set
        if a.st = .empty then b else b.putSet g.j.set { a with st := .live }), none)
    else
      (s.onSlab g (fun b =>
        let a := b.aset g.j.set
        let keep := a.data.filter (fun e => decide (gmM c ≤ e.1 / 2048) || decide (gmN c ≤ e.1 % 2048))
        b.putSet g.j.set { st := .live, aty := atyOf (GFmtW.of g.j.fmt.toNat).c, data := keep }), none)
  else State.gmmaSteps g (ceilDiv (gmK c - (s.slabAt g).rp) 32) s

/-! ### GDRAIN (09 R235, R236) -/

/-- FP32 codes of a vector. -/
def codes32 : Nat → List Byte → List Nat
  | 0, _ => []
  | n + 1, bs => ofLe (bs.take 4) :: codes32 n (bs.drop 4)

/-- A vector of `n` FP32 codes, where it is selected. -/
def State.drainVec (s : State) (g : GJob) (sel : Bool) (a : DWord) (n : Nat) : Except JStop (Option (List Nat) × State) :=
  if sel then do
    let (bs, s) ← s.jrd g.d g.w g.j false a.toNat (4 * n)
    .ok (some (codes32 n bs), s)
  else .ok (none, s)

/-- The rounding mode of a card field (09 R234, 10 R255). -/
def cardMode (x : Nat) : RMode :=
  match x with
  | 2 => .rz | 3 => .rdn | 4 => .rup | _ => .rne

/-- Row `m` of a drain: its reads, its sums, its write (09 R235, R236). -/
def State.drainRow (s : State) (g : GJob) (m : Nat) : Except JStop State := do
  let c := g.j.card
  let x := cdw c 10
  let ty := gdTy c
  let w := elemBits ty
  let n := gdN c
  let sp := x.getLsbD 40
  let a := (s.slabAt g).aset g.j.set
  let aty := if a.st = .empty then (if (intFmt ty).isSome then 2 else 0) else a.aty
  let row : Int := ((caddr c 9).toNat : Int) + m * stride40 x
  let (rs, s) ← s.drainVec g (x.getLsbD 53) (caddr c 11 + dw (4 * m)) 1
  let (cs, s) ← s.drainVec g (x.getLsbD 54) (caddr c 12) n
  let (bi, s) ← s.drainVec g (x.getLsbD 55) (caddr c 13) n
  let (old, s) ← if x.getLsbD 50 then (s.jrdBits g.d g.w g.j sp row 0 (n * w)).map (fun r => (some r.1, r.2)) else .ok (none, s)
  let D := (floatFmt ty).getD fp32
  let el (i : Nat) : Nat × FlagSet := drainElem aty ty (cardMode (fld x 48 46)) (x.getLsbD 49)
    { row := rs.map (·.getD 0 0), col := cs.map (·.getD i 0), ts := if x.getLsbD 56 then some (fld (cdw c 14) 31 0) else none
      bias := bi.map (·.getD i 0), old := old.map (fun o => D.decode ((o >>> (w * i)) % 2 ^ w))
      clamp := if x.getLsbD 51 then some (fld (cdw c 15) 31 0, fld (cdw c 15) 63 32) else none } (a.el m i)
  let (bits, fl) := (List.range n).foldl (fun (r : Nat × FlagSet) i => let (u, f) := el i; (r.1 + u <<< (w * i), r.2 ||| f)) (0, (0 : FlagSet))
  let s ← s.jwrBits g.d g.w g.j sp row 0 (n * w) bits
  .ok ((s.onSlab g (fun b => { b with rp := m + 1 })).gather g fl)

/-- The rows of a drain that remain. -/
def State.drainRows (g : GJob) : Nat → State → Run
  | 0, s => (s, none)
  | n + 1, s =>
    match s.drainRow g (s.slabAt g).rp with
    | .error e => (s, some e)
    | .ok s => State.drainRows g n s

def State.runGdrain (s : State) (g : GJob) : Run :=
  let n := if gdN g.j.card = 0 then 0 else gdM g.j.card - (s.slabAt g).rp
  match State.drainRows g n s with
  | (s, some e) => (s, some e)
  | (s, none) =>
    (s.onSlab g (fun b =>
      let a := b.aset g.j.set
      if gdKeep g.j.card then (if a.st = .live then b.putSet g.j.set { a with st := .clean } else b)
      else b.putSet g.j.set {}), none)

/-! ### GSAVE and GREST (09 R239, R240) -/

def ispOf (c : List DWord) : Bool := (cdw c 10).getLsbD 0

/-- The bytes of cell `n` of a set. -/
def cellBytes (b : Slab) (a : ASet) (n : Nat) : List Byte :=
  let i := n / (16 * 2 ^ b.lw)
  let j := n % (16 * 2 ^ b.lw)
  if a.st = .empty then List.replicate 64 0
  else if a.aty = 0 then (List.range 16).flatMap (fun e => leBytes 4 (a.el (4 * i + e / 4) (4 * j + e % 4)))
  else (List.range 8).flatMap (fun e => leBytes 8 (a.el (4 * i + e / 2) (2 * j + e % 2)))

/-- A set with cell `n` read from its bytes. -/
def ASet.putCell (a : ASet) (lw n : Nat) (bs : List Byte) : ASet :=
  let i := n / (16 * 2 ^ lw)
  let j := n % (16 * 2 ^ lw)
  let put (d : Tbl DWord) (m n x : Nat) : Tbl DWord := Tbl.set 0 d (2048 * m + n) (dw x)
  { a with data :=
      if a.aty = 0 then (List.range 16).foldl (fun d e => put d (4 * i + e / 4) (4 * j + e % 4) (ofLe ((bs.drop (4 * e)).take 4))) a.data
      else (List.range 8).foldl (fun d e =>
        put d (4 * i + e / 2) (2 * j + e % 2) (ofLe ((bs.drop (8 * e)).take 8) % (if a.aty = 1 then 2 ^ 64 else 2 ^ 32))) a.data }

/-- Cells of a slab. -/
def Slab.cells (b : Slab) : Nat := 256 * 2 ^ b.lh * 2 ^ b.lw

/-- Doubleword 0 of an image. -/
def imageHead (b : Slab) (a : ASet) : Nat :=
  b.lh + b.lw * 8 + (if a.st = .empty then 3 else a.aty) * 64 + a.st.num * 256

def State.saveCells (g : GJob) : Nat → State → Run
  | 0, s => (s, none)
  | n + 1, s =>
    let b := s.slabAt g
    match s.jwr g.d g.w g.j (ispOf g.j.card) (((caddr g.j.card 9).toNat + 64 + 64 * b.rp : Nat) : Int) (cellBytes b (b.aset g.j.set) b.rp) with
    | .error e => (s, some e)
    | .ok s => State.saveCells g n (s.onSlab g (fun b => { b with rp := b.rp + 1 }))

def State.runGsave (s : State) (g : GJob) : Run :=
  let b := s.slabAt g
  let head := leBytes 8 (imageHead b (b.aset g.j.set)) ++ List.replicate 56 0
  match (if b.rp = 0 then s.jwr g.d g.w g.j (ispOf g.j.card) (caddr g.j.card 9).toNat head else .ok s) with
  | .error e => (s, some e)
  | .ok s =>
    match State.saveCells g (b.cells - b.rp) s with
    | (s, some e) => (s, some e)
    | (s, none) =>
      (s.onSlab g (fun b =>
        let a := b.aset g.j.set
        if a.st = .live then b.putSet g.j.set { a with st := .clean } else b), none)

/-- Cells of a GREST from RP on, into a set of type `aty`: the image's set replaces the slab's with its first cell. -/
def State.restCells (g : GJob) (aty : Nat) : Nat → State → Run
  | 0, s => (s, none)
  | n + 1, s =>
    let b := s.slabAt g
    match s.jrd g.d g.w g.j (ispOf g.j.card) (((caddr g.j.card 9).toNat + 64 + 64 * b.rp : Nat) : Int) 64 with
    | .error e => (s, some e)
    | .ok (bs, s) =>
      State.restCells g aty n (s.onSlab g (fun b =>
        let a : ASet := if b.rp = 0 then { st := .live, aty := aty } else b.aset g.j.set
        { b.putSet g.j.set (a.putCell b.lw b.rp bs) with rp := b.rp + 1 }))

/-- Whether an image header suits a slab (09 R240). DESIGN CHOICE (log 60): the rule does not say that a header whose state is 3, or whose
state and type disagree on EMPTY, is a BAD-IMAGE. -/
def headOk (b : Slab) (bs : List Byte) : Bool :=
  let h := ofLe (bs.take 8)
  (bs.drop 8).all (· == 0) && h >>> 10 == 0 && bitsN h 2 0 == b.lh && bitsN h 5 3 == b.lw && bitsN h 9 8 != 3
    && (bitsN h 9 8 == 0) == (bitsN h 7 6 == 3)

def State.runGrest (s : State) (g : GJob) : Run :=
  match s.jrd g.d g.w g.j (ispOf g.j.card) (caddr g.j.card 9).toNat 64 with
  | .error e => (s, some e)
  | .ok (hd, s) =>
    let b := s.slabAt g
    if headOk b hd then
      let aty := bitsN (ofLe (hd.take 8)) 7 6
      if aty = 3 then (s.onSlab g (fun b => b.putSet g.j.set {}), none)
      else
        match State.restCells g aty (b.cells - b.rp) s with
        | (s, some e) => (s, some e)
        | (s, none) => (s.onSlab g (fun b => b.putSet g.j.set { (b.aset g.j.set) with st := .clean }), none)
    else (s, some (.fault { code := Code.badImage, addr := caddr g.j.card 9 }))

/-- The rest of a Griddle job. -/
def State.runGriddle (s : State) (g : GJob) : Run :=
  match g.j.kind with
  | .gmma => s.runGmma g
  | .gdrain => s.runGdrain g
  | .gsave => s.runGsave g
  | .grest => s.runGrest g
  | .gzero => (s.onSlab g (fun b => b.putSet g.j.set {}), none)
  | _ => (s, none)

end Sys2Proof.Machine
end

