-- ==== Sys2Proof/Machine/Groups.lean ====
section
/-! DEFINITION. Group instances: arrivals, completion of a phase, phase waits, elections (10 R274 to R277, 15 R397 to R399). -/

namespace Sys2Proof.Machine

open Sys2Proof

/-! ### Group instances (10 R274) -/

def Launch.groupOf (l : Launch) (team g : Nat) : GroupInst :=
  match Tbl.find l.teams team with
  | some t => Tbl.look {} t.groups g
  | none => {}

def Launch.updGroup (l : Launch) (team g : Nat) (f : GroupInst → GroupInst) : Launch :=
  { l with teams := l.teams.map (fun (n, t) => if n = team then (n, { t with groups := Tbl.upd {} t.groups g f }) else (n, t)) }

/-- The slots of a group less the members that have reached TEND. -/
def Launch.liveSet (l : Launch) (team g : Nat) : Nat :=
  let mask := l.gtab.getD g 0
  match Tbl.find l.teams team with
  | some t => mask - (mask &&& t.ended.toNat)
  | none => mask

/-- Whether phase `p` of an instance has completed (10 R275). -/
def GroupInst.passed (x : GroupInst) (p : Nat) : Bool :=
  let n := (x.phase + 2 ^ 32 - p % 2 ^ 32) % 2 ^ 32
  decide (1 ≤ n) && decide (n ≤ 2 ^ 31)

/-! ### Completion (10 R275, R277) -/

/-- The winner among the ELECT arrivals: the first at D0, the lowest slot at D1 and above. -/
def electWinner (level : Nat) (elects : List Nat) : Option Nat :=
  if level = 0 then elects.head?
  else elects.foldl (fun b x => some (match b with
    | some y => min x y
    | none => x)) none

/-- The slot a replay's head entry imposes as the winner of a phase, if it names one of the ELECT arrivals (15 R399). -/
def State.imposed (s : State) (d : Nat) (l : Launch) (g : Nat) (x : GroupInst) : Option Nat :=
  match s.logLevel l.qid with
  | none => none
  | some v =>
    if v.mode != 2 || (s.logOf d l.qid).done then none
    else match (s.replayHead 3 d l.qid v).1 with
    | none => none
    | some (a, _) =>
      if entryType a = 3 ∧ fld a 44 37 = g ∧ fld a 31 0 = x.phase ∧ x.elects.contains (fld a 36 32) then some (fld a 36 32) else none

/-- Whether the entry a die's replay stands at names the task of a Skillet. -/
def State.named (s : State) (d qid k : Nat) : Bool :=
  match s.logLevel qid with
  | none => false
  | some v => v.mode == 2 && !(s.logOf d qid).done && match (s.replayHead 3 d qid v).1 with
    | some (a, b) => (s.sk k).info.namedBy k a b
    | none => false

/-- The Skillet of a member of a resident team. -/
def Launch.memberSk (l : Launch) (team slot : Nat) : Option Nat := (Tbl.find l.teams team).bind (fun t => t.base.map (· + slot))

/-- Whether a team stands in its places (10 R276, 13 R338). -/
def Launch.resident (l : Launch) (team : Nat) : Bool := (Tbl.find l.teams team).any (fun t => t.base.isSome)

/-- Completes the current phase of a group if every live member has arrived and the team is resident; at D0 the winner is logged first, and the phase
waits while it cannot be (15 R397, R398). -/
def State.tryPhase (s : State) (i team g : Nat) : State :=
  match s.launch? i with
  | none => s
  | some l =>
    let x := l.groupOf team g
    let live := l.liveSet team g
    let d := ((Tbl.find l.teams team).map (·.die)).getD 0
    if x.arrived.toNat &&& live ≠ live ∨ (live = 0 ∧ x.arrived = 0) ∨ !l.resident team then s
    else
      let w := if l.level = 0 then (s.imposed d l g x).or (electWinner 0 x.elects) else electWinner l.level x.elects
      let fin (s : State) : State :=
        s.updLaunch i (fun l => l.updGroup team g (fun x =>
          { x with phase := (x.phase + 1) % 2 ^ 32, arrived := 0, done := Tbl.put x.done x.phase x.clk, elects := []
                   winner := w }))
      match l.level, w with
      | 0, some slot =>
        let ks := x.elects.filterMap (l.memberSk team)
        match s.decideLog d l.qid (decElect g slot x.phase (dw team)) ks with
        | .ok s => fin s
        | .error (.trap r) => (ks.filter (fun k => s.named d l.qid k)).foldl (fun s k => s.raise k .C r) s
        | .error _ => s
      | _, _ => fin s

/-- A member has reached TEND: it leaves the live set of each of its groups (10 R275). -/
def State.memberEnded (s : State) (k : Nat) : State :=
  let i := (s.sk k).info
  if i.teamId = noTeam then s
  else
    let team := i.teamId.toNat
    let mark (t : Team) : Team := { t with ended := t.ended ||| BitVec.ofNat 32 (1 <<< i.teamSlot) }
    let s := s.updLaunch i.launch (fun l => { l with teams := l.teams.map (fun (n, t) => if n = team then (n, mark t) else (n, t)) })
    match s.launch? i.launch with
    | none => s
    | some l =>
      ((List.range 256).filter (fun g => (l.gtab.getD g 0).testBit i.teamSlot)).foldl (fun s g => s.tryPhase i.launch team g) s

/-! ### Arrivals and waits -/

/-- Team, group and scope a descriptor names for the task of a Skillet, or SYNC-ARG or NOT-MEMBER (10 R262, R274). A team
lies on one die (13 R327). -/
def State.groupArg (s : State) (k : Nat) (a : DWord) : Except Stop (Nat × Nat × Nat) := do
  need (fld a 63 10 == 0) (trapC Code.syncArg)
  let i := (s.sk k).info
  let mask := ((s.launch? i.launch).map (fun l => l.gtab.getD (fld a 7 0) 0)).getD 0
  need (i.teamId != noTeam && mask.testBit i.teamSlot) (trapC Code.notMember)
  .ok (i.teamId.toNat, fld a 7 0, max 1 (fld a 9 8))

def State.group (s : State) (k team g : Nat) : GroupInst :=
  match s.launch? (s.sk k).info.launch with
  | some l => l.groupOf team g
  | none => {}

/-- An arrival of the caller, which has not arrived in this phase: a release at W (10 R275). -/
def State.arrive (s : State) (k team g w : Nat) (elect : Bool) : Act := do
  let s ← s.releaseAt k w
  let i := (s.sk k).info
  let s := s.updLaunch i.launch (fun l => l.updGroup team g (fun x =>
    { x with arrived := x.arrived ||| BitVec.ofNat 32 (1 <<< i.teamSlot), clk := min (max x.clk (i.sclk + 1)) 0xFFFFFFFF
             elects := if elect then x.elects ++ [i.teamSlot] else x.elects }))
  let s := s.onInfo k TaskInfo.tickClk
  .ok (s.tryPhase i.launch team g)

/-- Whether the caller's slot has arrived in the current phase. -/
def State.hasArrived (s : State) (k team g : Nat) : Bool := (s.group k team g).arrived.getLsbD (s.sk k).info.teamSlot

/-- The end of a phase wait: an acquire at W of the completed phase; an ELECT learns whether it won (10 R275, R277). -/
def State.phaseEnd (s : State) (k team g p w : Nat) (elect : Bool) (d : BitVec 6) : State :=
  let x := s.group k team g
  let s := (s.acquireAt k w).onInfo k (fun i => { i.raiseClk (Tbl.look 0 x.done p) with arr := none })
  let s := s.onTk k (fun t => { t with cmd := none })
  if elect then s.onTk k (fun t => t.setS d (dw (b2n (x.winner == some (s.sk k).info.teamSlot)))) else s

/-- A phase wait: it ends at once if the phase has completed, else the command waits. An arrival stands where a turn comes to no more (10
R276). -/
def State.phaseWait (s : State) (k team g p w : Nat) (elect : Bool) (r : Ret) : Act :=
  if (s.group k team g).passed p then .ok (s.phaseEnd k team g p w elect r.d)
  else if (s.sk k).info.granted then .error (.hold s)
  else match (s.tk k).cmd with
  | some (.phase _ _ _ _ _) => .error (.wait false)
  | _ => .error (.park (s.onTk k (fun t => { t with cmd := some (.phase g p w elect r) })))

/-- BAR and ELECT: an arrival, kept across a stop, and the wait for its phase (10 R276, R277). -/
def barrier (elect : Bool) (f : LW) (s : State) : Out :=
  cLong f true true (fun k s => do
    let (team, g, w) ← s.groupArg k ((s.tk k).getS f.a)
    let r : Ret := ⟨f.d, f.tok⟩
    match (s.sk k).info.arr.filter (fun a => a.elect == elect && a.group == g) with
    | some a => s.phaseWait k team g a.phase w elect r
    | none => do
      need (!s.hasArrived k team g) (.wait false)
      let s ← s.stampGate k f.stamp
      let p := (s.group k team g).phase
      let s ← s.arrive k team g w elect
      (s.onInfo k (fun i => { i with arr := some ⟨elect, g, p⟩ })).phaseWait k team g p w elect r) s

end Sys2Proof.Machine
end

