-- ==== Sys2Proof/Machine/Places.lean ====
section
/-! DEFINITION. Which Skillets of a die are free, which heads are ready for it, and what a Skillet between two tasks may look for (07 R171,
R181, 13 R322 to R336, 15 R389, R398). -/

namespace Sys2Proof.Machine

open Sys2Proof

/-- Core cycles in a microsecond (00 R8). -/
def usCycles : Nat := 1600

/-! ### Fields of a packet (13 R322) -/

/-- A doubleword of a packet or a record. -/
def pdw (q : List DWord) (i : Nat) : DWord := q.getD i 0

def pktKind (p : List DWord) : Nat := fld (pdw p 0) 3 0
def pktRecord (p : List DWord) : Nat := fld (pdw p 1) 55 0
def pktBatch (p : List DWord) : Nat := let b := fld (pdw p 0) 35 24; if b = 0 then 64 else b
def pktPin (p : List DWord) : Bool := (pdw p 0).getLsbD 6
def pktRestart (p : List DWord) : Bool := (pdw p 0).getLsbD 5

/-- The dies a packet permits: DIES, 0 meaning all four (13 R322). -/
def pktDies (dw0 : DWord) : List Nat := if fld dw0 11 8 = 0 then allDies else allDies.filter (fun d => dw0.getLsbD (8 + d))

/-- Members per team, as a gang record gives them (13 R327). -/
def recdSize (r : List DWord) : Nat := fld (pdw r 1) 37 32

/-- Members per team of a gang launch (13 R327). -/
def Launch.size (l : Launch) : Nat := recdSize l.recd

/-! ### Skillets between two tasks -/

/-- A Skillet that works and has no task, no frame to start and no claim. `reserved` says that a frame or an iteration has
been handed to it and has not started. -/
def State.idle (s : State) (k : Nat) : Bool :=
  let x := s.sk k
  decide (k < 128) && (s.die (dieOf k)).alive && !x.busy && !x.reserved && !x.fenced && x.halted.isNone && x.claim.isNone

/-- A running launch that still gives its Skillets work. -/
def State.liveLaunch (s : State) (l : Nat) : Bool :=
  match s.launch? l with
  | some L => L.ending.isNone
  | none => false

/-- Whether a Skillet lies in the places of a resident team: it stays with it until every member has ended and no entry of
the team remains in its deques (13 R327). -/
def State.bound (s : State) (k : Nat) : Bool :=
  s.launches.any (fun (i, l) => l.teams.any (fun (_, t) =>
    match t.base with
    | none => false
    | some b =>
      let ks := (List.range l.size).map (b + ·)
      ks.contains k &&
        (t.ended.toNat % 2 ^ l.size != 2 ^ l.size - 1 || ks.any (fun j => s.dequeLen ⟨i, j⟩ != 0))))

/-- The first task of a launch on a die's resume list that the Skillet may take: a team member returns to its own place (07 R181, 12 R310). A
task that an error halted is not resumed (17 R427). -/
def State.resumeNext (s : State) (k l : Nat) : Option Saved :=
  (s.die (dieOf k)).resume.findSome? (fun i => (Tbl.find s.saved i).filter (fun v =>
    v.info.launch == l && !v.halted &&
    (v.info.teamId == noTeam || match s.launch? l with
      | some L => (match (Tbl.find L.teams v.info.teamId.toNat).bind (·.base) with
        | some b => b + v.info.teamSlot == k
        | none => false)
      | none => false)))

/-- Whether a die's resume list holds a task of a launch that can be resumed. -/
def State.resumable (s : State) (d launch : Nat) : Bool :=
  (s.die d).resume.any (fun i => match Tbl.find s.saved i with
    | some v => v.info.launch == launch && !v.halted
    | none => false)

/-- Whether a Skillet's own deque holds no ready entry (07 R171). -/
def State.noOwn (s : State) (k l : Nat) : Bool :=
  match s.ownPop ⟨l, k⟩ with
  | .ok (none, _) => true
  | _ => false

/-- Whether a ready head that may use a die comes before a launch of some priority there: a higher one, one the die drains for, or one whose
AGE has reached 64 (13 R332 to R334). -/
def State.headAbove (s : State) (d prio : Nat) : Bool :=
  allDies.any (fun e => (s.die e).qslots.any (fun q =>
    match q.2.ready with
    | some h =>
      pktKind h.pkt != 3 && (pktDies (pdw h.pkt 0)).contains d
        && (decide (prio < q.2.prio) || decide (64 ≤ h.age) || (s.die d).draining == some (64 * e + q.1))
    | none => false))

/-- Whether a ready head takes a Skillet of a launch of some priority before the Skillet looks at the resume list and its own deque: one of
priority 7 above it, one the die drains for, one whose AGE has reached 64 (13 R333, R334, R336). -/
def State.headFirst (s : State) (d prio : Nat) : Bool :=
  allDies.any (fun e => (s.die e).qslots.any (fun q =>
    match q.2.ready with
    | some h =>
      pktKind h.pkt != 3 && (pktDies (pdw h.pkt 0)).contains d
        && ((decide (prio < 7) && q.2.prio == 7) || decide (64 ≤ h.age) || (s.die d).draining == some (64 * e + q.1))
    | none => false))

/-- Whether a Skillet will take a task by itself, off the resume list or its own deque, before any decision gives it another (13 R335). -/
def State.selfFed (s : State) (k : Nat) : Bool :=
  match (s.sk k).launch with
  | none => false
  | some l =>
    match s.launch? l with
    | none => false
    | some L =>
      L.ending.isNone && !(s.sk k).pool && !s.logShut (dieOf k) L.qid && !s.headFirst (dieOf k) L.prio
        && ((s.resumeNext k l).isSome || !s.noOwn k l)

/-- A Skillet the dispatcher may give away. -/
def State.freeSk (s : State) (k : Nat) : Bool := s.idle k && !s.bound k && !s.selfFed k

/-- The lowest free Skillet of a die. -/
def State.freeOn (s : State) (d : Nat) : Option Nat := ((List.range 32).map (32 * d + ·)).find? (fun k => s.freeSk k)

/-- The lowest run of `n` consecutive free Skillets of a die (13 R327). -/
def State.runOn (s : State) (d n : Nat) : Option Nat :=
  ((List.range (33 - min n 33)).map (32 * d + ·)).find? (fun b => (List.range n).all (fun i => s.freeSk (b + i)))

/-! ### Dies of a head (13 R339, 15 R389) -/

/-- The class of a context's record, if it has been measured. -/
def State.classOf (s : State) (asid recd : Nat) : Option Bool :=
  (s.classTbl.find? (fun r => r.asid == asid && r.recd == recd)).map (·.compute)

/-- Compute-bound launches running on a die. -/
def State.boundOn (s : State) (d : Nat) : Nat := (s.launches.filter (fun e => e.2.cls == some true && e.2.dies.contains d)).length

def State.levelFor (s : State) (qid : Nat) : Nat := ((Tbl.find s.levels qid).map (·.lvl)).getD 0

/-- The dies a launch uses from its dispatch: a compute-bound one starts on the die with the fewest such launches, and on every permitted one where
that has no free Skillet (13 R339). -/
def State.headDies (s : State) (q : QSlot) (h : Head) : List Nat :=
  let ds := (pktDies (pdw h.pkt 0)).filter (fun d => (s.die d).alive)
  if pktPin h.pkt || decide (1 ≤ s.levelFor q.qid) || s.classOf q.asid (pktRecord h.pkt) != some true then ds
  else
    let best := (ds.foldl (fun b d => match b with
      | none => some d
      | some e => if s.boundOn d < s.boundOn e then some d else some e) none).toList
    if best.all (fun d => (s.freeOn d).isNone) then ds else best

/-- Whether a head fits a die (13 R332). -/
def State.headFits (s : State) (h : Head) (d : Nat) : Bool :=
  if pktKind h.pkt = 1 then (s.freeOn d).isSome else (s.runOn d (recdSize h.recd)).isSome

/-- The ready heads that may use a die, level changes apart: home die, slot, queue, head. -/
def State.headsFor (s : State) (d : Nat) : List (Nat × Nat × QSlot × Head) :=
  allDies.flatMap (fun e => (s.die e).qslots.filterMap (fun (i, q) => match q.ready with
    | some h => if pktKind h.pkt ≠ 3 ∧ (s.headDies q h).contains d then some (e, i, q, h) else none
    | none => none))

/-! ### Heads of priority 7 (13 R336) -/

/-- Whether a launch has a priority below 7. -/
def State.below7 (s : State) (l : Nat) : Bool :=
  match s.launch? l with
  | some L => decide (L.prio < 7)
  | none => false

/-- Whether the task of a Skillet, or the claim it holds, may be stopped for a head of priority 7. -/
def State.yields (s : State) (k : Nat) : Bool :=
  let x := s.sk k
  (x.busy && x.halted.isNone && s.below7 x.info.launch) || (!x.busy && match x.claim with
    | some c => s.below7 c.launch
    | none => false)

/-- The run of Skillets of a die that a gang head takes: no task of a priority-7 launch, fewest tasks to stop, lowest first. -/
def State.gangRun (s : State) (d size : Nat) : Option Nat :=
  let ok (b : Nat) : Bool := (List.range size).all (fun i => s.idle (b + i) || s.yields (b + i))
  let cost (b : Nat) : Nat := ((List.range size).filter (fun i => s.yields (b + i))).length
  (((List.range (33 - min size 33)).map (32 * d + ·)).filter ok).foldl (fun o b => match o with
    | none => some b
    | some c => if cost b < cost c then some b else some c) none

/-- The Skillets among which a gang head of priority 7 takes its places. -/
def State.inRun (s : State) (h : Head) (k : Nat) : Bool :=
  match s.gangRun (dieOf k) (recdSize h.recd) with
  | some b => decide (b ≤ k) && decide (k < b + recdSize h.recd)
  | none => false

/-- Whether an idle Skillet of a launch of lower priority passes to a ready head of priority 7: the head fits the die, or waits for a run in which the
Skillet lies; the places of a resident team stay with it (12 R309, 13 R327, R336). -/
def State.headTakes (s : State) (k : Nat) (L : Launch) : Bool :=
  decide (L.prio < 7) && !s.bound k && (s.headsFor (dieOf k)).any (fun (_, _, q, h) =>
    q.prio == 7 && (s.headFits h (dieOf k) || (pktKind h.pkt == 2 && s.inRun h k)))

/-- Whether the dispatcher holds a head of priority 7 that would pre-empt the task of a Skillet: it may use the die and does not fit; a gang head
finds a run it may take, which holds no task of a priority-7 launch (07 R183, 13 R336). -/
def State.higherWaiting (s : State) (k : Nat) : Bool :=
  s.below7 (s.sk k).info.launch && (s.headsFor (dieOf k)).any (fun (_, _, q, h) =>
    q.prio == 7 && !s.headFits h (dieOf k) && (pktKind h.pkt == 1 || (s.gangRun (dieOf k) (recdSize h.recd)).isSome))

/-! ### What a Skillet may look for -/

/-- Whether a Skillet may take a task of a launch by itself: it is of that launch and idle, the launch runs, its die may start tasks, and no head of
priority 7 takes it (07 R171, 13 R335, 15 R398). -/
def State.mayTake (s : State) (k l : Nat) : Bool :=
  s.idle k && decide ((s.sk k).launch = some l) && !(s.sk k).pool && match s.launch? l with
    | some L => L.ending.isNone && !s.logShut (dieOf k) L.qid && !s.headTakes k L
    | none => false

/-- Whether such a Skillet finds nothing on the resume list and looks further (07 R171). -/
def State.seeks (s : State) (k l : Nat) : Bool := s.mayTake k l && (s.resumeNext k l).isNone

end Sys2Proof.Machine
end

