-- ==== Sys2Proof/Machine/TaskCmd.lean ====
section
/-! DEFINITION. The task commands: SPAWN, SPAWNL, JOIN, TEND, YIELD, and the join counter they act on (07 R177 to R184). -/

namespace Sys2Proof.Machine

open Sys2Proof

/-! ### The join counter (07 R177) -/

def jcCount (x : Nat) : Nat := bitsN x 31 0
def jcWsc (x : Nat) : Nat := bitsN x 33 32
def jcWaiter (x : Nat) : Nat := bitsN x 63 34
def jcMake (waiter wsc count : Nat) : Nat := place waiter 30 34 + place wsc 2 32 + count % 2 ^ 32

/-- The checks of a counter's address, as for a write, through the die's translation (07 R180, 17 R414, 08 R204). -/
def State.jctrLoc (s : State) (k : Nat) (a : DWord) : Except Report Loc :=
  let d := dieOf k
  match s.locate (s.dTlbs d) (s.asidOf k) a 8 .wr with
  | .error r => .error r
  | .ok l =>
    if !l.host && (apertureOf l.pa).isSome then .error { code := Code.permissionFault, addr := a, level := l.level, write := true }
    else if l.chk then
      match s.recordLoc { (s.agentOf k) with tlbs := s.dTlbs d } l.va true with
      | .error r => .error r
      | .ok _ => .ok l
    else .ok l

/-- The counter read at its home. -/
def State.jcRead (s : State) (k : Nat) (l : Loc) : Except Stop (Nat × State) :=
  match s.rdHome (dieOf k) (s.asidOf k) l.host l.pa 8 with
  | .error e => .error e.stop
  | .ok (bs, s) => .ok (ofLe bs, s)

/-- The counter written at its home, with the clock of the task acted for in the record (07 R177, 08 R205). -/
def State.jcWrite (s : State) (k : Nat) (l : Loc) (x : Nat) : Act := do
  let s ← liftP (s.wrHome (dieOf k) (s.asidOf k) l.host (cellsAt l.pa (leBytes 8 x)) .unit)
  let ag := s.agentOf k
  .ok (s.raceUpdate ag l (fun r => r.addWriter ag.tag ag.clk false))

/-- An atomic of the task unit on a counter, its order logged at D0 and D1 (15 R397). -/
def State.jcAtomic (s : State) (k : Nat) (l : Loc) (f : Nat → Nat) : Except Stop (Nat × State) := do
  let s ← if l.host then .ok s else s.decideLow k ((homeOf l.pa).getD (dieOf k)) (decAtomic l.va (s.sk k).info.frame.taskId)
  let (old, s) ← s.jcRead k l
  let s ← s.jcWrite k l (f old)
  .ok (old, s)

/-- The smallest scope that contains a die's Skillets and the home of a counter (07 R179): 1 die, 2 package, 3 system. -/
def homeScope (d : Nat) (l : Loc) : Nat := if l.host then 3 else if homeOf l.pa = some d then 1 else 2

/-! ### SPAWN, SPAWNL (07 R180) -/

/-- The leader die of a launch: its lowest live die (13 R330). -/
def Launch.leader (l : Launch) : Nat := ((l.dies.filter (fun d => !l.lost.contains d)).foldl min 4) % 4

/-- ROOT and SEQ of a TASKID (07 R166). -/
def rootOf (tid : DWord) : Nat := fld tid 63 32
def seqOf (tid : DWord) : Nat := fld tid 31 0

/-- The row of the task entry table a target names (01 R42). -/
def State.entryAt (s : State) (asid : Nat) (a : DWord) : Option Entry :=
  if fld a 63 56 ≠ 0 then none
  else (Tbl.look [] s.entries asid).find? (fun e => e.addr == fld a 55 2 * 4)

/-- Whether a batch holds the launch-started task of a root (13 R327, R330). -/
def Launch.batchHas (l : Launch) (b : Batch) (root : Nat) : Bool :=
  let r := if l.gang then root / max 1 (fld (l.recd.getD 1 0) 37 32) else root
  decide (b.first ≤ r) && decide (r < b.first + b.n)

/-- Tasks of a root counted in, in its launch and its batch. -/
def Launch.addLive (l : Launch) (root n : Nat) : Launch :=
  { l with live := l.live + n
           batches := l.batches.map (fun b => if l.batchHas b root then { b with live := b.live + n } else b) }

/-- The children a SPAWN or SPAWNL of `n` makes. What the release must write first, and wait for, comes before the counter's one increment, so
that a command that waits has changed nothing else: counter, release, deque entry, SEQ counter, clock (07 R180, 08 R205). -/
def State.spawnEffect (s : State) (k : Nat) (e : Entry) (rscope n : Nat) (range : Bool) (jl : Option Loc)
    (args : List DWord) : Act := do
  let i := (s.sk k).info
  let root := rootOf i.frame.taskId
  match s.launch? i.launch with
  | none => .ok s
  | some L => do
    let first := Tbl.look 1 L.seqs root
    let s ← s.releaseAt k (max rscope 1)
    let s ← s.decideLow k L.leader (decSpawn k first root)
    let s ← match jl with
      | none => .ok s
      | some l => (s.jcAtomic k l (fun x => jcMake (jcWaiter x) (jcWsc x) (jcCount x + n))).map (·.2)
    let s := s.onInfo k (fun i => { i.tickClk with killOk := false })
    let clk := (s.sk k).info.sclk
    let f : Frame :=
      { entry := e.addr, rscope := rscope, taskId := dw (root * 2 ^ 32 + first), jctr := args.getD 0 0, arg0 := args.getD 1 0
        arg1 := args.getD 2 0, arg2 := args.getD 3 0, arg3 := args.getD 4 0, range := range, owner := k, idem := e.idem
        wscope := rscope, count := n }
    let s ← s.push ⟨i.launch, k⟩ f
    .ok (s.updLaunch i.launch (fun l =>
      { (l.addLive root n) with seqs := Tbl.put l.seqs root (first + n), clks := l.clks ++ [⟨root, first, n, clk⟩] }))

def spawn (range : Bool) (f : LW) (s : State) : Out :=
  cLong f false true (fun k s => do
    let t := s.tk k
    let i := (s.sk k).info
    let sa := t.getS f.a
    let args := (List.range 5).map (fun j => t.getS (f.b + BitVec.ofNat 6 j))
    let jctr := args.getD 0 0
    let n := if range then (t.getS f.d).toNat else 1
    match s.entryAt (s.asidOf k) sa with
    | none => .error (trapA Code.badTarget sa)
    | some e => do
      let jl ← if jctr = 0 then .ok none else (liftR (s.jctrLoc k jctr)).map some
      if n = 0 then do
        let s ← s.stampGate k f.stamp
        .ok (s.onInfo k (fun i => { i with killOk := false }))
      else do
        let first := ((s.launch? i.launch).map (fun l => Tbl.look 1 l.seqs (rootOf i.frame.taskId))).getD 1
        need (decide (first + n ≤ 2 ^ 32)) (trapC Code.taskLimit)
        need (decide (s.dequeLen ⟨i.launch, k⟩ < 4096)) (trapC Code.dequeOverflow)
        let s ← s.stampGate k f.stamp
        let s ← s.spawnEffect k e (fld sa 1 0) n range jl args
        .ok (if range then s else s.onTk k (fun t => t.setS f.d (dw (rootOf i.frame.taskId * 2 ^ 32 + first))))) s

def execSpawn (f : LW) (s : State) : Out := spawn false f s
def execSpawnl (f : LW) (s : State) : Out := spawn true f s

/-! ### JOIN (07 R181) -/

/-- The acquire that ends a JOIN: at the widest completion scope, and no narrower than reaches the counter's home. -/
def State.joinAcquire (s : State) (k : Nat) (l : Loc) (v : Nat) : State :=
  let s := s.syncRec k l true false false
  let s := s.acquireAt k (max (jcWsc v) (homeScope (dieOf k) l))
  s.onInfo k (fun i => { i with killOk := false })

/-- While COUNT is not zero the JOIN spins; at D2 and D3 it waits for the task's next turn. -/
def execJoin (f : LW) (s : State) : Out :=
  cLong f false true (fun k s => do
    let a := (s.tk k).getS f.a
    if a = 0 then .error (.trap { code := Code.addressRange, addr := 0, write := true })
    else do
      let l ← liftR (s.jctrLoc k a)
      let (v, s) ← s.jcRead k l
      if jcCount v = 0 then do
        let s ← s.stampGate k f.stamp
        .ok ((s.joinAcquire k l v).onTk k (fun t => { t with cmd := none }))
      else match (s.tk k).cmd with
        | some (.spin _ _) => .error (.wait false)
        | _ => .error (.park (s.onTk k (fun t => { t with cmd := some (.spin s.now a) })))) s

/-! ### TEND (07 R182) -/

/-- Whether an engine job of the task on a Skillet is in flight (07 R178). -/
def State.jobsLeft (s : State) (k : Nat) : Bool :=
  let i := (s.sk k).info
  allDies.any (fun d => (s.die d).window.any (fun e => e.2.tid == i.id && e.2.launch == i.launch))

/-- Whether a die's replay stands at an entry that names a task, other than for the atomic of its completion release: the task reaches TEND
first (07 R182, 15 R399). -/
def State.namedByHead (s : State) (k : Nat) : Bool :=
  let i := (s.sk k).info
  match s.launch? i.launch with
  | none => false
  | some L =>
    match s.logLevel L.qid with
    | none => false
    | some v => allDies.any (fun d => s.named d L.qid k && match (s.replayHead 3 d L.qid v).1 with
      | some (a, _) => !(entryType a == 2 && i.frame.jctr != 0 && fld a 55 0 == i.frame.jctr.toNat)
      | none => false)

/-- The stamp of a TEND at D3: it waits for its frame; a frame that has passed raises nothing, since TEND has no exception of its own (07 R182, 15
R395, log 26). -/
def State.tendGate (s : State) (k : Nat) (stamp : BitVec 16) : Act :=
  need (s.levelOf k != 3 || decide ((s.sk k).info.stampL.toNat + stamp.toNat ≤ (s.sfcOf k).toNat)) (.wait false) |>.map (fun _ => s)

/-! #### The end of a task (07 R178, R182) -/

/-- The suspended task a counter's WAITER names (07 R177, R181). -/
def State.waiterOf (s : State) (asid waiter : Nat) : Option Saved :=
  (s.saved.find? (fun e => e.2.asid == asid && e.2.pool + 1 == waiter)).map (·.2)

def State.enlist (s : State) (v : Saved) : State := s.updDie v.die (fun D => { D with resume := D.resume ++ [v.info.id] })

/-- The completion release of a child (07 R178, R182). -/
def State.completeChild (s : State) (k : Nat) : Act :=
  let f := (s.sk k).info.frame
  if f.jctr = 0 then .ok s
  else match s.jctrLoc k f.jctr with
    | .error _ => .error (.fatal Code.joinFault f.jctr)
    | .ok l => do
      let s ← s.releaseAt k f.wscope
      let (old, s) ← s.jcAtomic k l (fun x =>
        let n := jcCount x + (2 ^ 32 - 1)
        jcMake (if jcCount x = 1 then 0 else jcWaiter x) (max (jcWsc x) f.wscope) n)
      let s := s.onInfo k TaskInfo.tickClk
      if jcCount old = 1 ∧ jcWaiter old ≠ 0 then
        match s.waiterOf (s.asidOf k) (jcWaiter old) with
        | some v => .ok (s.enlist v)
        | none => .ok s
      else .ok s

/-- A task of a launch has reached TEND: its launch, batch and team learn it (13 R327, R330, R340). -/
def Launch.taskDone (l : Launch) (i : TaskInfo) : Launch :=
  let root := rootOf i.frame.taskId
  let l := { l with
    live := l.live - 1
    batches := l.batches.map (fun b => if l.batchHas b root then { b with live := b.live - 1 } else b)
    ndone := if seqOf i.frame.taskId = 0 then l.ndone + 1 else l.ndone }
  if i.teamId = noTeam then l
  else { l with teams := l.teams.map (fun (n, t) =>
    if n = i.teamId.toNat then (n, { t with ended := t.ended ||| BitVec.ofNat 32 (1 <<< i.teamSlot) }) else (n, t)) }

/-- The end of the task of a Skillet whose engines have all reached TEND: leases, completion release, and the Skillet is free. What the release
must write first, and wait for, comes before anything ends (07 R182). -/
def State.endTask (s : State) (k : Nat) : Act := do
  let s ← if (s.sk k).info.frame.jctr = 0 then .ok s else s.releaseAt k (s.sk k).info.frame.wscope
  let s := (s.prefetchesDone k).endLeases k
  let s ← s.completeChild k
  let i := (s.sk k).info
  let s := s.updLaunch i.launch (fun l => { (l.taskDone i) with turns := l.turns.filter (· != k) })
  .ok (s.updSk k Skillet.clear)

/-- The C-engine stands at TEND and nothing holds the task: it has ended. At D2 and D3 its completion release is made in the same turn, since it
is a synchronisation access (07 R182, 15 R391, R393); below it follows as an action of the task unit. -/
def State.tendEffect (s : State) (k : Nat) : Act := do
  let s ← if s.levelOf k < 2 ∨ (s.sk k).info.frame.jctr = 0 then .ok s else s.releaseAt k (s.sk k).info.frame.wscope
  let s := (s.endEng k .C).memberEnded k
  if s.levelOf k < 2 then .ok s else s.endTask k

/-- TEND of the C-engine: it waits for the other engines, takes a fault of its jobs that is pending, waits for its turn and for the task's jobs; then
the task has ended. -/
def execTend (f : LW) (s : State) : Out :=
  let k := s.cur
  let t := s.tk k
  if (s.sk k).handler.isSome then .next (s.raise k .C { code := Code.illegalOp })
  else if t.a.st != .ended || t.v.st != .ended then .next (s.stallAt k .C true)
  else if (s.sk k).info.pend ≠ [] then .next (s.deliver k)
  else match s.turnGate k .C with
    | .error s' => .next s'
    | .ok s1 => .next (s1.settle k .C (do
        need (!s1.namedByHead k) (trapC Code.replayDivergence)
        need (!s1.jobsLeft k) (.wait false)
        let s2 ← s1.tendGate k f.stamp
        s2.tendEffect k))

/-! ### YIELD (07 R183) -/

def execYield (f : LW) (s : State) : Out :=
  cLong f false true (fun k s => do
    let s ← s.stampGate k f.stamp
    let give := s.resumable (dieOf k) (s.sk k).info.launch || s.higherWaiting k
    let s := s.onInfo k (fun i => { i with killOk := false })
    if give then
      let s := s.onInfo k (fun i => { i with stop := some (i.stop.getD .yield), yielded := i.yielded || i.stop == some .trap || i.stop == some .kill })
      .ok ((s.onTk k (fun t => t.setS f.d 1)).onEng k .C (fun E => { E with st := .stopped }))
    else .ok (s.onTk k (fun t => t.setS f.d 0))) s

end Sys2Proof.Machine
end

