-- ==== Sys2Proof/Machine/Tasks.lean ====
section
/-! DEFINITION. Shared by the task events and the dispatcher: free Skillets, giving a Skillet to a launch, reserving it for a
frame, starting a task, ending one, its place in batches and teams (07 R166 to R182, 08 R205, 13 R324 to R330). -/

namespace Sys2Proof.Machine

open Sys2Proof

/-! ### Skillets -/

/-- The first use of a Skillet by a launch writes the header of its spill area, an empty ring (07 R169, 13 R329). Where the area cannot be
written, it stays unwritten: only a spill ends the launch (log 26). -/
def State.openDeque (s : State) (k l : Nat) : State :=
  match s.launch? l with
  | none => s
  | some L =>
    if (Tbl.find L.rings k).isSome then s
    else
      let s := s.updLaunch l (fun L => { L with rings := Tbl.put L.rings k (0, 0) })
      match s.unitWr (dieOf k) L.asid (s.spillBase ⟨l, k⟩) (List.replicate 64 0) with
      | .ok s => s
      | .error (.mcheck kind pa) => s.noteErr (dieOf k) L.asid kind pa
      | .error _ => s

/-- A Skillet given to a launch: the entries another launch left in its hardware deque spill (07 R170). DESIGN CHOICE (log 59): a spill that faults
ends the launch the Skillet is given to; the rule does not say which of the two. -/
def State.giveSk (s : State) (k l : Nat) : Act :=
  if (s.sk k).launch = some l then .ok (s.updSk k (fun x => { x with pool := false, tried := [] }))
  else do
    let s ← match (s.sk k).launch with
      | some o => if (s.launch? o).isSome then s.spill ⟨o, k⟩ (s.sk k).hw.length else .ok s
      | none => .ok s
    .ok ((s.openDeque k l).updSk k (fun x => { x with launch := some l, hw := [], pool := false, tried := [] }))

/-- A frame handed to a Skillet of its launch, to start there. -/
def State.reserveSk (s : State) (k l : Nat) (f : Frame) (teamId : DWord) (slot : Nat) : State :=
  s.updSk k (fun x =>
    { x with reserved := true, tried := [], t := {}, info := { launch := l, frame := f, teamId := teamId, teamSlot := slot } })

/-! ### Starting -/

/-- The indices of iteration L, by level (13 R326). -/
def walkIdx (recd : List DWord) (L : Nat) : Tbl Nat :=
  let nlev := fld (recd.getD 1 0) 2 0
  let ext (lv : Nat) : Nat := let x := recd.getD (2 + lv / 2) 0; if lv % 2 = 0 then fld x 31 0 else fld x 63 32
  ((List.range nlev).reverse.foldl (fun (q, t) j =>
    let lv := fld (recd.getD 1 0) (10 + 3 * j) (8 + 3 * j)
    (q / max 1 (ext lv), Tbl.put t lv (q % max 1 (ext lv)))) (L, ([] : Tbl Nat))).2

/-- The argument registers a task starts with (07 R167, 13 R326, R327). -/
def startRegs (l : Launch) (i : TaskInfo) : List (Nat × DWord) :=
  if i.teamId ≠ noTeam then [(1, i.teamId), (2, dw i.teamSlot)]
  else if i.walker then (walkIdx l.recd (rootOf i.frame.taskId)).map (fun (lv, x) => (1 + lv, dw x))
  else [(1, i.frame.arg0), (2, i.frame.arg1), (3, i.frame.arg2), (4, i.frame.arg3), (5, i.frame.jctr)]

/-- The issue state of a task at its first instruction (01 R30, 04 R93). DESIGN CHOICE (log 59): R93 gives MBOX the launch's values, else 0, without
saying which tasks are the launch's: every task of a launch gets them here, spawned ones too. -/
def startIssue (l : Launch) (i : TaskInfo) : Issue :=
  let E : Eng := { pc := BitVec.ofNat 56 i.frame.entry }
  let regs := (startRegs l i).filter (fun r => r.2 != 0)
  let mbox := ((List.range 16).map (fun j => (j, l.recd.getD (8 + j) 0))).filter (fun r => r.2 != 0)
  { c := E, a := E, v := E, s := regs, ar := regs, mbox := mbox }

/-- SCLK at the start: 1 for a launch-started task, the parent's advanced clock for a spawned one (08 R205). -/
def Launch.startClk (l : Launch) (tid : DWord) : Nat :=
  if seqOf tid = 0 then 1
  else ((l.clks.find? (fun c => c.root == rootOf tid && decide (c.first ≤ seqOf tid) && decide (seqOf tid < c.first + c.n))).map
    (·.clk)).getD 1

/-- The scope of a task's completion release, fixed when it is taken: no narrower than die, and wide enough for the home of its counter (07 R179). -/
def State.wscope (s : State) (k l : Nat) (f : Frame) : Nat :=
  if f.jctr = 0 then max f.rscope 1
  else match s.xlate (s.dTlbs (dieOf k)) (s.asidL l) f.jctr.toNat .wr with
    | .ok c => max f.rscope (homeScope (dieOf k) c)
    | .error _ => max f.rscope 1

/-- The task of a frame starts on a Skillet reserved for it; its start is an acquire of the SpawnRelease (07 R167, R184). -/
def State.startTask (s : State) (k : Nat) : State :=
  let i := (s.sk k).info
  match s.launch? i.launch with
  | none => s
  | some l =>
    let w := s.wscope k i.launch i.frame
    let f := { i.frame with state := .taken, wscope := w, wide := decide (i.frame.rscope < w) }
    let acq := if seqOf f.taskId = 0 then 0 else if dieOf f.owner = dieOf k then f.rscope else max f.rscope 2
    let t := startIssue l i
    let s := s.updSk k (fun x =>
      { x with busy := true, reserved := false, t := t, scr := []
               info := { launch := i.launch, frame := f, teamId := i.teamId, teamSlot := i.teamSlot, id := s.nextId
                         sclk := l.startClk f.taskId, started := decide (l.level < 2) } })
    let s := { s with nextId := s.nextId + 1 }
    let s := s.updLaunch i.launch (fun l =>
      { l with started := some (l.started.getD s.now), startOn := Tbl.upd s.now l.startOn (dieOf k) id })
    let s := s.onInfo k (fun i => { i with stampL := s.sfcOf k })
    s.acquireAt k acq

/-! ### Ending -/

/-- A team all of whose members have ended, and of which no entry is left in the deques of its places, gives the places up for good (13 R327). -/
def State.dropTeams (s : State) (l : Nat) : State :=
  match s.launch? l with
  | none => s
  | some L =>
    let gone (t : Team) : Bool := match t.base with
      | none => false
      | some b => t.ended.toNat % 2 ^ L.size == 2 ^ L.size - 1 && (List.range L.size).all (fun i => s.dequeLen ⟨l, b + i⟩ == 0)
    if L.teams.any (fun e => gone e.2) then
      s.updLaunch l (fun L => { L with teams := L.teams.map (fun (e : Nat × Team) => if gone e.2 then (e.1, { e.2 with base := none }) else e) })
    else s

end Sys2Proof.Machine
end

