-- ==== Sys2Proof/Machine/TaskEvents.lean ====
section
/-! DEFINITION. The events of the task unit: pops, steals, starts, completion releases, a JOIN that suspends, resumption (07
R167 to R182, 12 R310). An event whose condition does not hold changes nothing (log 12). -/

namespace Sys2Proof.Machine

open Sys2Proof

/-- The state after an event: `f s` if it can happen, `s` itself if not. -/
def event (c : Bool) (s : State) (f : State → State) : Out := .next (if c then f s else s)

/-- Whether a die may start a task of a launch: the launch runs, and its queue's log is not shut (15 R398). -/
def State.taskMayStart (s : State) (k l : Nat) : Bool :=
  match s.launch? l with
  | some L => L.ending.isNone && !s.logShut (dieOf k) L.qid
  | none => false

def execDequePop (sk : Nat) (s : State) : Out :=
  match (s.sk sk).launch with
  | none => .next s
  | some l =>
    event (s.seeks sk l) s (fun s =>
      match s.ownPop ⟨l, sk⟩ with
      | .ok (some f, s') => (s'.reserveSk sk l f noTeam 0).dropTeams l
      | .ok (none, s') => s'
      | .error e => s.unitEnd l (dieOf sk) 0 (.error e))

def execTaskStart (sk : Nat) (s : State) : Out :=
  let i := (s.sk sk).info
  event ((s.sk sk).reserved && !(s.sk sk).busy && s.taskMayStart sk i.launch) s (fun s =>
    if i.teamId = noTeam then s.startTask sk
    else
      (allSks.filter (fun k => (s.sk k).reserved && (s.sk k).info.launch == i.launch && (s.sk k).info.teamId == i.teamId)).foldl
        (fun s k => s.startTask k) s)

/-! ### Steals (07 R173, R174) -/

/-- Whether priorities forbid a steal round on a die: a head that may use the die drains it or has aged, of a priority no lower (13 R335). -/
def State.noSteals (s : State) (d prio : Nat) : Bool :=
  (s.headsFor d).any (fun (e, i, q, h) =>
    decide (prio ≤ q.prio) && (decide (64 ≤ h.age) || (s.die d).draining == some (64 * e + i)))

/-- The victims of a thief in the order of a round: the other Skillets of its die in the launch, from its own number up, round; at D0 then those of the
other dies, from its own logical number (07 R173). -/
def State.victims (s : State) (thief l : Nat) : List Nat :=
  match s.launch? l with
  | none => []
  | some L =>
    let d := dieOf thief
    let ring (e first n : Nat) : List Nat := (List.range n).map (fun j => 32 * e + (first + j) % 32)
    let far := if L.level = 0 then [1, 2, 3].flatMap (fun j => ring ((d + j) % 4) (thief % 32) 32) else []
    (ring d (thief % 32 + 1) 31 ++ far).filter (fun v => (Tbl.find L.rings v).isSome || (s.sk v).launch == some l)

/-- In replay, the steal that the head of the thief's die directs: none where the queue does not replay (15 R399). -/
def State.imposedSteal (s : State) (thief l : Nat) : Option (Option Nat) :=
  match (s.launch? l).bind (fun L => (s.logLevel L.qid).map (fun v => (L.qid, v))) with
  | none => none
  | some (q, v) =>
    if v.mode != 2 || (s.logOf (dieOf thief) q).done then none
    else match (s.replayHead 3 (dieOf thief) q v).1 with
    | some (a, _) => some (if entryType a = 1 ∧ fld a 52 46 = thief then some (fld a 45 39) else none)
    | none => some none

/-- The next victim of a thief's round. -/
def State.nextVictim (s : State) (thief l : Nat) : Option Nat :=
  match s.imposedSteal thief l with
  | some v => v
  | none => (s.victims thief l).find? (fun v => !(s.sk thief).tried.contains v)

/-- Whether some victim's bottom entry is ready for a thief (07 R173, 13 R332). -/
def State.canSteal (s : State) (thief l : Nat) : Bool :=
  !s.noSteals (dieOf thief) (((s.launch? l).map (·.prio)).getD 0) && (s.victims thief l).any (fun v => match s.bottom ⟨l, v⟩ with
    | .ok (some f, _) => f.state == .ready
    | _ => false)

/-- A try that found nothing: with no victim left the round has failed, and the Skillet returns to its die's pool (07 R173, 13 R335). -/
def State.roundFail (s : State) (thief l : Nat) : State :=
  if (s.nextVictim thief l).isSome then s
  else (s.updLaunch l (fun L => { L with stealFail := Tbl.put L.stealFail (dieOf thief) s.now })).updSk thief (fun x =>
    { x with tried := [], pool := true })

/-- A try that failed: the victim counts as tried in this round. -/
def State.tryFail (s : State) (thief victim l : Nat) : State :=
  (s.updSk thief (fun x => { x with tried := if x.tried.contains victim then x.tried else x.tried ++ [victim] })).roundFail thief l

/-- The try of one victim, and the claim of its bottom entry where that is ready. A claim whose entry finds no room in the log waits: the try
has neither failed nor succeeded (15 R398). -/
def State.tryVictim (s : State) (thief victim l : Nat) : State :=
  match s.bottom ⟨l, victim⟩ with
  | .error e => s.unitEnd l (dieOf victim) 0 (.error e)
  | .ok (none, s) => s.tryFail thief victim l
  | .ok (some f, s) =>
    if f.state ≠ .ready then s.tryFail thief victim l
    else
      let h := if f.range then ceilDiv f.count 2 else 1
      let qid := ((s.launch? l).map (·.qid)).getD 0
      match s.decideLog (dieOf thief) qid (decSteal thief victim h f.taskId) [] with
      | .error _ => s
      | .ok s =>
        s.unitEnd l (dieOf victim) 0 (do
          let f := { f with state := .claimed, claimer := thief }
          let s ← s.setBottom ⟨l, victim⟩ (some f)
          .ok (s.updSk thief (fun x => { x with tried := [], claim := some ⟨victim, h, f, l, none⟩ })))

/-- The take of a claimed entry: the remainder stays ready, the thief gets iteration 0 and a range of the rest (07 R174). -/
def State.take (s : State) (thief : Nat) (c : Claim) : Act := do
  let h := c.h
  let s := if dieOf thief = dieOf c.victim then s else s.writeThroughAll (dieOf c.victim)
  let s ← s.setClaimed ⟨c.launch, c.victim⟩ c.frame.claimer (fun f =>
    if f.range ∧ h < f.count then
      some { f with arg0 := f.arg0 + dw h, count := f.count - h, taskId := seqPlus f.taskId h, state := .ready, claimer := 0 }
    else none)
  let s := s.updSk thief (fun x => { x with claim := none })
  let f := c.frame
  let mine := { f with count := 1, state := .taken, claimer := 0, stolen := true }
  let s ← if 1 < h then
      s.push ⟨c.launch, thief⟩
        { f with arg0 := f.arg0 + 1, count := h - 1, taskId := seqPlus f.taskId 1, owner := thief, state := .ready, claimer := 0 }
    else .ok s
  .ok ((((s.reserveSk thief c.launch mine noTeam 0).startTask thief).onInfo thief (fun i => { i with drain := c.drain })).dropTeams c.launch)

def execStealTake (thief : Nat) (s : State) : Out :=
  match (s.sk thief).claim with
  | none => .next s
  | some c => event (!(s.sk thief).busy && s.taskMayStart thief c.launch) s (fun s => s.unitEnd c.launch (dieOf c.victim) 0 (s.take thief c))

/-! ### The end of a task -/

/-- Below D2, and for a task whose release had to wait, the completion release follows TEND; an exception of it is taken at the TEND (07 R182). -/
def execCompletionRelease (sk : Nat) (s : State) : Out :=
  let x := s.sk sk
  event (x.busy && x.halted.isNone && x.handler.isNone && x.t.allEnded) s (fun s =>
    (s.taskEnd sk (s.endTask sk)).dropTeams x.info.launch)

/-! ### JOIN (07 R181) -/

/-- Cycles a JOIN spins. -/
def joinSpin : Nat := 2048

/-- The spin of a JOIN is over. At D2 and D3, where the counter is read in turns only, the stop is asked for and the rest waits for the turn. -/
def execJoinSpinExpiry (sk : Nat) (s : State) : Out :=
  let x := s.sk sk
  match x.t.cmd with
  | some (.spin since a) =>
    let room := (s.freePool (s.asidOf sk)).isSome && s.listRoom (dieOf sk)
    event (x.busy && x.halted.isNone && x.handler.isNone && decide (since + joinSpin ≤ s.now) && x.info.stop.isNone) s (fun s =>
      if 2 ≤ s.levelOf sk then (if room then s.reqStop sk .join else s)
      else match s.jctrLoc sk a with
      | .error _ => s
      | .ok l =>
        match s.jcRead sk l with
        | .error _ => s
        | .ok (v, s) =>
          if jcCount v = 0 then s
          else if jcWaiter v ≠ 0 then s.raise sk .C { code := Code.joinBusy }
          else if room then s.reqStop sk .join
          else s)
  | _ => .next s

/-! ### Resumption (12 R310) -/

/-- A saved task taken from the list: one that was saved between claim and take gets its claim back, and the take follows
(07 R175). -/
def State.resume (s : State) (k : Nat) (v : Saved) : State :=
  let s := s.updDie (dieOf k) (fun D => { D with resume := D.resume.filter (· != v.info.id) })
  match v.taken with
  | none => s.loadTask k v
  | some c =>
    let s := { s with saved := Tbl.del s.saved v.info.id }
    let bad (s : State) : State := s.endLaunch c.launch ⟨1, Code.badRecord, dieOf k, c.frame.taskId, 0⟩
    match s.getRecord v.die v.asid v.base (recSize / 65536) with
    | .ok (im, s) => if recOk im then s.updSk k (fun x => { x with claim := some c }) else bad s
    | .error (.mcheck kind pa) => s.unitEnd c.launch (dieOf k) c.frame.taskId (.error (.mc kind pa))
    | .error _ => bad s

def execTaskResume (sk : Nat) (s : State) : Out :=
  match (s.sk sk).launch with
  | none => .next s
  | some l =>
    match s.resumeNext sk l with
    | some v => event (s.mayTake sk l) s (fun s => s.resume sk v)
    | none => .next s

end Sys2Proof.Machine
end

