-- ==== Sys2Proof/Machine/GriddleEvents.lean ====
section
/-! DEFINITION. Events of the Griddle: starts, completions and halts of jobs, reshapes, frees, grants and revocations (09 R220,
R221, R226, R233, R241, R242). -/

namespace Sys2Proof.Machine

open Sys2Proof

/-! ### Jobs -/

/-- A queued job whose edges allow joins its wait; one that is ready runs. -/
def State.startJob (s : State) (d w : Nat) : State :=
  let s : State := match s.job? d w with
    | some j => if j.st == JobState.queued then s.joinWait d w j else s
    | none => s
  s.updJob d w (fun j => if j.st == JobState.ready then { j with st := .running } else j)

/-- Whether a job may join its wait or start: edges satisfied and, for a wait, the order class allowing (10 R249, R270). -/
def State.mayStart (s : State) (d : Nat) (j : Job) : Bool :=
  j.st == .ready || (j.st == .queued && s.edgesClear d j && ((waitSem j.card j.srcDie).isNone || s.classClear j))

def execGriddleJobStart (die slab : Nat) (s : State) : Out :=
  match s.headJob die slab with
  | none => .next s
  | some (w, _, j) => event (j.kind != .greshape && s.mayStart die j) s (fun s => s.startJob die w)

/-- The head job of a slab, if it runs. -/
def State.runningHead (s : State) (die slab : Nat) : Option GJob :=
  match s.headJob die slab with
  | some (w, b, j) => if j.st = .running ∧ !b.halt then some ⟨die, w, slab, j⟩ else none
  | none => none

/-- A Griddle job that writes memory or the scratchpad. -/
def Job.gWrites (j : Job) : Bool := j.kind == .gdrain || j.kind == .gsave

/-- A Griddle job that writes nothing outside its slab and signals nothing: its order class does not hold it back (10 R249). -/
def Job.silent (j : Job) : Bool := (sigSem j.card j.srcDie).isNone && !j.gWrites

/-- The flags of a job, set in its slab's status at its completion (09 R226, R243). -/
def State.slabFlags (s : State) (g : GJob) : State :=
  match s.job? g.d g.w with
  | none => s
  | some j => s.onSlab g (fun b => { b with sat := b.sat || j.sat, of := b.of || j.of, nv := b.nv || j.nv, zs := b.zs || j.zs })

def execGriddleJobComplete (die slab : Nat) (s : State) : Out :=
  match s.runningHead die slab with
  | none => .next s
  | some g =>
    match s.runGriddle g with
    | (s', none) => event (s.classClear g.j || g.j.silent) s (fun _ => (s'.slabFlags g).finishJob die g.w g.j)
    | (_, some _) => .next s

/-- A job that stops: the steps before its fault stand, so a job that writes stops once its order class allows (10 R249). BAD-IMAGE ends the
job, other faults halt it, an uncorrectable error aborts it. -/
def execGriddleJobHalt (die slab : Nat) (s : State) : Out :=
  match s.runningHead die slab with
  | none => .next s
  | some g =>
    let free := s.classClear g.j || !g.j.gWrites
    match s.runGriddle g with
    | (_, none) => .next s
    | (s', some (.fault r)) =>
      event free s (fun _ =>
        if r.code = Code.badImage then (s'.notifyTask die g.w g.j r).dropJob die g.w else s'.haltJob die g.w g.j r)
    | (_, some (.after s' r)) => event free s (fun _ => s'.haltJob die g.w g.j r)
    | (s', some (.mc kind pa)) => event free s (fun _ => s'.mcJob die g.w g.j kind pa)

/-! ### GRESHAPE and GFREE -/

/-- The Skillet of a die whose C-engine stands at a command that satisfies a test. -/
def State.standing (s : State) (die : Nat) (p : PendCmd → Bool) : Option Nat :=
  ((List.range 32).map (32 * die + ·)).find? (fun k => (s.sk k).busy && (s.sk k).halted.isNone && match (s.tk k).cmd with
    | some c => p c
    | none => false)

/-- A pending command's destination and token field. -/
def PendCmd.ret : PendCmd → Ret
  | .accept _ _ r => r
  | .grant _ r => r
  | .act _ _ r => r
  | .free _ r => r
  | .whisk _ r => r
  | .handle _ _ _ _ r => r
  | .sem _ _ tok => ⟨0, tok⟩
  | .spin _ _ => ⟨0, 0⟩
  | .phase _ _ _ _ r => r

/-- The pending command of a Skillet's C-engine has completed: it retires. -/
def State.cmdDone (s : State) (k : Nat) (r : Ret) : State :=
  (s.onTk k (fun t => { t with cmd := none })).retire k .C 8 r.tok

/-- Whether no C-engine comes back to an accepted GRESHAPE: its task has gone, or goes on at another address or on another die. -/
def State.strayed (s : State) (j : Job) : Bool :=
  match s.taskAt j.tid with
  | none => (Tbl.find s.saved j.tid).isNone
  | some k => (s.sk k).handler.isNone && (dieOf k != j.srcDie || j.rec1 != [(s.tk k).c.pc.setWidth 64])

def execGreshapeAct (die slab : Nat) (s : State) : Out :=
  match s.headJob die slab with
  | none => .next s
  | some (w, b, j) =>
    if j.kind ≠ .greshape then .next s
    else
      let here (c : PendCmd) : Bool := match c with
        | .act i v _ => i == slab && v == w
        | _ => false
      match s.standing die here with
      | some k =>
        let r := ((s.tk k).cmd.map PendCmd.ret).getD ⟨0, 0⟩
        .next (match s.actReshape k slab w r.d with
          | some s' => s'.cmdDone k r
          | none => s)
      | none =>
        event (s.strayed j) s (fun s =>
          match slabReq j.fmt with
          | .ok q => (s.updSlab die slab (fun _ => (s.reshape die slab b q).2)).dropJob die w
          | .error _ => s.dropJob die w)

def execGfreeRelease (die slab : Nat) (s : State) : Out :=
  match Tbl.find (s.die die).slabs slab with
  | none => .next s
  | some b =>
    let here (c : PendCmd) : Bool := match c with
      | .free i _ => i == slab
      | _ => false
    match s.standing die here with
    | some k => event (b.closing && b.queue.isEmpty) s (fun s => (s.freeSlab die slab).cmdDone k (((s.tk k).cmd.map PendCmd.ret).getD ⟨0, 0⟩))
    | none => event (b.closing && b.queue.isEmpty && (s.taskAt b.freer).isNone && (Tbl.find s.saved b.freer).isNone) s
        (fun s => s.freeSlab die slab)

/-! ### Leases -/

def execLeaseGrant (die slab : Nat) (s : State) : Out := .next (s.grant die slab)

/-- Idle cycles after which a holder loses its lease to a waiter. -/
def leaseIdle : Nat := 65536

/-- Revocation: the lease is saved with its task, whose Skillet joins the round-robin again. A command of the holder accepted in the cycle it is
due comes first (09 R220, R221, R245). -/
def execLeaseRevocation (die slab : Nat) (s : State) : Out :=
  match Tbl.find (s.die die).slabs slab with
  | none => .next s
  | some b =>
    match b.lease with
    | none => .next s
    | some l =>
      event (!b.waiters.isEmpty && decide (b.queue.length < 32) && decide (l.idle + leaseIdle < s.now)) s (fun s =>
        let s := s.updSlab die slab (fun b => { b with lease := none, waiters := b.waiters ++ [⟨l.sk, l.set, l.budget, l.fmts, true, s.now⟩] })
        s.onInfo l.sk (fun t => { t with saved := t.saved ++ [⟨b.sref die slab, l.set, l.budget, l.fmts⟩] }))

end Sys2Proof.Machine
end

