-- ==== Sys2Proof/Machine/ColanderEvents.lean ====
section
/-! DEFINITION. Events of the job window and the Colander (10 R247, R250, R257 to R260, R262, R266). -/

namespace Sys2Proof.Machine

open Sys2Proof

/-- A command that waits for room in a window or a slab's queue is accepted and retires; at D2 and D3 it is accepted in its turn (15
R391). -/
def execJobWindowAccept (sk : Nat) (s : State) : Out :=
  match (s.tk sk).cmd with
  | some (.accept e j r) =>
    event ((s.sk sk).busy && (s.sk sk).halted.isNone && (s.sk sk).info.stop.isNone && !j.sent
        && ((s.sk sk).handler.isSome || decide (s.levelOf sk < 2))) s (fun s =>
      match s.acceptJob sk e j with
      | none => s
      | some (w, s) =>
        if j.kind = .greshape then s.onTk sk (fun t => { t with cmd := some (.act j.slab w r) })
        else (s.giveId sk r.d e w).cmdDone sk r)
  | _ => .next s

/-! ### Starts -/

/-- Colander engines of a die. -/
def copyEngines : Nat := 4

/-- Whether a queued or ready copy could be given to an engine now. -/
def State.copyReady (s : State) (d : Nat) (j : Job) : Bool :=
  j.st == .ready || (j.st == .queued && (waitSem j.card j.srcDie).isNone && s.edgesClear d j)

/-- Whether what a gather or scatter reads at its start is still to be read. -/
def Job.unbegun (j : Job) : Bool := (j.kind == .cpyg || j.kind == .cpys) && !j.sent

/-- A running copy makes its start action; a fault halts it. -/
def State.begin (s : State) (d w : Nat) : State :=
  match s.job? d w with
  | none => s
  | some j =>
    if j.st == JobState.running && j.unbegun then
      if j.kind = .cpyg ∧ !s.classClear j then s
      else match s.beginCopy d w j with
        | .ok s => s
        | .error e => s.jobStop d w j e
    else s

def execColanderJobStart (die win : Nat) (s : State) : Out :=
  match s.job? die win with
  | none => .next s
  | some j =>
    if !j.kind.colander then .next s
    else if j.st = .running then .next (s.begin die win)
    else event (s.mayStart die j) s (fun s =>
      let s : State := if j.st == JobState.queued then s.joinWait die win j else s
      let first := (s.die die).window.all (fun e => !e.2.kind.colander || decide (j.ord ≤ e.2.ord) || !s.copyReady die e.2)
      if ((s.job? die win).map (·.st)) = some .ready ∧ first ∧ (s.die die).cengs.length < copyEngines then
        let s := s.updJob die win (fun j => { j with st := .running })
        (s.updDie die (fun D => { D with cengs := D.cengs ++ [win] })).begin die win
      else s)

/-! ### Chunks -/

/-- A running copy whose start action is done. -/
def State.runningCopy (s : State) (d w : Nat) : Option Job :=
  (s.job? d w).filter (fun j => j.kind.colander && j.st == .running && !j.unbegun)

def execColanderChunkLand (die win chunk : Nat) (s : State) : Out :=
  match s.runningCopy die win with
  | none => .next s
  | some j =>
    if j.far then
      event (s.classClear j) s (fun s => match s.sendNext die win j with
        | .ok (some s) => s
        | _ => s)
    else
      event (decide (chunk < j.nChunks) && !j.landed.contains chunk && s.classClear j) s (fun s =>
        match s.copyChunk die win j chunk with
        | .ok s => s.landChunk die win j chunk
        | .error _ => s)

/-- Whether a stopped access left granules written. -/
def JStop.wrote : JStop → Bool
  | .after _ _ => true
  | _ => false

/-- A fault halts a copy at a chunk boundary: at a chunk, at a packet of a far copy, or at the flag after the last chunk. One that left part
of a chunk written waits for its order class (10 R249). -/
def execColanderJobHalt (die win chunk : Nat) (s : State) : Out :=
  match s.runningCopy die win with
  | none => .next s
  | some j =>
    if j.far then
      match s.sendNext die win j with
      | .error e => .next (s.jobStop die win j e)
      | .ok _ => .next s
    else if chunk < j.nChunks then
      event (!j.landed.contains chunk) s (fun s => match s.copyChunk die win j chunk with
        | .ok _ => s
        | .error e => if e.wrote && !s.classClear j then s else s.jobStop die win j e)
    else
      event (decide (j.nChunks ≤ j.landed.length) && j.kind == .cpyr && cpFen j.card) s (fun s => match s.addFlag die win j with
        | .ok _ => s
        | .error e => s.jobStop die win j e)

/-! ### Completion -/

/-- The flags of a copy go to its slot's count word (10 R260). -/
def State.reportFlags (s : State) (j : Job) : State :=
  if cpBen j.card then
    s.updSlot j.srcDie (cpSlot j.card) (fun b => { b with sat := b.sat || j.sat, of := b.of || j.of, nv := b.nv || j.nv })
  else s

def execColanderJobComplete (die win : Nat) (s : State) : Out :=
  match s.runningCopy die win with
  | none => .next s
  | some j =>
    let fen := j.kind == .cpyr && cpFen j.card
    let bare := j.nChunks == 0 && (sigSem j.card j.srcDie).isNone && !cpBen j.card && !fen
    event (!j.unread && decide (j.nChunks ≤ j.landed.length) && (s.classClear j || bare) && (!j.far || !fen || j.flagged)) s (fun s =>
      match (if fen && !j.far then s.addFlag die win j else .ok s) with
      | .error _ => s
      | .ok s =>
        let s := (s.scatterDone j).reportFlags j
        if xChk (cpX j.card) && crc32c j.checkedBytes != fld (cpX j.card) 63 32 then
          (s.notifyTask die win j { code := Code.checkMismatch, addr := caddr j.card 10 }).dropJob die win
        else s.finishJob die win j)

end Sys2Proof.Machine
end

