-- ==== Sys2Proof/Machine/ControlArith.lean ====
section
/-! DEFINITION. C-engine arithmetic: register and immediate forms, constants (04 R81 to R90). -/

namespace Sys2Proof.Machine

open Sys2Proof

/-! ### The computations (04 R83 to R88) -/

def mulHi (x y : Int) : DWord := wrapD ((x * y) / (2 ^ 64 : Nat))
def sraD (a : DWord) (n : Nat) : DWord := a.sshiftRight n
def rotD (a : DWord) (n : Nat) : DWord := a.rotateRight n
def sltD (a b : DWord) : Bool := decide (sgn a < sgn b)
def ultD (a b : DWord) : Bool := decide (a.toNat < b.toNat)
def boolD (c : Bool) : DWord := if c then 1 else 0

/-- Quotient and remainder of DIV and REM (04 R84). -/
def divS (a b : DWord) : DWord × DWord :=
  let x := sgn a
  let y := sgn b
  if y = 0 then (wrapD (-1), a)
  else (wrapD (Int.tdiv x y), wrapD (Int.tmod x y))

/-- Quotient and remainder of DIVN and REMN (04 R84). -/
def divU (a b : DWord) : DWord × DWord :=
  if b = 0 then (0xFFFFFFFFFFFFFFFF, a) else (dw (a.toNat / b.toNat), dw (a.toNat % b.toNat))

def popBits : Nat → Nat → Nat
  | 0, _ => 0
  | n + 1, x => x % 2 + popBits n (x / 2)

def ctzBits : Nat → Nat → Nat
  | 0, _ => 0
  | n + 1, x => if x % 2 = 1 then 0 else 1 + ctzBits n (x / 2)

def clzD (a : DWord) : DWord := if a = 0 then 64 else dw (63 - Nat.log2 a.toNat)
def ctzD (a : DWord) : DWord := dw (ctzBits 64 a.toNat)
def popD (a : DWord) : DWord := dw (popBits 64 a.toNat)

/-- Position, length and sign bit of a bit-field control word (04 R87). -/
def bfPos (b : DWord) : Nat := fld b 5 0
def bfLen (b : DWord) : Nat := min (fld b 14 8) (64 - bfPos b)

def bfxD (a b : DWord) : DWord :=
  if bfLen b = 0 then 0
  else
    let f := fld a (bfPos b + bfLen b - 1) (bfPos b)
    if b.getLsbD 15 then wrapD (signExt f (bfLen b)) else dw f

def bfiD (d a b : DWord) : DWord := if bfLen b = 0 then d else insertBits d (bfPos b) (bfLen b) (a.toNat % 2 ^ bfLen b)

/-! ### The instructions -/

def execAdd (f : CR) (s : State) : Out := cBinary f (· + ·) s
def execSub (f : CR) (s : State) : Out := cBinary f (· - ·) s
def execMul (f : CR) (s : State) : Out := cBinary f (· * ·) s
def execMulh (f : CR) (s : State) : Out := cBinary f (fun a b => mulHi (sgn a) (sgn b)) s
def execMulhn (f : CR) (s : State) : Out := cBinary f (fun a b => mulHi (a.toNat : Int) (b.toNat : Int)) s
def execDiv (f : CR) (s : State) : Out := cBinary f (fun a b => (divS a b).1) s
def execDivn (f : CR) (s : State) : Out := cBinary f (fun a b => (divU a b).1) s
def execRem (f : CR) (s : State) : Out := cBinary f (fun a b => (divS a b).2) s
def execRemn (f : CR) (s : State) : Out := cBinary f (fun a b => (divU a b).2) s
def execAnd (f : CR) (s : State) : Out := cBinary f (· &&& ·) s
def execOr (f : CR) (s : State) : Out := cBinary f (· ||| ·) s
def execXor (f : CR) (s : State) : Out := cBinary f (· ^^^ ·) s
def execAndn (f : CR) (s : State) : Out := cBinary f (fun a b => a &&& ~~~b) s
def execShl (f : CR) (s : State) : Out := cBinary f (fun a b => a <<< shiftAmt b) s
def execShr (f : CR) (s : State) : Out := cBinary f (fun a b => a >>> shiftAmt b) s
def execSra (f : CR) (s : State) : Out := cBinary f (fun a b => sraD a (shiftAmt b)) s
def execRot (f : CR) (s : State) : Out := cBinary f (fun a b => rotD a (shiftAmt b)) s
def execMin (f : CR) (s : State) : Out := cBinary f (fun a b => if sltD a b then a else b) s
def execMax (f : CR) (s : State) : Out := cBinary f (fun a b => if sltD a b then b else a) s
def execMinn (f : CR) (s : State) : Out := cBinary f (fun a b => if ultD a b then a else b) s
def execMaxn (f : CR) (s : State) : Out := cBinary f (fun a b => if ultD a b then b else a) s
def execSlt (f : CR) (s : State) : Out := cBinary f (fun a b => boolD (sltD a b)) s
def execSltn (f : CR) (s : State) : Out := cBinary f (fun a b => boolD (ultD a b)) s
def execSeq (f : CR) (s : State) : Out := cBinary f (fun a b => boolD (a == b)) s
def execSel (f : CR) (s : State) : Out := cTernary f (fun d a b => if d = 0 then b else a) s
def execClz (f : CR) (s : State) : Out := cBinary f (fun a _ => clzD a) s
def execCtz (f : CR) (s : State) : Out := cBinary f (fun a _ => ctzD a) s
def execPopc (f : CR) (s : State) : Out := cBinary f (fun a _ => popD a) s
def execBfx (f : CR) (s : State) : Out := cBinary f bfxD s
def execBfi (f : CR) (s : State) : Out := cTernary f bfiD s
def execAddi (f : CI) (s : State) : Out := cImm f (· + ·) s
def execAndi (f : CI) (s : State) : Out := cImm f (· &&& ·) s
def execOri (f : CI) (s : State) : Out := cImm f (· ||| ·) s
def execXori (f : CI) (s : State) : Out := cImm f (· ^^^ ·) s
def execShli (f : CI) (s : State) : Out := cImm f (fun a i => a <<< shiftAmt i) s
def execShri (f : CI) (s : State) : Out := cImm f (fun a i => a >>> shiftAmt i) s
def execSrai (f : CI) (s : State) : Out := cImm f (fun a i => sraD a (shiftAmt i)) s
def execLi (f : CU) (s : State) : Out := cWrite f.tok f.d (fun _ => f.imm.signExtend 64) s
def execLih (f : CU) (s : State) : Out := cWrite f.tok f.d (fun t => (t.getS f.d <<< 14) ||| f.imm.setWidth 64) s
def execAddpc (f : CU) (s : State) : Out := cWrite f.tok f.d (fun t => t.c.pc.setWidth 64 + 4 * f.imm.signExtend 64) s

end Sys2Proof.Machine
end

