-- ==== Sys2Proof/Machine/ControlMisc.lean ====
section
/-! DEFINITION. The other C-engine words: NOP, the C-store, the special registers with JOBCTL, SEND and RECV (04 R91 to R96,
12 R302, R303, R306). -/

namespace Sys2Proof.Machine

open Sys2Proof

def execNop (f : CU) (s : State) : Out := cWord f.tok none none (fun _ s => .ok s) s

/-! ### The C-store (04 R91) -/

/-- The index of a C-store access, or CSTORE-BOUND. -/
def cstIndex (base : DWord) (imm : BitVec 8) : Except Stop Nat :=
  let i : Int := (base.toNat : Int) + imm.toInt
  if 0 ≤ i ∧ i < 512 then .ok i.toNat else .error (trapC Code.cstoreBound)

def execLdc (f : CI) (s : State) : Out :=
  cWord f.tok none none (fun k s => do
    let i ← cstIndex ((s.tk k).getS f.a) f.imm
    .ok (s.onTk k (fun t => t.setS f.d (Tbl.look 0 t.cst i)))) s

def execStc (f : CI) (s : State) : Out :=
  cWord f.tok none none (fun k s => do
    let i ← cstIndex ((s.tk k).getS f.a) f.imm
    .ok (s.onTk k (fun t => { t with cst := Tbl.set 0 t.cst i (t.getS f.d) }))) s

/-! ### Special registers (04 R92, R93, 12 R302) -/

/-- Whether an index is a special register of a task (04 R93). -/
def sprListed (i : Nat) : Bool := decide (i ≤ 0x0B) || (decide (0x10 ≤ i) && decide (i ≤ 0x1F))

/-- The value of a special register, system space included, or ILLEGAL-OP (04 R92, 12 R302). -/
def State.readSpr (s : State) (k i : Nat) : Except Stop DWord :=
  if i < 0x800 then (if sprListed i then .ok (s.sprOf k i) else .error (trapC Code.illegalOp))
  else match (s.sk k).handler with
  | none => .error (trapC Code.illegalOp)
  | some h =>
    match i with
    | 0x800 => .ok h.cause
    | 0x801 => .ok h.taddr
    | 0x802 => .ok h.tinfo
    | 0x803 => .ok (dw h.base)
    | 0x804 => .ok h.jobctl
    | 0x805 => .ok (dw (s.asidOf k))
    | _ => .error (trapC Code.illegalOp)

/-- Whether an access to a special register does not raise ILLEGAL-OP. -/
def notIllegal {α : Type} : Except Stop α → Bool
  | .error (.trap r) => r.code != Code.illegalOp
  | _ => true

def execSrd (f : CK) (s : State) : Out :=
  legalC (notIllegal (s.readSpr s.cur f.idx.toNat)) (cWord f.tok none none (fun k s => do
    let v ← s.readSpr k f.idx.toNat
    .ok (s.onTk k (fun t => t.setS f.r v)))) s

/-- The halted job of the interrupted task that an id names, or SYS-ARG (12 R303). -/
def State.haltedJob (s : State) (k : Nat) (id : DWord) : Except Stop (Nat × Nat) :=
  match s.jobOfId id with
  | some (d, w, j) =>
    if j.st.isHalted ∧ j.tid = (s.sk k).info.id ∧ j.launch = (s.sk k).info.launch then .ok (d, w) else .error (trapC Code.sysArg)
  | none => .error (trapC Code.sysArg)

/-- The handler run has written JOBCTL and decided the job it names (12 R302, R306). -/
def State.noteJobctl (s : State) (k : Nat) (v : DWord) : State :=
  s.updSk k (fun x => { x with handler := x.handler.map (fun h =>
    { h with jobctl := v &&& 0x3FFFFFFFF, decided := h.decided || h.job == some (v &&& 0xFFFFFFFF) }) })

/-- JOBCTL with ACT 0b01: the job restarts from RP, or from its unset chunks, which are all of a CPYS (12 R306, 09 R233, 10 R262, R265). -/
def State.jobRestart (s : State) (k : Nat) (v : DWord) : Act := do
  let (d, w) ← s.haltedJob k (v &&& 0xFFFFFFFF)
  let s := s.updJob d w (fun j => { j with st := if j.kind.whisk then .ready else .running, landed := if j.kind = .cpys then [] else j.landed })
  let s := match s.job? d w with
    | some j => if j.kind.griddle then s.updSlab d j.slab (fun b => { b with halt := false }) else s
    | none => s
  .ok (s.noteJobctl k v)

/-- JOBCTL with ACT 0b10: the job is aborted without its signal (12 R306). -/
def State.jobAbort (s : State) (k : Nat) (v : DWord) : Act := do
  let (d, w) ← s.haltedJob k (v &&& 0xFFFFFFFF)
  .ok ((s.abortJob d w).noteJobctl k v)

/-- An SWT to JOBCTL (12 R303). -/
def State.swtJobctl (s : State) (k : Nat) (v : DWord) : Act :=
  match fld v 33 32 with
  | 1 => s.jobRestart k v
  | 2 => s.jobAbort k v
  | _ => .error (trapC Code.sysArg)

/-- What an SWT does (04 R92, R93, 01 R19, 03 R70). -/
def State.writeSpr (s : State) (k i : Nat) (v : DWord) : Act :=
  match i with
  | 0x000 =>
    if 1 ≤ v.toNat ∧ v.toNat ≤ 64 then .ok (s.onTk k (fun t => { t with slipw := v.toNat })) else .error (trapC Code.illegalOp)
  | 0x006 =>
    if fpctlBad v then .error (trapC Code.illegalOp) else .ok (s.onTk k (fun t => { t with fpctl := fpctlWrite t.fpctl v }))
  | 0x007 => .ok (s.onTk k (fun t => t.reseed v))
  | 0x009 => .ok (s.onTk k (fun t => { t with remt := v }))
  | 0x804 => if (s.sk k).handler.isSome then s.swtJobctl k v else .error (trapC Code.illegalOp)
  | _ =>
    if 0x10 ≤ i ∧ i ≤ 0x1F then .ok (s.onTk k (fun t => { t with mbox := Tbl.set 0 t.mbox (i - 0x10) v }))
    else .error (trapC Code.illegalOp)

/-- ILLEGAL-OP, that of a value a register does not accept included, precedes the tokens (02 R44, log 17). -/
def execSwt (f : CK) (s : State) : Out :=
  legalC (notIllegal (s.writeSpr s.cur f.idx.toNat ((s.tk s.cur).getS f.r)))
    (cWord f.tok none none (fun k s => s.writeSpr k f.idx.toNat ((s.tk k).getS f.r))) s

/-- SWT to JOBCTL whose ACT is 0b01. -/
def execJobctlRestart (f : CK) (s : State) : Out :=
  legalC (s.sk s.cur).handler.isSome (cWord f.tok none none (fun k s => s.jobRestart k ((s.tk k).getS f.r))) s

/-- SWT to JOBCTL whose ACT is 0b10. -/
def execJobctlAbort (f : CK) (s : State) : Out :=
  legalC (s.sk s.cur).handler.isSome (cWord f.tok none none (fun k s => s.jobAbort k ((s.tk k).getS f.r))) s

/-! ### SEND and RECV (04 R95) -/

def cSend (f : CR) (q : Fifo) (s : State) : Out :=
  cWord f.tok none (some q) (fun k s => .ok (s.onTk k (fun t => t.pushFifo q (.full (t.getS f.a))))) s

def cRecv (f : CR) (q : Fifo) (s : State) : Out :=
  cWord f.tok (some q) none (fun k s => .ok (s.onTk k (fun t => (t.setS f.d (t.recvVal .C f.tok q)).popFifo q))) s

def execSendCa (f : CR) (s : State) : Out := cSend f .ca s
def execSendCv (f : CR) (s : State) : Out := cSend f .cv s
def execRecvAc (f : CR) (s : State) : Out := cRecv f .ac s
def execRecvVc (f : CR) (s : State) : Out := cRecv f .vc s

end Sys2Proof.Machine
end

