-- ==== Sys2Proof/Machine/DetCmd.lean ====
section
/-! DEFINITION. The commands of class 0x08: DSET and RLOG (15 R400 to R402). -/

namespace Sys2Proof.Machine

open Sys2Proof

/-! ### DSET (15 R401) -/

/-- MERGE: a turn with no action at D2 and D3. -/
def State.dsetMerge (s : State) (k : Nat) (f : LW) : State :=
  s.onTk k (fun t => t.setS f.d (if s.levelOf k < 2 then 0 else 1))

/-- ADVANCE: at D3 the stamp frame moves on after the command's own issue. -/
def State.dsetAdvance (s : State) (k : Nat) (f : LW) : State :=
  if s.levelOf k = 3 then
    let s := s.onInfo k (fun i => { i with stampL := i.stampL + (s.tk k).getS f.b })
    s.onTk k (fun t => t.setS f.d (s.sk k).info.stampL)
  else s.onTk k (fun t => t.setS f.d 0)

/-- The row that DSET's words decode to: the operation is read from sa. -/
def execDsetMerge (f : LW) (s : State) : Out :=
  cLong f false true (fun k s => do
    let a := (s.tk k).getS f.a
    need (a == 0 || a == 1) (trapC Code.detArg)
    let s ← s.stampGate k f.stamp
    .ok (if a = 0 then s.dsetMerge k f else s.dsetAdvance k f)) s

def execDsetAdvance (f : LW) (s : State) : Out :=
  cLong f false true (fun k s => do
    let s ← s.stampGate k f.stamp
    .ok (s.dsetAdvance k f)) s

/-! ### RLOG (15 R402) -/

/-- The status word of a die's log. -/
def LogSt.word (g : LogSt) (v : Level) : DWord :=
  dw (place g.ncur 27 37 + place (min g.buf.length 1024) 11 16 + place g.cur 1 12 + place v.mode 2 10 + place v.lvl 2 8
    + place (b2n g.cl1) 1 5 + place (b2n g.cl0) 1 4)

/-- A log as it stands: in replay, past the END entries and the closed halves at its head (15 R399). -/
def State.logNow (s : State) (d q : Nat) (v : Level) : State :=
  if v.mode = 2 ∧ !(s.logOf d q).done then (s.replayHead 3 d q v).2 else s

/-- Half `h` opens: empty in record mode, refilled in replay mode; buffered entries may drain again. -/
def State.rlogOpen (s : State) (d q h : Nat) (v : Level) : State :=
  let g := s.logOf d q
  if g.closed h then
    let g := g.setClosed h false
    let s := s.updLog d q (fun _ => if g.cur = h then { g with ncur := 0 } else g)
    if v.mode = 1 then s.drainLog 1025 d q v else s
  else s

/-- The current half closes after the buffered entries, in record mode; one that is not full ends with an END entry. -/
def State.rlogClose (s : State) (d q : Nat) (v : Level) : State :=
  if v.mode ≠ 1 then s
  else
    let s := s.drainLog 1025 d q v
    let g := s.logOf d q
    if g.closed g.cur then s
    else
      let s := match s.unitWr d v.asid (v.entryAddr d g.cur g.ncur) (leBytes 8 (0xF * 2 ^ 60) ++ leBytes 8 0) with
        | .ok s => s
        | .error _ => s
      (s.updLog d q (fun _ => g.leave)).drainLog 1025 d q v

/-- An RLOG on the log of a queue that the task's context may name. -/
def rlog (f : LW) (act : Nat → DWord → Nat → Level → State → Except Stop State) (s : State) : Out :=
  cLong f false false (fun k s => do
    let t := s.tk k
    let a := t.getS f.a
    let b := t.getS f.b
    need (fld a 63 5 == 0 && fld a 1 0 != 3 && fld b 63 16 == 0) (trapC Code.detArg)
    match (Tbl.find s.levels b.toNat).filter (fun v => v.asid == s.asidOf k && v.mode != 0) with
    | none => .error (trapC Code.detArg)
    | some v => do
      let s ← s.stampGate k f.stamp
      let s ← act k a b.toNat v (s.logNow (fld a 3 2) b.toNat v)
      let s := s.logNow (fld a 3 2) b.toNat v
      .ok (s.onTk k (fun t => t.setS f.d ((s.logOf (fld a 3 2) b.toNat).word v)))) s

/-- STATUS: an acquire at package scope. -/
def State.rlogStatus (s : State) (k : Nat) : State := s.acquireAt k 2

/-- RELEASE: a release at package scope, and half HALF opens. -/
def State.rlogRelease (s : State) (k : Nat) (a : DWord) (q : Nat) (v : Level) : Act := do
  let s ← s.releaseAt k 2
  .ok (s.rlogOpen (fld a 3 2) q (fld a 4 4) v)

/-- The row that RLOG's words decode to: the operation is read from sa. -/
def execRlogStatus (f : LW) (s : State) : Out :=
  rlog f (fun k a q v s => match fld a 1 0 with
    | 0 => .ok (s.rlogStatus k)
    | 1 => s.rlogRelease k a q v
    | _ => .ok (s.rlogClose (fld a 3 2) q v)) s

def execRlogRelease (f : LW) (s : State) : Out := rlog f (fun k a q v s => s.rlogRelease k a q v) s
def execRlogClose (f : LW) (s : State) : Out := rlog f (fun _ a q v s => .ok (s.rlogClose (fld a 3 2) q v)) s

end Sys2Proof.Machine
end

