-- ==== Sys2Proof/Machine/Fetch.lean ====
section
/-! DEFINITION. The decode step of one engine up to the word it issues: fetch, words stepped over, the TEND and ERET pairs,
pending back edges, stop points (01 R13 to R16, R28, 12 R296, R305, R307, R313, 15 R391). -/

namespace Sys2Proof.Machine

open Sys2Proof

/-- What a decode step comes to: the engine's state has moved, or the words at its program counter are its to issue. -/
inductive Fetched where
  | moved (s : State)
  | word (w0 w1 : Word32) (s : State)

/-- Four bytes of instruction at a virtual address: they lie in one page (01 R16). -/
def State.fetchWord (s : State) (k : Nat) (va : Nat) : Except Stop (Word32 × State) :=
  match s.xlate (s.dTlbs (dieOf k)) (s.asidOf k) va .fx with
  | .error r => .error (.trap r)
  | .ok l =>
    match s.rdHome (dieOf k) (s.asidOf k) l.host l.pa 4 with
    | .error e => .error e.stop
    | .ok (bs, s') => .ok (BitVec.ofNat 32 (ofLe bs), s')

/-- The second word of the long form at `pc`: a fault on fetching it is reported at the address of the first (01 R14). -/
def State.fetchSecond (s : State) (k : Nat) (pc : Nat) : Except Stop (Word32 × State) :=
  match s.fetchWord k (pc + 4) with
  | .error (.trap r) => .error (.trap { r with addr := dw pc })
  | x => x

/-- The words at the program counter of engine `e`, sorted by their tag (01 R16). -/
def State.fetchAt (s : State) (k : Nat) (e : Engine) (pc : Nat) : Except Stop Fetched := do
  let (w0, s) ← s.fetchWord k pc
  if tagOf w0 = e.tag ∨ tagOf w0 = 3 then
    if (s.sk k).stopping && tagOf w0 == 3 then .ok (.moved (s.stopEng k e))
    else if isLong w0 then do
      let (w1, s) ← s.fetchSecond k pc
      .ok (.word w0 w1 s)
    else .ok (.word w0 0 s)
  else if tagOf w0 = 0 ∧ isLong w0 then do
    let (w1, s) ← s.fetchSecond k pc
    if isTendPair w0 w1 || (isEretPair w0 w1 && (s.sk k).handler.isSome) then .ok (.moved (s.reachEnd k e))
    else .ok (.moved (s.updSk k (fun x => ((x.advance e 8).stepped e 0).unstall)))
  else .ok (.moved (s.updSk k (fun x => ((x.advance e (lenOf w0)).stepped e 0).unstall)))

/-- The V-engine's last word retires before its next decode step (03 R71). -/
def State.retireLast (s : State) (k : Nat) (e : Engine) : State :=
  if e == .V && (s.tk k).vret.isSome then s.onTk k Issue.vretire else s

/-- One decode step of engine `e` of Skillet `k`. An engine that has stopped, or that a single step holds, does nothing. -/
def State.fetchStep (s : State) (k : Nat) (e : Engine) : Fetched :=
  let s := s.retireLast k e
  let x := s.sk k
  let E := x.t.eng e
  if !x.busy || x.halted.isSome || E.st != .run then .moved s
  else if x.handler.isNone && x.info.step.isSome && x.info.step != some e then .moved s
  else if e == .C && x.handler.isNone && x.info.pend != [] then .moved (s.deliver k)
  else if E.edge.isSome then
    let x' := x.tryEdge e
    if (x'.t.eng e).edge.isSome then .moved (s.stallAt k e true) else .moved (s.updSk k (fun _ => x'.unstall))
  else if !x.info.started && decide (2 ≤ s.levelOf k) then
    match s.turnGate k e with
    | .error s' => .moved s'
    | .ok s' => .moved ((s'.onInfo k (fun i => { i with started := true })).turnOver k true)
  else match s.fetchAt k e E.pc.toNat with
    | .ok r => r
    | .error st => .moved (s.settle k e (.error st))

/-- A launch of context 1 whose task runs on Skillet 0, with code at 0x10000 (log 7). -/
def fetchSetup (s : State) (e : Engine) (bytes : List Byte) : State :=
  let at_ : Eng := { pc := 0x10000 }
  let code : TlbEnt := ⟨1, 0x10000, 16, 0x1001F, 3⟩
  let run : Launch :=
    { asid := 1, qid := 0, home := 0, prio := 0, pt := 0, pkt := [], recd := [], gtab := [], compl := 0, gang := false
      tag := 1, level := 0, flen := 0, wsbase := 0, dies := [0], live := 1, started := some s.now }
  let s := s.updDie 0 (fun D => { D with tlb := code :: D.tlb, alive := true })
  let s := s.updSk 0 (fun x =>
    { x with launch := some 1, busy := true, halted := none, handler := none
             t := { x.t with c := at_, a := at_, v := at_ }
             info := { x.info with id := 1, launch := 1, started := true, stop := none, step := none, pend := [] } })
  { s with agenda := [], cur := 0, curEng := e, powered := true, launches := Tbl.put s.launches 1 run
           nextId := max s.nextId 2, mem := wrCells s.mem (cellsAt 0x10000 bytes) }

end Sys2Proof.Machine
end

