-- ==== Sys2Proof/Machine/TrapEvents.lean ====
section
/-! DEFINITION. Events of traps and pre-emption: a request and its choice, the record once the engines have stopped, drains cut,
entry to the handler, asynchronous faults, the handler's time limit (12 R296, R297, R301, R305, R309, 07 R175, R181, R183, 13
R327, R336 to R338). -/

namespace Sys2Proof.Machine

open Sys2Proof

/-- Whether a Skillet runs a task outside handler mode and is not halted. -/
def Skillet.runs (x : Skillet) : Bool := x.busy && x.halted.isNone && x.handler.isNone

/-! ### Teams (13 R327, R338) -/

/-- Whether every task on the Skillets given can be checkpointed: records, and a place each on the die's resume list unless they form
a team. -/
def State.roomFor (s : State) (k : Nat) (ks : List Nat) : Bool :=
  s.poolRoom (s.asidOf k) ks.length && ((s.sk k).info.teamId != noTeam || s.listRoom (dieOf k))

/-! ### A request (12 R309) -/

/-- A pre-emption of a thief that has claimed and not yet taken (07 R175, 12 R309): the claim is given back, kept in a saved context, or left
to complete, its task running on. -/
def State.preemptClaim (s : State) (k : Nat) (c : Claim) (pt : Nat) : State :=
  let asid := s.asidL c.launch
  let room := s.listRoom (dieOf k)
  if c.drain.isSome then s
  else match (if c.frame.idem ∧ (s.ctx asid).killt ≤ pt then none else s.freePool asid), room, c.frame.idem with
  | some j, true, _ =>
    let info : TaskInfo := { id := s.nextId, launch := c.launch, frame := c.frame }
    let s : State := { s with nextId := s.nextId + 1 }
    (s.updSk k (fun x => { x with info := info })).saveTask k j 1 true
  | _, _, true =>
    s.unitEnd c.launch (dieOf c.victim) 0 (do
      let s ← s.setClaimed ⟨c.launch, c.victim⟩ c.frame.claimer (fun f => some { f with state := .ready, claimer := 0 })
      .ok (s.updSk k (fun x => { x with claim := none })))
  | _, _, false => s.updSk k (fun x => { x with claim := some { c with drain := some s.now } })

/-! ### The stop reached (12 R296, R309, 07 R181, R183) -/

/-- A stop asked for and not carried out: the engines go on from where they stand, in step mode only the one that steps; a STEP trap
that is due is taken (12 R307, R308). -/
def State.unstop (s : State) (k : Nat) : State :=
  let go (E : Eng) : Eng := if E.st = .stopped then { E with st := .run } else E
  let s := (s.onTk k (fun t => { t with c := go t.c, a := go t.a, v := go t.v })).onInfo k (fun i => { i with stop := none })
  if (s.sk k).info.stepDone then s.afterResume k else (s.freeze k).follow k

/-- A task whose suspension in JOIN has stopped its engines: WAITER is set if COUNT is still not zero, and the task is saved; without a record or
a place on the die's list it spins on. The atomic waits where its order cannot be logged (07 R181, 15 R398). -/
def State.suspendJoin (s : State) (k : Nat) : State :=
  match (s.tk k).cmd, (s.freePool (s.asidOf k)).filter (fun _ => s.listRoom (dieOf k)) with
  | some (.spin _ a), some j =>
    match s.jctrLoc k a with
    | .error _ => s.unstop k
    | .ok l =>
      match s.jcRead k l with
      | .error _ => s.unstop k
      | .ok (v, s) =>
        if jcCount v = 0 then s.unstop k
        else if jcWaiter v ≠ 0 then (s.unstop k).raise k .C { code := Code.joinBusy }
        else match s.jcAtomic k l (fun x => jcMake (j + 1) (jcWsc x) (jcCount x)) with
        | .error (.wait _) => s
        | .error (.trap r) => (s.unstop k).raise k .C r
        | .error (.mc kind pa) => s.mcheckTask k kind pa
        | .error _ => s.unstop k
        | .ok (_, s) => s.saveTask k j 2 false
  | _, _ => s.unstop k

/-- At D2 and D3 the setting of WAITER is a synchronisation access: it waits for the task's turn, in which the write set merges first (15 R391,
R393). -/
def State.suspendJoinTurn (s : State) (k : Nat) : State :=
  if s.levelOf k < 2 then s.suspendJoin k
  else if ((s.launch? (s.sk k).info.launch).bind (·.turns.head?)) = some k then
    match s.merge k with
    | (s, some r) =>
      ((s.updLaunch (s.sk k).info.launch (fun l => { l with turns := l.turns.filter (· != k) })).unstop k).raise k .C r
    | (s, none) => s.suspendJoin k
  else s

/-! ### Drains cut (12 R309, 13 R337) -/

/-- Cycles after which a drain becomes a checkpoint. -/
def drainLimit (c : Ctx) : Nat := min 8 (4 * max c.drainb 1) * usCycles

def execDrainTimeout (sk : Nat) (s : State) : Out :=
  let x := s.sk sk
  match x.info.drain with
  | none => .next s
  | some t =>
    let ks := s.teamSks sk
    event (x.runs && x.info.stop.isNone && decide (t + drainLimit (s.ctx (s.asidOf sk)) ≤ s.now) && s.roomFor sk ks) s (fun s =>
      ks.foldl (fun s j => s.reqStop j .checkpoint) s)

/-! ### Traps (12 R297, R301, R305) -/

def execTrapEntry (sk : Nat) (s : State) : Out :=
  let x := s.sk sk
  event (x.runs && x.info.stop == some .trap && x.t.allStopped) s (fun s =>
    match x.t.firstFault with
    | some r => s.trapEntry sk r
    | none => s)

/-- Delivery at a C-engine that runs, or has stopped for a pre-emption or a suspension: the task traps first, so one that waits for a halted
job that names its scratchpad is not held (12 R305, 09 R244). -/
def execAsyncFaultDelivery (sk : Nat) (s : State) : Out :=
  let x := s.sk sk
  event (x.runs && x.info.pend != [] && (x.t.c.st == .run || (x.t.c.st == .stopped && x.info.stop != some .trap))) s (fun s =>
    s.deliver sk)

def execHandlerTimeout (sk : Nat) (s : State) : Out :=
  let x := s.sk sk
  match x.handler with
  | none => .next s
  | some h =>
    event (x.busy && x.halted.isNone && !h.reached && decide (h.since + (s.ctx (s.asidOf sk)).hlim * usCycles ≤ s.now)) s (fun s =>
      s.endTaskLaunch sk Code.handlerTimeout 0)

end Sys2Proof.Machine
end

