-- ==== Sys2Proof/Machine/Launching.lean ====
section
/-! DEFINITION. Queues, packets and records, the choice of a dispatch decision, batches, teams and completion records (13 R318 to
R340, 15 R386 to R389). -/

namespace Sys2Proof.Machine

open Sys2Proof

/-! ### Queues (13 R319 to R321) -/

def State.updSlot13 (s : State) (d slot : Nat) (f : QSlot → QSlot) : State :=
  s.updDie d (fun D => { D with qslots := D.qslots.map (fun (i, q) => if i = slot then (i, f q) else (i, q)) })

/-- HEAD as the dispatcher writes it. -/
def State.putHead (s : State) (q : QSlot) : State := s.land (cellsAt (q.desc + 8) (leBytes 8 (q.head % 2 ^ 32))) .unit

/-- Unmapping: HEAD written and MAPPED cleared in one action; a packet not dispatched stays in the ring (13 R321). -/
def State.unmapSlot (s : State) (d slot : Nat) : State :=
  match Tbl.find (s.die d).qslots slot with
  | none => s
  | some q =>
    let s := s.putHead q
    let s := s.land (cellsAt (q.desc + 0x20) (leBytes 8 (bitsN (rdNat s.mem (q.desc + 0x20) 8) 0 0))) .unit
    let s := s.updDie d (fun D => { D with qslots := Tbl.del D.qslots slot, qlast := Tbl.put D.qlast slot ⟨q.qid, q.desc⟩ })
    let free (D : Die) : Die := if D.draining = some (64 * d + slot) then { D with draining := none } else D
    { s with dies := s.dies.map (fun (x : Nat × Die) => (x.1, free x.2)) }

/-- TAIL as memory holds it, or the error its granule meets (17 R425). -/
def State.readTail (s : State) (q : QSlot) : Except PErr Nat := (s.physOk (q.desc + 0x10) 4 true).map (fun _ => rdNat s.mem (q.desc + 0x10) 4)

/-- The Garnet of a die has just acted. -/
def State.garnetRan (s : State) (d : Nat) : State := s.updDie d (fun D => { D with garnetAt := s.now })

/-- Whether the Garnet of a die is being swapped (18 R453). -/
def State.garnetSwapped (s : State) (d : Nat) : Bool := s.updating.any (fun u => u.comp == 0x20 + d)

/-- The dispatcher reads TAIL as an acquire at system scope (08 R197); a TAIL too far ahead unmaps the queue (13 R319, R320). A poisoned TAIL
is logged and not taken (17 R427). The unmap waits while the die's Garnet is swapped (18 R453, R456). -/
def State.takeTail (s : State) (d slot : Nat) : State :=
  match Tbl.find (s.die d).qslots slot with
  | none => s
  | some q =>
    if q.unmapDue then s else
    match s.readTail q with
    | .error e => s.noteErr d q.asid e.mc.1 e.mc.2
    | .ok t =>
    let s := (s.writeThroughAll d).selfInvalidate d
    if 2 ^ q.lg < (t + 2 ^ 32 - q.head) % 2 ^ 32 then
      (if s.garnetSwapped d then s.updSlot13 d slot (fun q => { q with unmapDue := true }) else s.unmapSlot d slot)
    else s.updSlot13 d slot (fun q => { q with tail := t })

/-- The dispatcher acts on a queue that was notified. -/
def State.actQueue (s : State) (d slot : Nat) : State :=
  let s := s.takeTail d slot
  let n := s.notifySeq
  let s := s.updSlot13 d slot (fun q => if q.ready.isSome then q else { q with order := some n })
  { s with notifySeq := n + 1 }

/-- The packet at the head has been dispatched: HEAD advances (13 R320). -/
def State.advanceQueue (s : State) (d slot : Nat) : State :=
  let s := s.updSlot13 d slot (fun q => { q with head := (q.head + 1) % 2 ^ 32, ready := none })
  match Tbl.find (s.die d).qslots slot with
  | some q => s.putHead q
  | none => s

/-! ### Completion records (13 R340) -/

/-- Writes a completion record: doublewords 1 to 7 first, doubleword 0 as a release at system scope. -/
def State.putCompl (s : State) (d asid compl : Nat) (w : EndWhy) (ndone : Nat) : State :=
  let host := decide (2 ^ 52 ≤ compl)
  let pa := compl % 2 ^ 52
  let dw0 := 2 ^ 63 + place w.die 2 32 + place w.code 16 16 + place w.status 8 0
  let rest := leBytes 8 w.taskId.toNat ++ leBytes 8 w.info.toNat ++ leBytes 8 ndone ++ List.replicate 32 0
  match (s.wrHome d asid host (cellsAt (pa + 8) rest) .unit).bind (fun s => (s.writeThroughAll d).wrHome d asid host (cellsAt pa (leBytes 8 dw0)) .unit) with
  | .ok s => s
  | .error e => s.noteErr d asid e.mc.1 e.mc.2

/-! ### Capture (13 R322 to R328, 15 R387) -/

/-- `n` granules of 64 bytes at a virtual address of a context, as doublewords; none where one cannot be read, and an error met is logged (17
R413, R427). -/
def State.readGran (d asid : Nat) : Nat → Nat → State → Option (List DWord) × State
  | 0, _, s => (some [], s)
  | n + 1, va, s =>
    match s.unitRd d asid va 64 with
    | .ok (bs, s) =>
      let (r, s) := State.readGran d asid n (va + 64) s
      (r.map (fun r => dwords 8 bs ++ r), s)
    | .error (.mcheck kind pa) => (none, s.noteErr d asid kind pa)
    | .error _ => (none, s)

/-- The field rules of a packet (13 R322, R323, 15 R387). -/
def pktOk (p : List DWord) : Bool :=
  let a := cdw p 0
  let g := cdw p 4
  fld a 63 45 == 0 && fld a 15 12 == 0 && !a.getLsbD 7 && decide (1 ≤ pktKind p) && decide (pktKind p ≤ 3)
    && decide (fld a 44 36 ≤ 256)
    && [1, 2, 3].all (fun i => fld (cdw p i) 63 56 == 0 && fld (cdw p i) 5 0 == 0)
    && fld g 63 39 == 0 && fld g 31 30 == 0 && fld g 23 17 == 0 && [5, 6, 7].all (fun i => cdw p i == 0)
    && decide (fld g 7 0 + fld g 16 8 ≤ 256) && decide (fld g 29 24 + fld g 38 32 ≤ 64)
    && (pktKind p != 3 || (fld a 63 5 == 0 && cdw p 2 == 0 && g == 0))

/-- Extent of a level (13 R325). -/
def extent (r : List DWord) (lv : Nat) : Nat := let x := cdw r (2 + lv / 2); if lv % 2 = 0 then fld x 31 0 else fld x 63 32
/-- Level walked at a position. -/
def orderAt (r : List DWord) (j : Nat) : Nat := fld (cdw r 1) (10 + 3 * j) (8 + 3 * j)
def nLevels (r : List DWord) : Nat := fld (cdw r 1) 2 0
/-- Iterations of a loop nest. -/
def nIter (r : List DWord) : Nat := (List.range (nLevels r)).foldl (fun n lv => n * extent r lv) 1

/-- The rules of a loop-nest record (13 R325). -/
def nestOk (r : List DWord) : Bool :=
  let n := nLevels r
  fld (cdw r 1) 63 56 == 1 && fld (cdw r 1) 55 26 == 0 && fld (cdw r 1) 7 3 == 0 && decide (1 ≤ n) && decide (n ≤ 6)
    && [5, 6, 7].all (fun i => cdw r i == 0)
    && (List.range n).all (fun lv => (List.range n).any (fun j => orderAt r j == lv))
    && (List.range 6).all (fun j => decide (j < n) || (orderAt r j == 0 && extent r j == 0))
    && decide (nIter r ≤ 2 ^ 32)

/-- The rules of a gang record (13 R327), and of its group table (13 R328). -/
def gangOk (r : List DWord) : Bool :=
  let size := fld (cdw r 1) 37 32
  let n := fld (cdw r 1) 31 0
  fld (cdw r 1) 63 56 == 2 && fld (cdw r 1) 55 38 == 0 && decide (1 ≤ size) && decide (size ≤ 32) && decide (1 ≤ n)
    && decide (n * size ≤ 2 ^ 32) && fld (cdw r 2) 63 56 == 0 && fld (cdw r 2) 5 0 == 0
    && [3, 4, 5, 6, 7].all (fun i => cdw r i == 0)
def gtabOk (size : Nat) (t : List Nat) : Bool :=
  t.all (fun m => decide (m < 2 ^ size)) && (List.range size).all (fun k => decide ((t.filter (fun m => m.testBit k)).length ≤ 4))

/-- The rules of a level record (15 R387). -/
def levelOk (r : List DWord) : Bool :=
  let a := cdw r 0
  let lvl := fld a 1 0
  let mode := fld a 7 6
  fld a 63 56 == 3 && fld a 55 8 == 0 && fld a 5 2 == 0 && mode != 3
    && fld (cdw r 1) 63 56 == 0 && fld (cdw r 1) 5 0 == 0 && fld (cdw r 2) 63 5 == 0
    && fld (cdw r 3) 63 56 == 0 && fld (cdw r 3) 23 0 == 0 && fld (cdw r 4) 63 16 == 0 && [5, 6, 7].all (fun i => cdw r i == 0)
    && (if mode = 0 then cdw r 1 == 0 && cdw r 2 == 0
        else decide (12 ≤ (cdw r 2).toNat) && decide ((cdw r 2).toNat ≤ 30))
    && (decide (2 ≤ lvl) || cdw r 3 == 0) && (lvl == 3 || cdw r 4 == 0)

/-- What a capture comes to: a head, or a launch that ends at once with a code, its completion record written if COMPL translates. -/
inductive Captured where
  | head (h : Head)
  | fail (code : Nat) (compl : Option Nat)

/-- A unit's translation of an address; none where it fails, and an error met on the walk is logged (17 R413, R425, R427). -/
def State.unitXlate (s : State) (d asid va : Nat) (nd : Need) : Option Loc × State :=
  match s.xlate (s.dTlbs d) asid va nd with
  | .ok l => (some l, s)
  | .error r => (none, match r.mc with
    | some (kind, pa) => s.noteErr d asid kind pa
    | none => s)

/-- The physical address of a completion record: COMPL is bits 55 to 0 of doubleword 3 (13 R322). A misaligned COMPL fails its packet and is
translated all the same (R323); one whose record would run past its page has none (log 61). -/
def State.complPa (s : State) (d asid : Nat) (p : List DWord) : Option Nat × State :=
  let va := fld (cdw p 3) 55 0
  if 65536 < va % 65536 + 64 then (none, s)
  else
    let (l, s) := s.unitXlate d asid va .wr
    (l.map (fun l => l.pa + if l.host then 2 ^ 52 else 0), s)

/-- Whether an address a packet names translates for writing. -/
def State.canWrite (s : State) (d asid a : Nat) : Bool × State :=
  let (l, s) := s.unitXlate d asid a .wr
  (l.isSome, s)

/-- The checks of the record a packet names, and of its group table (13 R323 to R328, 15 R387). -/
def State.captureRecord (s : State) (d : Nat) (q : QSlot) (p : List DWord) (compl : Nat) : Captured × State :=
  let bad : Captured := .fail Code.badRecord (some compl)
  match s.readGran d q.asid (if pktKind p = 3 then 1 else 3) (pktRecord p) with
  | (none, s) => (bad, s)
  | (some r, s) =>
    match pktKind p with
    | 3 => (if levelOk r then .head { pkt := p, recd := r, gtab := [], compl := compl } else bad, s)
    | n =>
      let entry := fld (cdw r 0) 63 56 == 0 && fld (cdw r 0) 1 0 == 0 && (s.entryAt q.asid (cdw r 0)).isSome
      if !entry || !(if n = 1 then nestOk r else gangOk r) then (bad, s)
      else if n = 1 ∨ cdw r 2 = 0 then (.head { pkt := p, recd := r, gtab := [], compl := compl }, s)
      else match s.readGran d q.asid 16 (cdw r 2).toNat with
      | (none, s) => (bad, s)
      | (some t, s) =>
        let g := t.flatMap (fun x => [fld x 31 0, fld x 63 32])
        (if gtabOk (fld (cdw r 1) 37 32) g then .head { pkt := p, recd := r, gtab := g, compl := compl } else bad, s)

/-- Reads and checks the packet at the head of a queue and the record it names (13 R323, R324). -/
def State.capture (s : State) (d : Nat) (q : QSlot) : Captured × State :=
  let code (s : State) : Nat := if (s.ctx q.asid).valid then Code.badRecord else Code.ctxInvalid
  match s.readGran d q.asid 1 (q.base + 64 * (q.head % 2 ^ q.lg)) with
  | (none, s) => (.fail (code s) none, s)
  | (some p, s) =>
    match s.complPa d q.asid p with
    | (none, s) => (.fail (code s) none, s)
    | (some compl, s) =>
      if !(s.ctx q.asid).valid then (.fail Code.ctxInvalid (some compl), s)
      else if !pktOk p then (.fail Code.badRecord (some compl), s)
      else match (if pktKind p = 3 then (true, s) else s.canWrite d q.asid (cdw p 2).toNat) with
      | (false, s) => (.fail Code.badRecord (some compl), s)
      | (true, s) => s.captureRecord d q p compl

/-- Whether launches of a queue are still running. -/
def State.queueBusy (s : State) (qid : Nat) : Bool := s.launches.any (fun e => e.2.qid == qid)

/-! ### Launches at work (13 R330) -/

/-- Iterations of a loop nest, or teams. -/
def Launch.total (l : Launch) : Nat := if l.gang then fld (cdw l.recd 1) 31 0 else nIter l.recd

/-- Whether a launch is served on a die: one of its live dies, the launch neither ended nor stopped. -/
def State.onDie (s : State) (l : Launch) (d : Nat) : Bool :=
  l.dies.contains d && !l.lost.contains d && (s.die d).alive && l.ending.isNone

/-- The current batch of a die: something of it is not handed out. -/
def Launch.current (l : Launch) (d : Nat) : Option Batch := l.batches.find? (fun b => b.die == d && decide (b.handed < b.n))

/-- A die draws its next batch: one left by a lost die, else the next of the counter. -/
def Launch.draw (l : Launch) (d : Nat) : Launch :=
  match l.redraw with
  | (first, n) :: r => { l with redraw := r, batches := l.batches ++ [⟨d, first, n, 0, 0⟩] }
  | [] =>
    let n := if l.gang then 1 else min (pktBatch l.pkt) (l.total - l.next)
    if n = 0 ∨ l.total ≤ l.next then l
    else { l with next := l.next + n, batches := l.batches ++ [⟨d, l.next, n, 0, 0⟩] }

def State.mayDraw (s : State) (l : Launch) (d : Nat) : Bool :=
  s.onDie l d && !l.stopped && (l.current d).isNone && (l.redraw != [] || decide (l.next < l.total))

/-! ### Handing out (13 R326, R327, R330) -/

/-- The frame of a launch-started task. Its ARG fields are R326's for an iteration, and the registers' for a member (log 34). -/
def State.launchFrame (s : State) (l : Launch) (k root a0 a1 : Nat) : Frame :=
  let e := s.entryAt l.asid (cdw l.recd 0)
  { entry := fld (cdw l.recd 0) 55 2 * 4, rscope := 1, taskId := dw (root * 2 ^ 32), arg0 := dw a0, arg1 := dw a1, owner := k
    idem := (e.map (·.idem)).getD false, state := .taken, wscope := 1 }

/-- An iteration handed to a Skillet. -/
def State.handIter (s : State) (l : Nat) (L : Launch) (k it : Nat) : Act :=
  (s.giveSk k l).map (fun s => s.reserveSk k l (s.launchFrame L k it it (pktRecord L.pkt)) noTeam 0)

/-- A team handed to the Skillets from `b`. -/
def State.handTeam (s : State) (l : Nat) (L : Launch) (b team : Nat) : Act :=
  (List.range L.size).foldlM (fun s i =>
    (s.giveSk (b + i) l).map (fun s =>
      s.reserveSk (b + i) l (s.launchFrame L (b + i) (team * L.size + i) team i) (dw team) i)) s

/-- A swapped team returns to its die on the Skillets from `b`: every member saved with it resumes (13 R338). -/
def State.returnTeam (s : State) (l : Nat) (L : Launch) (b team : Nat) : Act := do
  let s := s.updLaunch l (fun L =>
    { L with swapped := L.swapped.filter (· != team)
             teams := L.teams.map (fun (n, t) => if n = team then (n, { t with base := some b, since := s.now }) else (n, t)) })
  (List.range L.size).foldlM (fun s i => do
    let s ← s.giveSk (b + i) l
    match s.saved.find? (fun e => e.2.swap && e.2.info.launch == l && e.2.info.teamId == dw team && e.2.info.teamSlot == i) with
    | some e => .ok (s.loadTask (b + i) e.2)
    | none => .ok s) s

/-- Tasks of a batch counted as handed out. -/
def Launch.took (L : Launch) (b : Batch) (n : Nat) : Launch :=
  { L with live := L.live + n
           batches := L.batches.map (fun x => if x = b then { x with handed := x.handed + 1, live := x.live + n } else x) }

/-- Whether a launch has iterations or teams that no die has drawn. -/
def Launch.undrawn (L : Launch) : Bool := !L.stopped && (L.redraw != [] || decide (L.next < L.total))

/-- The first team of a gang launch that waits for places on a die, given the Skillets from `b`: teams not yet taken come before those
swapped out (13 R338). -/
def State.handGang (s : State) (l d b : Nat) (L : Launch) : Option Act :=
  match L.current d with
  | some x =>
    let t : Team := { die := d, base := some b, since := s.now }
    let s := s.updLaunch l (fun L => { (L.took x L.size) with teams := Tbl.put L.teams x.first t })
    some (s.handTeam l L b x.first)
  | none =>
    if L.undrawn then none
    else (L.swapped.find? (fun t => ((Tbl.find L.teams t).map (·.die)) == some d)).map (fun t => s.returnTeam l L b t)

/-- Work of a launch not yet handed out on a die, given to free Skillets of it; none where there is none or it has no room. -/
def State.handOut (s : State) (l d : Nat) : Option Act :=
  match s.launch? l with
  | none => none
  | some L =>
    if L.gang then (s.runOn d L.size).bind (fun b => s.handGang l d b L)
    else
      match s.freeOn d with
      | none => none
      | some k =>
        match Tbl.look [] L.reissue d with
        | it :: r => some ((s.updLaunch l (fun L => { L with reissue := Tbl.put L.reissue d r })).handIter l L k it)
        | [] => (L.current d).map (fun x => (s.updLaunch l (fun L => L.took x 1)).handIter l L k (x.first + x.handed))

/-- A head becomes a running launch (13 R329, R330, 15 R386): its number, and the state. -/
def State.dispatchHead (s : State) (e slot : Nat) (q : QSlot) (h : Head) : Nat × State :=
  let l := s.nextId
  let tag := Tbl.look 1 s.tagCtr q.asid
  let v := Tbl.find s.levels q.qid
  let cls := s.classOf q.asid (pktRecord h.pkt)
  let L : Launch :=
    { asid := q.asid, qid := q.qid, home := e, prio := q.prio, pt := min (fld (cdw h.pkt 0) 23 16) q.ptmax
      pkt := h.pkt, recd := h.recd, gtab := h.gtab, compl := h.compl, gang := pktKind h.pkt == 2, tag := tag
      level := (v.map (·.lvl)).getD 0, flen := (v.map (·.flen)).getD 0, wsbase := (v.map (·.wsbase)).getD 0
      dies := s.headDies q h, cls := cls }
  let s := { s with nextId := l + 1, tagCtr := Tbl.put s.tagCtr q.asid (if tag = 0xFFFFFFFF then 1 else tag + 1)
                    launches := Tbl.put s.launches l L }
  let touch (r : ClassRow) : ClassRow := if r.asid = q.asid ∧ r.recd = pktRecord h.pkt then { r with used := s.now } else r
  let free (D : Die) : Die := if D.draining = some (64 * e + slot) then { D with draining := none } else D
  let s := { s with classTbl := s.classTbl.map touch, dies := s.dies.map (fun (x : Nat × Die) => (x.1, free x.2)) }
  (l, s.advanceQueue e slot)

/-- The first work of a launch just dispatched, on the die that dispatched it. -/
def State.firstWork (s : State) (l d : Nat) : State :=
  let s := s.updLaunch l (fun L => L.draw d)
  match s.handOut l d with
  | some a => s.unitEnd l d 0 a
  | none => s

/-! ### The choice (13 R332 to R335) -/

/-- A candidate of a decision. -/
inductive Cand where
  | run (l : Nat)
  | head (e slot : Nat)
  deriving DecidableEq, Repr

/-- Whether a launch has a deque entry that the free Skillet `k` of a die may steal, or pop if the deque is its own, the last failed round of the
die 256 cycles past (13 R332). -/
def State.wantsSteal (s : State) (l d k : Nat) : Bool :=
  match s.launch? l with
  | none => false
  | some L =>
    (match Tbl.find L.stealFail d with
      | some t => decide (t + 256 ≤ s.now)
      | none => true) && (s.canSteal k l || !s.noOwn k l)

/-- Whether a running launch wants a Skillet of a die and can be given one. -/
def State.wants (s : State) (l d : Nat) : Bool :=
  match s.launch? l, s.freeOn d with
  | some L, some k =>
    s.onDie L d && !s.logShut d L.qid && ((s.handOut l d).isSome || (s.resumeNext k l).isSome || s.wantsSteal l d k)
  | _, _ => false

/-- Gives a free Skillet of a die to a launch: to a task that waits to resume, to new work, or to a steal round (13 R332, R335). -/
def State.serveLaunch (s : State) (l d : Nat) : State :=
  match s.freeOn d with
  | none => s
  | some k =>
    match (if (s.resumeNext k l).isSome then none else s.handOut l d) with
    | some a => s.unitEnd l d 0 a
    | none => s.unitEnd l d 0 (s.giveSk k l)

/-- A launch whose die has no free Skillet takes another permitted die (13 R339). -/
def State.spread (s : State) (d : Nat) : State :=
  { s with launches := s.launches.map (fun (i, L) =>
      if L.cls = some true ∧ L.level = 0 ∧ !pktPin L.pkt ∧ L.ending.isNone ∧ !L.dies.contains d ∧ (pktDies (cdw L.pkt 0)).contains d
          ∧ L.dies.all (fun e => (s.freeOn e).isNone) ∧ (L.next < L.total)
      then (i, { L with dies := L.dies ++ [d] }) else (i, L)) }

/-- A candidate is served on a die. -/
def State.serveCand (s : State) (d : Nat) : Cand → State
  | .run l => s.serveLaunch l d
  | .head e slot =>
    match Tbl.find (s.die e).qslots slot with
    | none => s
    | some q =>
      match q.ready with
      | none => s
      | some h => let (l, s) := s.dispatchHead e slot q h; s.firstWork l d

/-- The heads of a die that a decision may serve: those of a queue whose log is shut there wait (15 R398). -/
def State.servable (s : State) (d : Nat) : List (Nat × Nat × QSlot × Head) := (s.headsFor d).filter (fun x => !s.logShut d x.2.2.1.qid)

/-- Every head a decision on a die passed over grows older, and one that does not fit is skipped. Of those skipped 16 times the die drains for
the one that reached 16 first (13 R333, R334). -/
def State.passOver (s : State) (d : Nat) (unfit : List (Nat × Nat)) (chosen : Option Cand) : State :=
  let s := (s.headsFor d).foldl (fun s (e, slot, _, h) =>
    if chosen = some (.head e slot) then s
    else
      let n := if unfit.contains (e, slot) then h.skip + 1 else h.skip
      let at_ := if 16 ≤ n then some (h.skipAt.getD s.now) else none
      s.updSlot13 e slot (fun q => { q with ready := q.ready.map (fun h => { h with skip := n, age := h.age + 1, skipAt := at_ }) })) s
  let due := (s.headsFor d).filterMap (fun (e, slot, _, h) =>
    if unfit.contains (e, slot) then h.skipAt.map (fun t => (t, 64 * e + slot)) else none)
  match due.foldl (fun b x => match b with
    | none => some x
    | some y => if x.1 < y.1 then some x else some y) none with
  | some x => s.updDie d (fun D => { D with draining := some (D.draining.getD x.2) })
  | none => s

/-- The head that overrides the ranking on a die: the one it drains for, else the oldest notified of those whose AGE has reached 64. -/
def State.forced (s : State) (d : Nat) : Option (Nat × Nat × QSlot × Head) :=
  let hs := s.servable d
  match hs.find? (fun (e, i, _, _) => (s.die d).draining == some (64 * e + i)) with
  | some x => some x
  | none => (hs.filter (fun (_, _, _, h) => decide (64 ≤ h.age))).foldl (fun b x => match b with
    | none => some x
    | some y => if x.2.2.1.order.getD 0 < y.2.2.1.order.getD 0 then some x else some y) none

/-- The candidates of a die in rank order: by priority, running launches before heads, heads as their queues were notified. -/
def State.ranked (s : State) (d : Nat) : List Cand :=
  (List.range 8).reverse.flatMap (fun p =>
    ((s.launches.filter (fun e => e.2.prio == p)).map (fun e => Cand.run e.1))
    ++ ((((s.servable d).filter (fun x => x.2.2.1.prio == p)).mergeSort (fun x y =>
        decide (x.2.2.1.order.getD 0 ≤ y.2.2.1.order.getD 0))).map (fun x => Cand.head x.1 x.2.1)))

/-- The priority of a candidate. -/
def State.candPrio (s : State) : Cand → Nat
  | .run l => ((s.launch? l).map (·.prio)).getD 0
  | .head e slot => ((Tbl.find (s.die e).qslots slot).map (·.prio)).getD 0

/-- Whether a decision of a die would give a Skillet to something that ranks above a launch of some priority: a head that overrides the ranking, or
a candidate of a higher priority that fits or wants it (13 R332 to R335). -/
def State.outranked (s : State) (d prio : Nat) : Bool :=
  (match s.forced d with
    | some (_, _, _, h) => s.headFits h d
    | none => false)
  || (s.ranked d).any (fun c => decide (prio < s.candPrio c) && match c with
    | .run l => s.wants l d
    | .head e slot => match (Tbl.find (s.die e).qslots slot).bind (·.ready) with
      | some h => s.headFits h d
      | none => false)

/-- A dispatch decision of a die (13 R332 to R334). -/
def State.dispatchDecision (s : State) (d : Nat) : State :=
  if (s.freeOn d).isNone ∨ !(s.die d).alive then s
  else
    let s := s.spread d
    let unfit := ((s.headsFor d).filter (fun (_, _, _, h) => !s.headFits h d)).map (fun (e, i, _, _) => (e, i))
    match s.forced d with
    | some (e, i, _, _) =>
      if unfit.contains (e, i) then
        (s.updDie d (fun D => { D with draining := some (D.draining.getD (64 * e + i)) })).passOver d unfit none
      else (s.serveCand d (.head e i)).passOver d unfit (some (.head e i))
    | none =>
      let ok (c : Cand) : Bool := match c with
        | .run l => s.wants l d
        | .head e i => !unfit.contains (e, i)
      let c := (s.ranked d).find? ok
      let s := match c with
        | some c => s.serveCand d c
        | none => s
      s.passOver d unfit c

end Sys2Proof.Machine
end

