-- ==== Sys2Proof/Machine/CheckpointEvents.lean ====
section
/-! DEFINITION. The stop of a task carried out: its record, a team swapped out whole, the places passed on; and the claim of a steal (07 R173, R181,
R183, 12 R309, R310, 13 R327, R335, R338). -/

namespace Sys2Proof.Machine

open Sys2Proof

/-! ### Teams (13 R327, R338) -/

/-- A team none of whose members runs any longer has given up its places: its deques spill, and it joins the tail of its launch's
list (13 R327, R338). -/
def State.swapOut (s : State) (l team : Nat) : Act :=
  match s.launch? l with
  | none => .ok s
  | some L =>
    match Tbl.find L.teams team with
    | none => .ok s
    | some t =>
      match t.base with
      | none => .ok s
      | some b =>
        let ks := (List.range L.size).map (b + ·)
        if ks.any (fun j => (s.sk j).busy && (s.sk j).info.launch == l && (s.sk j).info.teamId == dw team) then .ok s
        else do
          let s ← ks.foldlM (fun s j => s.spill ⟨l, j⟩ (s.hwOf ⟨l, j⟩).length) s
          .ok (s.updLaunch l (fun L =>
            { L with teams := L.teams.map (fun (n, t) => if n = team then (n, { t with base := none }) else (n, t))
                     swapped := L.swapped ++ [team] }))

/-- The places a team has left at the end of its slice: the team at the head of its launch's list takes them, unless a head comes before the
launch there (13 R333, R338). -/
def State.passPlaces (s : State) (l d b : Nat) : State :=
  match s.launch? l with
  | none => s
  | some L =>
    if s.headAbove d L.prio || s.logShut d L.qid || !(List.range L.size).all (fun i => s.freeSk (b + i)) then s
    else
      let s := if s.mayDraw L d then s.updLaunch l (fun L => L.draw d) else s
      match (s.launch? l).bind (fun L => s.handGang l d b L) with
      | some a => s.unitEnd l d 0 a
      | none => s

/-- A team whose members are all saved gives up its places, which pass on (13 R338). -/
def State.leavePlaces (s : State) (l d team : Nat) (tid : DWord) : State :=
  let base := ((s.launch? l).bind (fun L => Tbl.find L.teams team)).bind (·.base)
  s.unitEnd l d tid ((s.swapOut l team).map (fun s =>
    match base with
    | some b => s.passPlaces l d b
    | none => s))

/-- A team stops for good: once every member that runs has reached its stop point, all are saved in one action and the team gives up its places.
Without the records they run on, drained (13 R327, R338, R341). -/
def State.checkpointTeam (s : State) (k : Nat) : State :=
  let i := (s.sk k).info
  let ks := s.teamSks k
  let ready (j : Nat) : Bool :=
    let x := s.sk j
    x.runs && x.info.stop == some .checkpoint && x.t.allStopped && !x.t.allEnded && !s.scrBusy j
  if !ks.all ready then s
  else if s.poolRoom (s.asidOf k) ks.length then
    let s := ks.foldl (fun s j =>
      match s.freePool (s.asidOf j) with
      | some p => if (s.sk j).busy then s.saveTask j p 1 false else s
      | none => s) s
    s.leavePlaces i.launch (dieOf k) i.teamId.toNat i.frame.taskId
  else
    let s := ks.foldl (fun s j => s.onInfo j (fun i => { i with drain := some (i.drain.getD s.now), preempt := none, stop := none })) s
    ks.foldl (fun s j => s.unstop j) s

/-! ### Checkpoints -/

/-- A checkpoint: the record is written, and the task waits on its die's resume list, or with its team; without a free record or a place on the
list it runs on, drained. -/
def State.checkpoint (s : State) (k : Nat) : State :=
  let i := (s.sk k).info
  if i.teamId ≠ noTeam then s.checkpointTeam k
  else match (s.freePool (s.asidOf k)).filter (fun _ => s.listRoom (dieOf k)) with
  | none => (s.onInfo k (fun i => { i with drain := some (i.drain.getD s.now), preempt := none })).unstop k
  | some j => s.saveTask k j 1 true

/-- The suspension that a YIELD left: the task is saved and joins its die's resume list. Where no record is free, or the list has become full
since the YIELD decided, it goes on (07 R183, log 59). -/
def State.suspendYield (s : State) (k : Nat) : State :=
  match (s.freePool (s.asidOf k)).filter (fun _ => s.listRoom (dieOf k)) with
  | some j => s.saveTask k j 2 true
  | none => s.unstop k

def execCheckpoint (sk : Nat) (s : State) : Out :=
  let x := s.sk sk
  event (x.runs && x.t.allStopped && !x.t.allEnded && !s.scrBusy sk) s (fun s =>
    match x.info.stop with
    | some .checkpoint => s.checkpoint sk
    | some .kill =>
      if x.info.killOk then s.killTask sk
      else if x.info.yielded then (s.onInfo sk (fun i => { i with yielded := false })).suspendYield sk
      else s.unstop sk
    | some .join => s.suspendJoinTurn sk
    | some .yield => s.suspendYield sk
    | _ => s)

/-! ### Steals (07 R173, 13 R335) -/

/-- Whether a dispatch decision may still give a Skillet of a launch work before a steal: what ranks above the launch, or an iteration or a team of
it that finds places, no head being drained for (13 R335 step 3). -/
def State.newWork (s : State) (l d : Nat) : Bool :=
  match s.launch? l with
  | none => false
  | some L => s.outranked d L.prio || ((s.die d).draining.isNone && ((s.handOut l d).isSome || s.mayDraw L d))

def execStealClaim (thief victim : Nat) (s : State) : Out :=
  match (s.sk thief).launch with
  | none => .next s
  | some l =>
    event (s.seeks thief l && s.noOwn thief l && !s.newWork l (dieOf thief) && !s.noSteals (dieOf thief) (((s.launch? l).map (·.prio)).getD 0)
        && s.nextVictim thief l == some victim) s (fun s => s.tryVictim thief victim l)

end Sys2Proof.Machine
end

