-- ==== Sys2Proof/Machine/LaunchEvents.lean ====
section
/-! DEFINITION. The events of queues and launches: notify, capture, decisions, batches, slices, level changes, the end of a launch,
the loss of a die, classification, and the pre-emption requests of a head (13 R318 to R341, 15 R388, 17 R435). -/

namespace Sys2Proof.Machine

open Sys2Proof

/-! ### Queues -/

/-- A notify that names no queue of the slot. -/
def State.dropNotify (s : State) (die slot : Nat) : State := s.updDie die (fun D => { D with ndrop := Tbl.upd 0 D.ndrop slot (· + 1) })

/-- A write to a slot's notify register (13 R321). -/
def State.notify (s : State) (die slot qid : Nat) : State :=
  match Tbl.find (s.die die).qslots slot with
    | some q => if q.qid = qid % 65536 then s.actQueue die slot else s.dropNotify die slot
    | none =>
      match Tbl.find (s.die die).qlast slot with
      | some u =>
        if u.qid = qid % 65536 then s.land (cellsAt (u.desc + 0x20) (leBytes 8 (rdNat s.mem (u.desc + 0x20) 8 ||| 1))) .unit
        else s.dropNotify die slot
      | none => s.dropNotify die slot

def execNotify (die slot qid : Nat) (s : State) : Out := event s.hostUp s (fun s => s.notify die slot qid)

/-- A captured launch none of whose dies stands ends with DIE-LOST, and its queue goes on; where the queue's home die is lost too, die 0's Garnet
writes the record (13 R331, R340). -/
def State.headLost (s : State) (die slot : Nat) : State :=
  match Tbl.find (s.die die).qslots slot with
  | none => s
  | some q =>
    match q.ready with
    | none => s
    | some h =>
      let ds := pktDies (pdw h.pkt 0)
      if pktKind h.pkt = 3 ∨ ds.any (fun d => (s.die d).alive) then s
      else (s.putCompl (if (s.die die).alive then die else 0) q.asid h.compl ⟨3, 0, ds.foldl min 4 % 4, 0, 0⟩ 0).advanceQueue die slot

/-- The dispatcher reads TAIL again before it idles; the packet at the head becomes the ready head and is captured, or its launch
ends at once (13 R320, R322, R323, 15 R388). -/
def execPacketCapture (die slot : Nat) (s : State) : Out :=
  match Tbl.find (s.die die).qslots slot with
  | none => .next s
  | some q =>
    event (q.ready.isNone && q.order.isSome && (s.die die).alive) s (fun s =>
      let s := if q.head = q.tail then s.takeTail die slot else s
      match Tbl.find (s.die die).qslots slot with
      | none => s
      | some q =>
        if q.head = q.tail then s.updSlot13 die slot (fun q => { q with order := none })
        else
          let held := s.queueBusy q.qid && match (s.readGran die q.asid 1 (q.base + 64 * (q.head % 2 ^ q.lg))).1 with
            | some p => (cdw p 0).getLsbD 4 || pktKind p == 3
            | none => false
          if held then s
          else match s.capture die q with
          | (.head h, s) => (s.updSlot13 die slot (fun q => { q with ready := some h })).headLost die slot
          | (.fail code compl, s) =>
            let s := match compl with
              | some c => s.putCompl die q.asid c ⟨1, code, die, 0, 0⟩ 0
              | none => s
            s.advanceQueue die slot)

/-! ### Decisions and batches -/

def execDispatchDecision (die : Nat) (s : State) : Out := event (decide (die < 4)) s (fun s => s.dispatchDecision die)

def execBatchDraw (launch die : Nat) (s : State) : Out :=
  match s.launch? launch with
  | none => .next s
  | some L => event (s.mayDraw L die) s (fun s => s.updLaunch launch (fun L => L.draw die))

/-! ### Slices (13 R333, R338) -/

/-- Cycles of a slice. -/
def sliceCycles : Nat := 500 * usCycles

/-- Whether a team of a launch waits for places, or a head of no lower priority drains the die. -/
def State.sliceDue (s : State) (L : Launch) (d : Nat) : Bool :=
  L.swapped != [] || (L.current d).isSome || L.undrawn
    || (s.headsFor d).any (fun (e, i, q, _) => decide (L.prio ≤ q.prio) && (s.die d).draining == some (64 * e + i))

/-- The end of a resident team's slice: its members that run are asked to stop; one none of whose members runs, all being suspended or ended, gives
up its places at once. -/
def execTeamSliceExpiry (launch team : Nat) (s : State) : Out :=
  match s.launch? launch with
  | none => .next s
  | some L =>
    match Tbl.find L.teams team with
    | none => .next s
    | some t =>
      let ks := allSks.filter (fun j => (s.sk j).busy && (s.sk j).info.launch == launch && (s.sk j).info.teamId == dw team)
      let calm := ks.all (fun j => (s.sk j).runs && (s.sk j).info.stop.isNone && (s.sk j).info.pend == [])
      let starting := allSks.any (fun j => (s.sk j).reserved && (s.sk j).info.launch == launch && (s.sk j).info.teamId == dw team)
      event (t.base.isSome && L.ending.isNone && decide (t.since + sliceCycles ≤ s.now) && s.sliceDue L t.die && calm && !starting
          && s.poolRoom L.asid ks.length) s (fun s =>
        if ks = [] then s.leavePlaces launch t.die team 0 else ks.foldl (fun s j => s.reqStop j .checkpoint) s)

/-! ### Level changes (15 R387, R388) -/

/-- The table entry a level record gives a queue. -/
def levelOf (asid : Nat) (r : List DWord) : Level :=
  { lvl := fld (cdw r 0) 1 0, mode := fld (cdw r 0) 7 6, asid := asid, logBase := (cdw r 1).toNat, log2h := (cdw r 2).toNat
    wsbase := (cdw r 3).toNat, flen := (cdw r 4).toNat }

def execLevelChange (die slot : Nat) (s : State) : Out :=
  match Tbl.find (s.die die).qslots slot with
  | none => .next s
  | some q =>
    match q.ready with
    | none => .next s
    | some h =>
      event (pktKind h.pkt == 3 && !s.queueBusy q.qid) s (fun s =>
        let v := levelOf q.asid h.recd
        let s : State := { s with levels := Tbl.put s.levels q.qid v }
        let s := if v.mode = 0 then s else allDies.foldl (fun s d => s.updLog d q.qid (fun _ => {})) s
        (s.putCompl die q.asid h.compl ⟨0, 0, die, 0, 0⟩ 0).advanceQueue die slot)

/-! ### The end of a launch (13 R340) -/

/-- Whether nothing of a launch is left to start or to reach TEND. -/
def State.spent (s : State) (i : Nat) (L : Launch) : Bool :=
  L.live == 0 && L.batches.all (fun b => decide (b.n ≤ b.handed)) && L.reissue.all (fun e => e.2.isEmpty)
    && (L.stopped || (L.redraw == [] && decide (L.total ≤ L.next))) && (s.runsOf i).isEmpty

/-- The jobs of a launch that keep it from ending: a GRESHAPE of a task that is gone acts no more. -/
def State.jobsOf (s : State) (i : Nat) (ended : Bool) : List (Nat × Nat) :=
  s.jobsWhere (fun j => j.launch == i && !(ended && j.kind == .greshape))

/-- How a launch that ran out of work has ended: DIE-LOST where it lost a die and could not restart (13 R331). -/
def Launch.outcome (L : Launch) : EndWhy :=
  match L.lost.foldl (fun b d => match b with
    | none => some d
    | some e => some (min d e)) none with
  | some d => if pktRestart L.pkt && L.dies.any (fun e => !L.lost.contains e) then ⟨0, 0, L.home, 0, 0⟩ else ⟨3, 0, d, 0, 0⟩
  | none => ⟨0, 0, L.home, 0, 0⟩

/-- The demotions learned since the last window enter the repair record, and the filters are built from it again (17 R420, R421, R431). -/
def Die.rebuild (D : Die) : Die :=
  let learn (t : Tbl (List (Nat × Nat))) (e : Nat × Stack) : Tbl (List (Nat × Nat)) :=
    e.2.learned.foldl (fun t row =>
      let c := if (e.2.filterA.getD []).contains row then 32 else 64
      Tbl.upd [] t e.1 (fun l => (row, c) :: l.filter (fun x => x.1 != row))) t
  let ret := D.hbm.foldl learn D.repair.retention
  let rows (k lim : Nat) : List Nat := ((Tbl.look [] ret k).filter (fun e => decide (e.2 ≤ lim))).map (·.1)
  let build (k : Nat) (x : Stack) : Stack := { x with filterA := some (rows k 32), filterB := some (rows k 64), learned := [] }
  { D with repair := { D.repair with retention := ret }, hbm := D.hbm.map (fun (e : Nat × Stack) => (e.1, build e.1 e.2)) }

/-- Whether a launch uses a die (17 R431). -/
def State.dieUsed (s : State) (d : Nat) : Bool := s.launches.any (fun e => e.2.dies.contains d)

/-- What an open window does of itself on every die that no launch uses (17 R431). -/
def State.windowWork (s : State) : State :=
  { s with dies := s.dies.map (fun (e : Nat × Die) => if e.2.maint ∧ e.2.alive ∧ !s.dieUsed e.1 then (e.1, e.2.rebuild) else e) }

/-- The launch is over: slabs freed, Skillets returned, the completion record written. -/
def State.closeLaunch (s : State) (i : Nat) (L : Launch) : State :=
  let s := (s.jobsWhere (fun j => j.launch == i)).foldl (fun s (d, w) => s.dropJob d w) s
  let s := allDies.foldl (fun s d =>
    ((s.die d).slabs.filter (fun e => e.2.launch == i)).foldl (fun s e => s.freeSlab d e.1) s) s
  let back (x : Skillet) : Skillet := if x.launch = some i then { x with launch := none, hw := [], tried := [], pool := false } else x
  let s := { s with sks := s.sks.map (fun (e : Nat × Skillet) => (e.1, back e.2)), launches := Tbl.del s.launches i }
  let s := s.windowWork
  let d := if (s.die L.home).alive then L.home else 0
  s.putCompl d L.asid L.compl (L.ending.getD L.outcome) L.ndone

def execLaunchEnd (launch : Nat) (s : State) : Out :=
  match s.launch? launch with
  | none => .next s
  | some L =>
    event ((L.ending.isSome || s.spent launch L) && (s.jobsOf launch L.ending.isSome).isEmpty) s (fun s => s.closeLaunch launch L)

/-! ### The loss of a die (13 R331, 17 R435) -/

/-- Tasks that stand in the logical deque of a Skillet: iterations of ready entries. -/
def State.dequeTasks (s : State) (q : Dq) : Nat :=
  let cnt (l : List Frame) : Nat := l.foldl (fun n f => n + f.count) 0
  cnt (s.hwOf q) + match State.readSlots (s.ring q).2 s q (s.ring q).1 with
    | .ok (fs, _) => cnt fs
    | .error _ => 0

/-- Tasks of a launch on a die: running or about to start, saved, waiting in its deques. -/
def State.tasksOn (s : State) (i d : Nat) : Nat :=
  ((s.runsOf i).filter (fun k => dieOf k == d)).length
    + (s.saved.filter (fun e => e.2.info.launch == i && e.2.die == d)).length
    + ((List.range 32).map (32 * d + ·)).foldl (fun n k => n + s.dequeTasks ⟨i, k⟩) 0

/-- What the loss of a die means for a launch of it (13 R331). -/
def Launch.loseDie (L : Launch) (d dead : Nat) : Launch :=
  let out := L.batches.filter (fun b => b.die == d && !(b.handed == b.n && b.live == 0))
  let there (t : Nat) : Bool := match Tbl.find L.teams t with
    | some x => x.die == d
    | none => false
  let L : Launch := { L with
    lost := L.lost ++ [d], live := L.live - dead, batches := L.batches.filter (fun b => b.die != d), reissue := Tbl.del L.reissue d
    teams := L.teams.filter (fun e => e.2.die != d), swapped := L.swapped.filter (fun t => !there t)
    turns := L.turns.filter (fun k => dieOf k != d) }
  if pktRestart L.pkt then { L with redraw := L.redraw ++ out.map (fun (b : Batch) => (b.first, b.n)) }
  else { L with stopped := true, redraw := [] }

/-- An entry whose thief is gone is ready again, with its count and arguments as they were. -/
def State.unclaim (s : State) (c : Claim) : State :=
  s.unitEnd c.launch (dieOf c.victim) 0 (s.setClaimed ⟨c.launch, c.victim⟩ c.frame.claimer (fun f => some { f with state := .ready, claimer := 0 }))

/-- The claims of a launch that a lost die takes part in. DESIGN CHOICE (log 59): 07 R175 has no row for it. An entry on a surviving die whose thief,
running or saved, was on the lost one is ready again, as after a kill; a claim on an entry of the lost die is void. -/
def State.dropClaims (s : State) (i d : Nat) : State :=
  let s := allSks.foldl (fun s k => match (s.sk k).claim with
    | some c =>
      if c.launch = i ∧ (dieOf k = d ∨ dieOf c.victim = d) then
        (if dieOf c.victim = d then s else s.unclaim c).updSk k (fun x => { x with claim := none })
      else s
    | none => s) s
  s.saved.foldl (fun s e => match e.2.taken with
    | some c =>
      if c.launch = i ∧ dieOf c.victim = d ∧ e.2.die ≠ d then
        ({ s with saved := Tbl.del s.saved e.1 } : State).updDie e.2.die (fun D => { D with resume := D.resume.filter (· != e.1) })
      else if c.launch = i ∧ dieOf c.victim ≠ d ∧ e.2.die = d then s.unclaim c
      else s
    | none => s) s

/-- Tasks saved between claim and take: the entry they have claimed counts for them (07 R175). -/
def State.takenOn (s : State) (i d : Nat) : Nat :=
  (s.saved.filter (fun e => e.2.info.launch == i && e.2.die == d && e.2.taken.isSome)).length

/-- The work of one launch that stood on a lost die is gone. -/
def State.launchLoses (s : State) (i d : Nat) : State :=
  match s.launch? i with
  | none => s
  | some L =>
    if !L.dies.contains d || L.lost.contains d then s
    else
      let dead := s.tasksOn i d - s.takenOn i d
      let s := s.dropClaims i d
      let s := ((s.runsOf i).filter (fun k => dieOf k == d)).foldl (fun s k => s.discardTask k) s
      let s : State := { s with saved := s.saved.filter (fun e => !(e.2.info.launch == i && e.2.die == d)) }
      let s := s.updLaunch i (fun L => { (L.loseDie d dead) with rings := L.rings.filter (fun e => dieOf e.1 != d) })
      if L.dies.all (fun e => e == d || L.lost.contains e) then
        s.endLaunch i ⟨3, 0, (L.lost ++ [d]).foldl min 4 % 4, 0, 0⟩
      else s

/-- A die is lost: its launches learn it, what the die held of jobs, semaphores and tasks is gone, and the lowest surviving die's Garnet logs it.
DESIGN CHOICE (log 59): an entry that a thief of the lost die had claimed is ready again, and a claim on an entry of that die is void; 07 R175 has
no row for either. -/
def State.loseDie (s : State) (d : Nat) : State :=
  let s := s.launches.foldl (fun s e => s.launchLoses e.1 d) s
  let s := (s.die d).window.foldl (fun s e => s.dropJob d e.1) s
  let own := (List.range 32).map (32 * d + ·)
  let s := s.updDie d (fun D => { ({} : Die) with
    alive := false, mcring := D.mcring, mcSeq := D.mcSeq, ring := D.ring, repair := D.repair, hbm := D.hbm, slabGen := D.slabGen
    retired := D.retired, spareCols := D.spareCols, crockCap := D.crockCap, bankBad := D.bankBad
    qslots := D.qslots, qlast := D.qlast, cec := D.cec, logs := D.logs })
  let s : State := { s with sks := s.sks.map (fun (e : Nat × Skillet) =>
    if own.contains e.1 then (e.1, ({ fenced := e.2.fenced } : Skillet)) else e) }
  let s := allDies.foldl (fun s e => (s.die e).qslots.foldl (fun s x => s.headLost e x.1) s) s
  match allDies.find? (fun e => (s.die e).alive) with
  | none => s
  | some e => (s.logMc { die := e, subj := some d, unit := 10, kind := 8 }).1

/-- Cycles without a heartbeat of a die's Garnet before the die is lost: 10 ms. -/
def garnetLimit : Nat := 10000 * usCycles

/-- The Garnet of the lowest surviving die, which is another, has had no heartbeat of a die for 10 ms. Heartbeats are no events of the machine: the
model asks that the 10 ms have passed since the die's Garnet is known to have run, and that it is not being swapped (17 R435, log 61). -/
def execDieLost (die : Nat) (s : State) : Out :=
  event (decide (die < 4) && (s.die die).alive && allDies.any (fun e => e != die && (s.die e).alive)
    && decide ((s.die die).garnetAt + garnetLimit ≤ s.now) && !s.garnetSwapped die) s (fun s => s.loseDie die)

/-! ### Classification (13 R339) -/

/-- The class table with a row written; the least recently used of 256 goes. -/
def classPut (t : List ClassRow) (r : ClassRow) : List ClassRow :=
  let t := t.filter (fun x => !(x.asid == r.asid && x.recd == r.recd))
  if t.length < 256 then t ++ [r]
  else
    let old := t.foldl (fun n x => min n x.used) r.used
    match t.findIdx? (fun x => x.used == old) with
    | some i => t.eraseIdx i ++ [r]
    | none => t ++ [r]

/-- A launch has run on a die for 64 µs: the die's counts of arithmetic operations and of bytes at its controllers, of which the latter lies with the
caches the model leaves out (log 5), give its class, once (13 R339, log 28). -/
def execLaunchClassification (launch die ops bytes : Nat) (s : State) : Out :=
  match s.launch? launch with
  | none => .next s
  | some L =>
    event (s.onDie L die && !L.measured.contains die && match Tbl.find L.startOn die with
      | some t => decide (t + 64 * usCycles ≤ s.now)
      | none => false) s (fun s =>
      let c := decide (64 * bytes ≤ ops)
      let s : State := { s with classTbl := classPut s.classTbl ⟨L.asid, pktRecord L.pkt, c, s.now⟩ }
      s.updLaunch launch (fun L => { L with cls := some c, measured := L.measured ++ [die] }))

/-! ### Pre-emption by a head of priority 7 (12 R309, 13 R336) -/

/-- Whether a request is one that some head of priority 7 with this many tokens makes on the Skillet's die. -/
def State.requested (s : State) (sk pt : Nat) : Bool :=
  let d := dieOf sk
  (s.headsFor d).any (fun (_, _, q, h) =>
    q.prio == 7 && min (fld (cdw h.pkt 0) 23 16) q.ptmax == pt && !s.headFits h d &&
      if pktKind h.pkt = 1 then
        ((List.range 32).map (32 * d + ·)).all (fun k =>
          decide (k ≤ sk) || !s.yields k || (s.sk k).info.drain.isSome || (s.sk k).info.stop.isSome || (s.sk k).info.preempt.isSome
            || (s.sk k).claim.any (·.drain.isSome))
      else s.inRun h sk)

def execPreemptionRequest (sk pt : Nat) (s : State) : Out :=
  let x := s.sk sk
  match x.claim with
  | some c => event (!x.busy && s.yields sk && s.requested sk pt) s (fun s => s.preemptClaim sk c pt)
  | none => event (s.yields sk && s.requested sk pt) s (fun s => s.preempt sk pt)

end Sys2Proof.Machine
end

