-- ==== Sys2Proof/Machine/SystemCmd.lean ====
section
/-! DEFINITION. The commands of class 0x07: TRAP, SYSC, BRK, ERET, TLBI, CWB, CINV, PPT (12 R311 to R316). -/

namespace Sys2Proof.Machine

open Sys2Proof

/-! ### TRAP, SYSC, BRK (12 R312) -/

def execTrap (f : LW) (s : State) : Out :=
  cLong f false false (fun k s => do
    let s ← s.stampGate k f.stamp
    .error (trapI Code.trap ((s.tk k).getS f.a))) s

/-- SYSC retires, its back-edge test not yet made, and then traps. -/
def execSysc (f : LW) (s : State) : Out :=
  legalC (s.sk s.cur).handler.isNone (fun s =>
    let k := s.cur
    if (s.tk k).tokReady .C f.tok none none then
      match s.stampGate k f.stamp with
      | .error e => .next (s.settle k .C (.error e))
      | .ok s1 =>
        let v := (s.tk k).getS f.a
        .next (((s1.reqStop k .trap).retire k .C 8 f.tok).raise k .C { code := Code.sysc, info := v })
    else .next (s.stallAt k .C true)) s

def execBrk (f : LW) (s : State) : Out :=
  cLong f false false (fun k s => do
    let s ← s.stampGate k f.stamp
    if (s.ctx (s.asidOf k)).dbg then .error (trapC Code.breakpoint) else .ok s) s

/-! ### ERET (12 R306, R313) -/

/-- The word a handler's C-engine reads once all three engines stand at the ERET; before that it waits. -/
def eret (f : LW) (act : Nat → DWord → State → State) (s : State) : Out :=
  let k := s.cur
  let t := s.tk k
  .next (if (s.sk k).handler.isNone then s.raise k .C { code := Code.illegalOp }
    else if t.a.st != .ended || t.v.st != .ended then s.stallAt k .C true
    else act k (t.getS f.a) (s.updSk k (fun x => { x with handler := x.handler.map (fun h => { h with reached := true }) })))

def State.eretBad (s : State) (k : Nat) : State := s.raise k .C { code := Code.illegalOp }

/-- Action 0: the task resumes from its record. -/
def State.eretResume (s : State) (k : Nat) (a : DWord) : State :=
  if fld a 63 2 ≠ 0 then s.eretBad k else s.trapReturn k

/-- Action 1: the task ends as at TEND, in its turn and once its jobs have ended (07 R178, R182, 15 R391, log 33). A fault of one of
those jobs that is pending then is taken from the record, as a task at TEND takes it (12 R305, log 55). -/
def State.eretEnd (s : State) (k : Nat) (a : DWord) : State :=
  if fld a 63 2 ≠ 0 then s.eretBad k
  else if (s.sk k).info.pend ≠ [] then s.trapReturn k
  else
    let s := s.undecided k
    match (if s.levelOf k < 2 then .ok s else s.taskTurn k .C) with
    | .error s' => s'
    | .ok s1 => s1.settle k .C (do
        need (!s1.namedByHead k) (trapC Code.replayDivergence)
        need (!s1.jobsLeft k) (.wait false)
        (s1.memberEnded k).endTask k)

/-- Action 2: the launch ends with HANDLER-END and the code given. -/
def State.eretLaunch (s : State) (k : Nat) (a : DWord) : State :=
  if fld a 63 32 ≠ 0 ∨ fld a 15 2 ≠ 0 then s.eretBad k
  else
    let i := (s.sk k).info
    (s.undecided k).endLaunch i.launch ⟨2, fld a 31 16, dieOf k, i.frame.taskId, 0⟩

/-- The row that ERET's words decode to: the action is read from sa. -/
def execEretResume (f : LW) (s : State) : Out :=
  eret f (fun k a s => match fld a 1 0 with
    | 0 => s.eretResume k a
    | 1 => s.eretEnd k a
    | 2 => s.eretLaunch k a
    | _ => s.eretBad k) s

def execEretEndTask (f : LW) (s : State) : Out := eret f (fun k a s => s.eretEnd k a) s
def execEretHandlerEnd (f : LW) (s : State) : Out := eret f (fun k a s => s.eretLaunch k a) s

/-! ### TLBI (12 R314) -/

/-- Whether a parked WAITA of a task of context `a` stands on a page that an invalidation covers. -/
def State.watchCovered (s : State) (dies : List Nat) (kind asid base len k : Nat) : Bool :=
  dies.contains (dieOf k) && match (s.tk k).watch with
  | some w =>
    tlbCovered kind asid base len ⟨s.asidOf k, w.va / 2 ^ w.lg * 2 ^ w.lg, w.lg, 0, 3⟩
  | none => false

/-- Removes the covered entries of the TLBs of the dies given, performs their accesses at package scope, and returns the
WAITAs on covered pages (12 R314, 05 R132). -/
def State.invalidate (s : State) (dies : List Nat) (kind asid base len : Nat) : State :=
  let keep (t : List TlbEnt) : List TlbEnt := t.filter (fun e => !tlbCovered kind asid base len e)
  let s := dies.foldl (fun s d => s.writeThroughAll d) s
  let s := dies.foldl (fun s d => s.updDie d (fun D => { D with tlb := keep D.tlb, gtlb := keep D.gtlb })) s
  let wake (x : Skillet) : Skillet := x.onT (fun t => { t with watch := t.watch.map (fun w => { w with woken := true }) })
  let turn (k : Nat) (x : Skillet) : Skillet :=
    let x := if dies.contains (dieOf k) then { x with atlb := keep x.atlb } else x
    if s.watchCovered dies kind asid base len k then wake x else x
  { s with sks := s.sks.map (fun e => (e.1, turn e.1 e.2)) }

/-- Whether every WAITA on a covered page has returned. -/
def State.watchesGone (s : State) (dies : List Nat) (kind asid base len : Nat) : Bool :=
  allSks.all (fun k => !s.watchCovered dies kind asid base len k)

/-- Whether a TLBI's two words are ones R314 permits. -/
def tlbiOk (a b : DWord) : Bool :=
  fld a 1 0 != 3 && fld a 15 3 == 0 && fld a 63 56 == 0 && (fld a 1 0 == 0 || (fld a 55 16 == 0 && b == 0))

/-- The dies a TLBI acts on. -/
def tlbiDies (a : DWord) (own : Nat) : List Nat := if a.getLsbD 2 then allDies else [own]

def execTlbi (f : LW) (s : State) : Out :=
  legalC (s.sk s.cur).handler.isSome (cLong f true false (fun k s => do
    let t := s.tk k
    let a := t.getS f.a
    let b := t.getS f.b
    need (tlbiOk a b) (trapC Code.sysArg)
    let ds := tlbiDies a (dieOf k)
    let base := fld a 55 16 * 65536
    let s := s.invalidate ds (fld a 1 0) (s.asidOf k) base b.toNat
    if s.watchesGone ds (fld a 1 0) (s.asidOf k) base b.toNat then .ok s else .error (.park s))) s

/-! ### CWB and CINV (12 R315) -/

/-- The physical ranges of `n` bytes at a virtual address, page by page: first address, end, and whether host memory. A page without
a translation holds no line. -/
def State.physRanges (s : State) (k va n : Nat) : List (Nat × Nat × Bool) :=
  if n = 0 then []
  else ((List.range ((va + n - 1) / 65536 + 1 - va / 65536)).filterMap (fun i =>
    let lo := max va (65536 * (va / 65536 + i))
    let hi := min (va + n) (65536 * (va / 65536 + i + 1))
    if 2 ^ 56 ≤ lo then none
    else match s.lookup (s.aTlbs k) (s.asidOf k) lo with
    | .leaf pte lvl => let l := locOf pte lvl lo; some (l.pa, l.pa + (hi - lo), l.host)
    | _ => none))

/-- Whether a 64-byte line lies in one of the ranges; a length above 16 MiB covers every line. -/
def lineIn (rs : List (Nat × Nat × Bool)) (all host : Bool) (line : Nat) : Bool :=
  all || rs.any (fun r => r.2.2 == host && decide (r.1 < 64 * line + 64) && decide (64 * line < r.2.1))

/-- CWB, or with `drop` CINV, over a range. -/
def State.cacheOp (s : State) (k va n : Nat) (drop : Bool) : State :=
  let d := dieOf k
  let all := decide (16 * 1024 * 1024 < n)
  let rs := if all then [] else s.physRanges k va n
  let s := (s.die d).dirty.foldl (fun s x => if lineIn rs all false x.line then s.writeThrough d x.line else s) s
  let s := (s.die d).hostLines.foldl (fun s e =>
    if lineIn rs all true e.1 then (if drop then s.hostDrop d e.1 else s.hostBack d e.1) else s) s
  if drop then s.updDie d (fun D => { D with clean := D.clean.filter (fun e => !lineIn rs all false e.1) }) else s

def cacheCmd (drop : Bool) (f : LW) (s : State) : Out :=
  cLong f true false (fun k s => do
    let s ← s.stampGate k f.stamp
    let t := s.tk k
    .ok (s.cacheOp k (t.getS f.a).toNat (t.getS f.b).toNat drop)) s

def execCwb (f : LW) (s : State) : Out := cacheCmd false f s
def execCinv (f : LW) (s : State) : Out := cacheCmd true f s

/-! ### PPT (12 R316) -/

/-- What PPT answers for a walk, and whether the leaf permits the access. -/
def pptWord (w : Walk) (va : Nat) (nd : Need) : DWord :=
  match w with
  | .mcheck _ _ => 0
  | .leaf pte lvl =>
    dw (place (leafPa pte lvl va / 65536) 36 16 + place (fld pte 9 2) 8 4 + place lvl 2 2 + 2 + b2n (permits pte nd))
  | .stop _ lvl _ => dw (place lvl 2 2)

def execPpt (f : LW) (s : State) : Out :=
  cLong f true false (fun k s => do
    let t := s.tk k
    let a := t.getS f.a
    let b := t.getS f.b
    need (b.toNat < 3) (trapC Code.sysArg)
    let s ← s.stampGate k f.stamp
    let put (s : State) (x : DWord) : State := s.onTk k (fun t => t.setS f.d x)
    if fld a 63 56 ≠ 0 then .ok (put s 0)
    else
      let nd : Need := match b.toNat with
        | 0 => .rd
        | 1 => .wr
        | _ => .fx
      let w := s.lookup (s.aTlbs k) (s.asidOf k) a.toNat
      match w with
      | .mcheck kind pa => .error (.mc kind pa)
      | _ =>
      let s := match w with
        | .leaf pte lvl =>
          let e := entryOf (s.asidOf k) a.toNat pte lvl
          (s.fillTlb (dieOf k) (s.asidOf k) a.toNat pte lvl).updSk k (fun x => { x with atlb := tlbFill 256 x.atlb e })
        | _ => s
      .ok (put s (pptWord w a.toNat nd))) s

end Sys2Proof.Machine
end

