-- ==== Sys2Proof/Machine/HostEvents.lean ====
section
/-! DEFINITION. What the host does to the package from outside: CXL.mem accesses, snoops, register writes, a host TLBI, LAYINV (08
R187, R198, 17 R415, R427, 18 R438, R440). -/

namespace Sys2Proof.Machine

open Sys2Proof

/-! ### CXL.mem (08 R198) -/

/-- The entry of a host access that meets a decode error or poison; it halts no task (17 R427). -/
def State.hostError (s : State) (e : PErr) : State := s.noteErr 0 0 e.mc.1 e.mc.2

/-- Bytes written by the host, at the home. -/
def State.hostStore (s : State) (pa : Nat) (bs : List Byte) : State :=
  if bs.isEmpty then s
  else match s.physOk pa bs.length false with
  | .error e => s.hostError e
  | .ok _ => s.land (cellsAt pa bs) .host

/-- A read by the host; the data goes to the host. -/
def State.hostLoad (s : State) (pa n : Nat) : State :=
  match s.physOk pa n true with
  | .error e => s.hostError e
  | .ok _ => s

/-- An atomic of the host on a doubleword of device memory. -/
def State.hostAtomic (s : State) (pa : Nat) (f : DWord → DWord) : State :=
  match s.physOk pa 8 true with
  | .error e => s.hostError e
  | .ok _ => s.land (cellsAt pa (leBytes 8 (f (rdDW s.mem pa)).toNat)) .host

/-- The host writes its own memory: its snoops take every die's copy of the lines, a watch on one of them wakes, and the race records of the
granules are emptied (05 R132, 08 R198, R206). -/
def State.hostOwn (s : State) (pa : Nat) (bs : List Byte) : State :=
  let ws := cellsAt pa bs
  let ls := linesOf ws
  let s := ls.foldl (fun s l => allDies.foldl (fun s d => s.hostDrop d l) s) s
  let s := s.emptyRecs (ls.map (· + 2 ^ 52)) .host
  let s : State := { s with hostMem := wrCells s.hostMem ws }
  s.wake (ls.map (· + 2 ^ 52)) (fun _ => true)

def execHostCxlAccess (x : HostAccess) (s : State) : Out :=
  event s.hostUp s (fun s =>
    match x with
    | .read pa n => if n = 0 then s else s.hostLoad pa n
    | .readCached line =>
      let s := s.hostLoad (64 * line) 64
      if (homeOf (64 * line)).isNone || s.hostCopies.contains line then s else { s with hostCopies := line :: s.hostCopies }
    | .write pa bs => s.hostStore pa bs
    | .atomicAdd pa v => s.hostAtomic pa (fun y => y + v)
    | .atomicOr pa v => s.hostAtomic pa (fun y => y ||| v)
    | .writeOwn pa bs => if pa + bs.length ≤ 2 ^ 52 then s.hostOwn pa bs else s)

/-- The response to a back-invalidation: the device write is performed at system scope (08 R187, R198). -/
def execBackInvalidateResponse (line : Nat) (s : State) : Out := event s.hostUp s (fun s => { s with backInv := s.backInv.filter (· != line) })

/-- A CXL.cache snoop of a host line held by a die: dirty data goes back; the copy is kept clean, or goes. -/
def execHostSnoop (die line : Nat) (inv : Bool) (s : State) : Out :=
  event s.hostUp s (fun s => if inv then s.hostDrop die line else s.hostBack die line)

/-! ### Registers (18 R438) -/

/-- The context, control word and length of a host TLBI in progress. -/
def execHostTlbi (die : Nat) (s : State) : Out :=
  let D := s.die die
  let busy (x : DWord) (s : State) : State := s.updDie die (fun D => { D with invst := x })
  let asid := fld D.invasid 15 0
  let base := fld D.invctl 55 16 * 65536
  event (D.invst.getLsbD 63) s (fun s =>
    if tlbiOk D.invctl D.invlen then
      let ds := tlbiDies D.invctl die
      let s := s.invalidate ds (fld D.invctl 1 0) asid base D.invlen.toNat
      if s.watchesGone ds (fld D.invctl 1 0) asid base D.invlen.toNat then busy 0 s else s
    else busy 1 s)

/-- The bits of LAYINV that have a name: ASID, ALL, entry. -/
def layinvMask : DWord := 0x0000FFFF00001FFF

/-- LAYINV of a die's block is written. -/
def State.writeLayinv (s : State) (d : Nat) (v : DWord) : State :=
  (s.updDie d (fun D => { D with layinv := v &&& layinvMask })).layinv v

/-- A write to LAYINV: the entry named, or every entry of the ASID, is read afresh from then on (17 R415). -/
def execLayinv (die : Nat) (v : DWord) (s : State) : Out := event s.hostUp s (fun s => s.writeLayinv die v)

/-- BUSY of the package's command engine. -/
def State.cmdBusy (s : State) : Bool := s.mstat.getLsbD 63

/-- A doorbell: MDOOR holds what was written last; the command is ignored while one runs; a code of no command fails at once (18 R438, R439). -/
def State.doorbell (s : State) (v : DWord) : State :=
  let s := { s with mdoor := v }
  if s.cmdBusy then s
  else
    let code := fld (Tbl.look 0 s.mcb 0) 7 0
    if 1 ≤ code ∧ code ≤ 0xF then { s with mstat := s.mstat ||| 0x8000000000000000 } else { s with mstat := 1 }

/-- A write to a register of a die's block. -/
def State.dieReg (s : State) (d off : Nat) (v : DWord) : State :=
  let upd (f : Die → Die) : State := s.updDie d f
  let i := off % 0x200 / 8
  if off < 0x200 then s.notify d i (v.toNat % 65536)
  else if off < 0x400 then upd (fun D => { D with ndrop := Tbl.set 0 D.ndrop i v })
  else if off = 0x400 then upd (fun D => { D with invasid := v })
  else if off = 0x408 then upd (fun D => { D with invctl := v })
  else if off = 0x410 then upd (fun D => { D with invlen := v, invst := 0x8000000000000000 })
  else if off = 0x500 then upd (fun D => { D with mcring := v &&& 0x000FFFFFFFFFFFC0 })
  else if off = 0x508 then upd (fun D => { D with mcovf := v })
  else if 0x600 ≤ off ∧ off < 0x680 then upd (fun D => { D with cec := Tbl.set 0 D.cec ((off - 0x600) / 8) v })
  else if off = 0x700 then s.writeLayinv d v
  else if (off = 0x800 ∧ d = 0) ∨ (off = 0x808 ∧ d = 3) then upd (fun D => { D with rxdrop := v })
  else s

/-- A write to a register of the package's block. -/
def State.packageReg (s : State) (off : Nat) (v : DWord) : State :=
  if off = 0 then { s with ctxtbl := v &&& 0x000FFFFFFFFF0000 }
  else if off = 8 then s.doorbell v
  else if 0x40 ≤ off ∧ off < 0x80 then { s with mcb := Tbl.set 0 s.mcb ((off - 0x40) / 8) v }
  else s

/-- What a register of a die's block reads as: NOTIFY and what is not listed read zero (18 R438). -/
def Die.readReg (D : Die) (d off : Nat) : DWord :=
  let i := off % 0x200 / 8
  if 0x200 ≤ off ∧ off < 0x400 then Tbl.look 0 D.ndrop i
  else if off = 0x400 then D.invasid
  else if off = 0x408 then D.invctl
  else if off = 0x410 then D.invlen
  else if off = 0x418 then D.invst
  else if off = 0x500 then D.mcring
  else if off = 0x508 then D.mcovf
  else if 0x600 ≤ off ∧ off < 0x680 then Tbl.look 0 D.cec ((off - 0x600) / 8)
  else if off = 0x700 then D.layinv
  else if (off = 0x800 ∧ d = 0) ∨ (off = 0x808 ∧ d = 3) then D.rxdrop
  else 0

/-- What a register of the package's block reads as. -/
def State.readPackage (s : State) (off : Nat) : DWord :=
  if off = 0 then s.ctxtbl
  else if off = 8 then s.mdoor
  else if off = 0x10 then s.mstat
  else if 0x40 ≤ off ∧ off < 0x80 then Tbl.look 0 s.mcb ((off - 0x40) / 8)
  else 0

/-- What the host reads of `n` bytes at an offset of the management space: a register by a naturally aligned doubleword, else zero. It changes
nothing, so that no event of the machine stands for it. After a failed boot only MSTAT answers (18 R438, R449). -/
def State.readReg (s : State) (off n : Nat) : DWord :=
  if n ≠ 8 ∨ off % 8 ≠ 0 ∨ 0x500000 ≤ off ∨ (s.bootFail ∧ off ≠ 0x10) then 0
  else if off < 0x100000 then s.readPackage off
  else (s.die (off / 0x100000 - 1)).readReg (off / 0x100000 - 1) (off % 0x100000)

/-- A write to the management space; one that is not to a register is ignored. -/
def execRegisterWrite (off : Nat) (v : DWord) (s : State) : Out :=
  event (s.hostUp && off % 8 == 0 && decide (off < 0x500000)) s (fun s =>
    if off < 0x100000 then s.packageReg off v else s.dieReg (off / 0x100000 - 1) (off % 0x100000) v)

end Sys2Proof.Machine
end

