-- ==== Sys2Proof/Machine/IngestEvents.lean ====
section
/-! DEFINITION. The ingest ports: arrival, classification, the receive buffer, records and the tail write (15 R397 to R399, 18 R445 to
R448). -/

namespace Sys2Proof.Machine

open Sys2Proof

/-- The die that hosts a port. -/
def portDie (p : Nat) : Nat := if p = 0 then 0 else 3

def State.port (s : State) (p : Nat) : Port := Tbl.look {} s.ports p
def State.updPort (s : State) (p : Nat) (f : Port → Port) : State := { s with ports := Tbl.upd {} s.ports p f }

/-! ### Stream descriptors (18 R446) -/

def Stream.on (x : Stream) : Bool := (cdw x.dws 0).getLsbD 63
def Stream.hold (x : Stream) : Bool := (cdw x.dws 0).getLsbD 62
def Stream.size (x : Stream) : Nat := 2 ^ fld (cdw x.dws 0) 61 56
def Stream.base (x : Stream) : Nat := fld (cdw x.dws 0) 55 6 * 64
def Stream.tailA (x : Stream) : Nat := fld (cdw x.dws 1) 55 3 * 8
def Stream.headA (x : Stream) : Nat := fld (cdw x.dws 2) 55 3 * 8
def Stream.asid (x : Stream) : Nat := fld (cdw x.dws 3) 15 0

def State.stream (s : State) (p i : Nat) : Stream := Tbl.look ⟨[], 0, 0⟩ (s.port p).streams i
def State.updStream (s : State) (p i : Nat) (f : Stream → Stream) : State :=
  s.updPort p (fun x => { x with streams := Tbl.upd ⟨[], 0, 0⟩ x.streams i f })

/-- A frame of a stream is dropped and counted in its SDROP. -/
def State.dropFrame (s : State) (p i : Nat) : State := s.updStream p i (fun x => { x with sdrop := x.sdrop + 1 })

/-! ### Arrival (18 R445, R448) -/

/-- The classifier entries a frame matches. -/
def Port.matching (x : Port) (frame : List Byte) : List Nat :=
  (x.cls.filter (fun e => decide (e.1 < 256) && e.2.dmac == frameDmac frame && e.2.vlan == frameVlan frame
    && frameUdp frame == some e.2.udp)).map (·.1)

/-- Bytes a receive buffer holds. -/
def rxBuffer : Nat := 64 * 1024 * 1024

/-- A frame as the port keeps it: without its check sequence, with the stamp of its arrival, which lies within 8 ns of the port's clock. -/
def stamped (port now : Nat) (frame : List Byte) : Frame802 :=
  let t := Config.ptpNs now + Config.stampErr port now % 17 - 8
  { bytes := frame.take (frame.length - 4), sec := t / 1000000000 % 2 ^ 48, ns := t % 1000000000 }

def execIngestFrameArrival (port : Nat) (frame : List Byte) (s : State) : Out :=
  event (decide (port < 2) && (s.die (portDie port)).alive && frameOk frame) s (fun s =>
    match (s.port port).matching frame with
    | [i] =>
      if !(s.stream port i).on then s.dropFrame port i
      else if rxBuffer < (s.port port).buf.foldl (fun n e => n + e.2.bytes.length) (frame.length - 4) then
        s.updDie (portDie port) (fun D => { D with rxdrop := D.rxdrop + 1 })
      else s.updPort port (fun x => { x with buf := x.buf ++ [(i, stamped port s.now frame)] })
    | _ => s)

/-! ### Records (18 R447) -/

/-- The record of a frame: header, frame, zeros to a multiple of 64 bytes. -/
def recordBytes (port stream : Nat) (f : Frame802) : List Byte :=
  let n := 16 + f.bytes.length
  leBytes 8 (place f.sec 48 0 + place f.bytes.length 14 48 + place port 1 62) ++ leBytes 8 (place f.ns 32 0 + place stream 8 32)
    ++ f.bytes ++ List.replicate (64 * ceilDiv n 64 - n) 0

/-- The decision an arrival is, for the logs of its context's queues. -/
def ingestDecision (port stream : Nat) (f : Frame802) : Decision :=
  decIngest f.bytes.length port stream (dw (place f.sec 32 32 + place f.ns 32 0))

/-- Makes the decision in the log of every queue of a context on a die. -/
def State.logIngest (d : Nat) (x : Decision) : List (Nat × Level) → State → Act
  | [], s => .ok s
  | (q, _) :: r, s =>
    match s.decideLog d q x [] with
    | .ok s => State.logIngest d x r s
    | .error e => .error e

/-- The queues whose logs hold the arrivals of a stream. -/
def State.streamQueues (s : State) (x : Stream) : List (Nat × Level) := s.levels.filter (fun e => e.2.asid == x.asid)

/-- A buffered frame leaves: a record, after a pad where it would wrap, then the tail; a frame without space waits with HOLD, and is
dropped without. Where the head cannot be read, or the record or the tail not written, the error is logged and the frame waits (17 R413, R427, 18
R448). -/
def execIngestRecordWrite (port stream : Nat) (s : State) : Out :=
  let d := portDie port
  let x := s.stream port stream
  match (s.port port).buf.find? (fun e => e.1 == stream) with
  | none => .next s
  | some fr =>
    event (decide (port < 2) && (s.die d).alive && x.on) s (fun s0 =>
      let leave (s : State) : State := s.updPort port (fun p => { p with buf := p.buf.erase fr })
      let s := (s0.writeThroughAll d).selfInvalidate d
      let bs := recordBytes port stream fr.2
      let at_ := x.tail % x.size
      let pad := if x.size < at_ + bs.length then x.size - at_ else 0
      let total := pad + bs.length
      match s.physOk x.headA 8 true with
      | .error e => s0.noteErr d x.asid e.mc.1 e.mc.2
      | .ok _ =>
      if (rdDW s.mem x.headA).toNat + x.size < x.tail + total then (if x.hold then s else leave (s.dropFrame port stream))
      else match State.logIngest d (ingestDecision port stream fr.2) (s.streamQueues x) s with
      | .error _ => s0
      | .ok s =>
        let tail := x.tail + total
        let ws := cellsAt (x.base + at_) (List.replicate pad 0) ++ cellsAt (x.base + (at_ + pad) % x.size) bs
        match (s.wrHome d 0 false ws .port).bind (fun s => (s.writeThroughAll d).wrHome d 0 false (cellsAt x.tailA (leBytes 8 tail)) .port) with
        | .ok s => leave (s.updStream port stream (fun x => { x with tail := tail }))
        | .error e => s0.noteErr d x.asid e.mc.1 e.mc.2)

end Sys2Proof.Machine
end

