-- ==== Sys2Proof/Machine/DetEvents.lean ====
section
/-! DEFINITION. Events of the determinism levels: rounds, schedule frames, a frame that ends, replays that part from their log (15 R391,
R394, R395, R399). -/

namespace Sys2Proof.Machine

open Sys2Proof

/-! ### Rounds (15 R391) -/

/-- The Skillets on which tasks of a launch run; a halted task has stopped. -/
def State.running (s : State) (l : Nat) : List Nat :=
  allSks.filter (fun k => (s.sk k).busy && (s.sk k).halted.isNone && (s.sk k).info.launch == l)

def insertTask (s : State) (k : Nat) : List Nat → List Nat
  | [] => [k]
  | x :: r =>
    if (s.sk k).info.frame.taskId.toNat ≤ (s.sk x).info.frame.taskId.toNat then k :: x :: r else x :: insertTask s k r

/-- Whether a task waits at a turn: an engine of it does, or it has stopped to be suspended in a JOIN. -/
def Skillet.atTurn (x : Skillet) : Bool := x.info.turn.isSome || (x.info.stop == some .join && x.t.allStopped)

/-- A round closes when every running task waits at a turn: its turns follow in ascending TASKID. -/
def execRoundClose (launch : Nat) (s : State) : Out :=
  match s.launch? launch with
  | none => .next s
  | some L =>
    let ks := s.running launch
    event (decide (2 ≤ L.level) && L.turns.isEmpty && !ks.isEmpty && ks.all (fun k => (s.sk k).atTurn)) s (fun s =>
      s.updLaunch launch (fun L => { L with turns := ks.foldr (insertTask s) [] }))

/-! ### Schedule frames (15 R394, R395) -/

/-- The counter of a D3 launch advances: time passes to the start of its next frame. -/
def execSfcTick (launch : Nat) (s : State) : Out :=
  match s.launch? launch with
  | none => .next s
  | some L =>
    match L.started with
    | none => .next s
    | some t => event (L.level == 3 && decide (t ≤ s.now)) s (fun s =>
        { s with now := t + (L.flen + 1) * ((s.now - t) / (L.flen + 1) + 1) })

/-- The stamp of the long-form command at which a C-engine stands. -/
def State.stampAt (s : State) (k : Nat) : Option Nat :=
  match s.fetchAt k .C (s.tk k).c.pc.toNat with
  | .ok (.word w0 w1 _) => if tagOf w0 == 0 && isLong w0 && !isTendPair w0 w1 then some (w1.toNat % 65536) else none
  | _ => none

/-- Whether the command at which a C-engine stands has not passed its stamp: none in hand, a JOIN that spins, or one that has passed its checks
and waits for a window entry, for queue space or for its lease. -/
def State.unissued (s : State) (k : Nat) : Bool :=
  match (s.tk k).cmd with
  | none => true
  | some (.spin _ _) => true
  | some (.accept _ _ _) => true
  | some _ => false

/-- The frame of a command that waits outside its Skillet, and has not issued, ends: it raises STAMP-OVERRUN. -/
def execStampOverrun (sk : Nat) (s : State) : Out :=
  let x := s.sk sk
  let waits : Bool := match x.t.c.stall with
    | some st => !st.inside
    | none => false
  match s.stampAt sk with
  | none => .next s
  | some n =>
    event (x.runs && x.info.stop.isNone && x.t.c.st == .run && s.levelOf sk == 3 && waits && s.unissued sk
        && decide (x.info.stampL.toNat + n < (s.sfcOf sk).toNat)) s (fun s =>
      (s.onInfo sk (fun i => { i with turn := none })).raise sk .C { code := Code.stampOverrun })

/-! ### Replay (15 R399) -/

/-- A steal that the head of a die's log imposes and that cannot be made: the thief looks for work, and the victim's bottom entry is not
ready or is another. -/
def State.stealParts (s : State) (a b : DWord) : Option Nat :=
  let thief := fld a 52 46
  let victim := fld a 45 39
  match (s.sk thief).launch with
  | none => none
  | some l =>
    if s.seeks thief l && s.noOwn thief l then
      match s.bottom ⟨l, victim⟩ with
      | .ok (some f, _) => if f.state = .ready ∧ f.taskId = b then none else some l
      | _ => some l
    else none

/-- An arrival that the head of a die's log names and that is another: the running launches of the queue. -/
def State.ingestParts (s : State) (a : DWord) : Bool :=
  let p := fld a 8 8
  let i := fld a 7 0
  match (s.port p).buf.find? (fun e => e.1 == i) with
  | some fr => fr.2.bytes.length != fld a 47 32
  | none => false

/-- The launch of a queue ends with CODE 0x0603; INFO holds the address of the entry. -/
def State.diverge (s : State) (die qid l : Nat) (v : Level) : State :=
  let g := s.logOf die qid
  s.endLaunch l ⟨1, Code.replayDivergence, die, 0, dw (v.entryAddr die g.cur g.ncur)⟩

def execReplayDivergence (die qid : Nat) (s : State) : Out :=
  match s.logLevel qid with
  | none => .next s
  | some v =>
    if v.mode ≠ 2 ∨ (s.logOf die qid).done then .next s
    else match s.replayHead 3 die qid v with
    | (none, s') => .next s'
    | (some (a, b), s') =>
      .next (match entryType a with
      | 1 => match s'.stealParts a b with
        | some l => s'.diverge die qid l v
        | none => s'
      | 4 =>
        if s'.ingestParts a then
          (s'.launches.filter (fun e => e.2.qid == qid)).foldl (fun s e => s.diverge die qid e.1 v) s'
        else s'
      | _ => s')

end Sys2Proof.Machine
end

