-- ==== Sys2Proof/Machine/EngineEvents.lean ====
section
/-! DEFINITION. Events of the engines and their memory path: deadlock, arrivals, walks, evictions, WAITA and PFB (01 R25, R26,
05 R131 to R135, 08 R197, 12 R293). -/

namespace Sys2Proof.Machine

open Sys2Proof

/-! ### Deadlock (01 R25) -/

/-- Consecutive cycles after which the engines of a Skillet are deadlocked. -/
def deadlockCycles : Nat := 2 ^ 24

/-- Whether an engine has waited on something inside its Skillet that long; one that stands at TEND or ERET counts. -/
def Eng.stuck (E : Eng) (now : Nat) : Bool :=
  (E.st == .run || E.st == .ended) && match E.stall with
    | some st => st.inside && decide (st.since + deadlockCycles ≤ now)
    | none => false

def execEngineDeadlock (sk : Nat) (s : State) : Out :=
  let x := s.sk sk
  event (x.busy && x.halted.isNone && !x.t.allEnded && x.t.c.stuck s.now && x.t.a.stuck s.now && x.t.v.stuck s.now) s (fun s =>
    let r : Report := { code := Code.engineDeadlock }
    let s := s.raise sk .C r
    if (s.sk sk).busy then (s.raise sk .A r).raise sk .V r else s)

/-! ### Arrivals, walks, evictions -/

/-- The data of entry `i` of a load queue has arrived (01 R26); a scalar load takes its value at issue (log 4). -/
def execLoadDataArrival (sk q i : Nat) (s : State) : Out :=
  let mark (l : List QEnt) : List QEnt := l.zipIdx.map (fun (x, j) => if j = i then { x with arrived := true } else x)
  .next (match q with
    | 0 => s.onTk sk (fun t => { t.unstall with lq0 := mark t.lq0 })
    | 1 => s.onTk sk (fun t => { t.unstall with lq1 := mark t.lq1 })
    | _ => s)

/-- A walk that ends at a valid leaf fills the TLBs of its die; a walk that faults leaves nothing (12 R293). -/
def execPageWalkComplete (die asid va : Nat) (s : State) : Out :=
  .next (match s.walk asid va with
    | .stop _ _ _ => s
    | .mcheck _ _ => s
    | .leaf pte lvl =>
      let e := entryOf asid va pte lvl
      let s := (s.fillTlb die asid va pte lvl).updDie die (fun D => { D with gtlb := tlbFill 1024 D.gtlb e })
      { s with sks := s.sks.map (fun (k, x) =>
          if dieOf k = die ∧ x.busy ∧ s.asidOf k = asid then (k, { x with atlb := tlbFill 256 x.atlb e }) else (k, x)) })

/-- A line leaves a die's cache: a remote-dirty line is written through, a clean copy dropped; a host-attribute line, told
apart by bit 52, is written back (08 R197, R198). -/
def execCacheEviction (die line : Nat) (s : State) : Out :=
  .next (if 2 ^ 52 ≤ line then s.hostDrop die (line - 2 ^ 52)
    else (s.writeThrough die line).updDie die (fun D => { D with clean := Tbl.del D.clean line }))

/-! ### WAITA (05 R131 to R133) -/

/-- A parked WAITA reads and retires. -/
def State.waitaEnd (s : State) (k : Nat) (w : Watch) : State :=
  s.settle k .A ((s.waitaRead k w.d (dw w.va) w.scope.toNat w.acq).map (fun s => s.retire k .A 8 w.tok))

def waitaEvent (sk : Nat) (due : Watch → Bool) (s : State) : Out :=
  match (s.tk sk).watch with
  | some w => event ((s.sk sk).busy && (s.sk sk).halted.isNone && (s.tk sk).a.st == .run && due w) s (fun s => s.waitaEnd sk w)
  | none => .next s

def execWaitaWake (sk : Nat) (s : State) : Out := waitaEvent sk (fun w => w.woken && s.watchTurn sk w) s
def execWaitaTimeout (sk : Nat) (s : State) : Out := waitaEvent sk (fun w => w.late s.now && s.watchDue sk w) s

/-! ### PFB (05 R134, R135) -/

def execPrefetchComplete (sk id : Nat) (s : State) : Out := .next (s.prefetchDone sk id)

end Sys2Proof.Machine
end

