-- ==== Sys2Proof/Machine/Handles.lean ====
section
/-! DEFINITION. State handles: the directory, Crock pages and the Ladle, handle order, reorder slots, freeing (14 R342 to R351, R366
to R368, R376, R377, R380). -/

namespace Sys2Proof.Machine

open Sys2Proof

/-! ### Values and shapes (14 R343, R344) -/

def hHome (v : DWord) : Nat := fld v 63 52
def hIndex (v : DWord) : Nat := fld v 51 24
def hGen (v : DWord) : Nat := fld v 23 0
def handleValue (home index gen : Nat) : DWord := dw (place home 12 52 + place index 28 24 + place gen 24 0)

/-- Bytes of a Crock page. -/
def crockPage : Nat := 262144
def imageBytes (nh dk dv : Nat) : Nat := 4 * nh * dv * dk
def Handle.ib (h : Handle) : Nat := imageBytes h.nh h.dk h.dv
def Handle.npg (h : Handle) : Nat := ceilDiv h.ib crockPage
def Handle.shape (h : Handle) : DWord := dw (place h.nh 5 32 + place h.dv 9 16 + place h.dk 9 0)
def shapeWordOk (x : DWord) : Bool :=
  let within (n hi : Nat) : Bool := decide (1 ≤ n) && decide (n ≤ hi)
  fld x 63 37 == 0 && fld x 31 25 == 0 && fld x 15 9 == 0
    && within (fld x 36 32) 16 && within (fld x 24 16) 256 && within (fld x 8 0) 256

/-! ### The directory (14 R346) -/

def State.handle? (s : State) (v : DWord) : Option Handle := Tbl.find s.handles v.toNat
def State.updHandle (s : State) (v : DWord) (f : Handle → Handle) : State :=
  { s with handles := s.handles.map (fun (e : Nat × Handle) => if e.1 = v.toNat then (e.1, f e.2) else e) }

/-- The indices of this chip's directory that name a handle. -/
def State.usedIndices (s : State) : List Nat :=
  (s.handles.filter (fun e => hHome e.2.value == s.chipId.toNat)).map (fun e => hIndex e.2.value)

/-- The lowest free index. -/
def State.freeIndex (s : State) : Option Nat :=
  let used := s.usedIndices
  ((List.range (used.length + 1)).map (· + 1)).find? (fun i => decide (i ≤ s.dirCap) && !used.contains i)

/-- The value a new handle gets at an index. -/
def State.newValue (s : State) (i : Nat) : DWord := handleValue s.chipId.toNat i (Tbl.look 1 s.handleGen i)

/-- The generation after `g` (14 R380). -/
def genAfter (g : Nat) : Nat := if g = 0xFFFFFF then 1 else g + 1

/-- A handle's entry goes; an index of this chip is free again, a generation on. -/
def State.eraseHandle (s : State) (v : DWord) : State :=
  { s with handles := Tbl.del s.handles v.toNat
           handleGen := if hHome v = s.chipId.toNat then Tbl.put s.handleGen (hIndex v) (genAfter (hGen v)) else s.handleGen }

/-- A handle is the most recently used of its die (14 R349). -/
def State.touch (s : State) (v : DWord) : State :=
  ({ s with nextId := s.nextId + 1 } : State).updHandle v (fun h => { h with used := s.nextId })

/-! ### Crock pages (14 R342, R349 to R351, 17 R433) -/

/-- The pages of a die in use: those of its handles and those kept for actions to come. -/
def State.crockUsed (s : State) (d : Nat) : List Nat :=
  (s.handles.flatMap (fun e =>
    (if e.2.die = d then e.2.pages else []) ++ (e.2.kept.filter (fun k => k.die == d)).flatMap (·.pages))).eraseDups

def State.crockFree (s : State) (d : Nat) : List Nat :=
  let used := s.crockUsed d
  (List.range (s.die d).crockCap).filter (fun p => !used.contains p)

/-- The pin limit PMAX. -/
def State.pmax (s : State) (d : Nat) : Nat := (s.die d).crockCap - 64

/-- Pages of the pinned handles of a die. -/
def State.pinnedPages (s : State) (d : Nat) : Nat :=
  (s.handles.filter (fun e => e.2.die == d && e.2.pin.isSome)).foldl (fun n e => n + e.2.npg) 0

def HItem.pins : HItem → Bool
  | .pin on _ => on
  | _ => false

/-- Pages of the accepted pins of a die that have not acted (14 R379). -/
def State.pendingPins (s : State) (d : Nat) : Nat :=
  (s.handles.filter (fun e => e.2.die == d)).foldl (fun n e => n + e.2.npg * (e.2.ord.filter HItem.pins).length) 0

/-- A die with a working Crock. -/
def State.hasCrock (s : State) (d : Nat) : Bool := (s.die d).alive && decide (0 < (s.die d).crockCap)

/-- The die that owns what would be owned by `d`: the lowest with a working Crock where its own is retired (17 R433). -/
def State.crockDie (s : State) (d : Nat) : Nat := if s.hasCrock d then d else (allDies.find? s.hasCrock).getD d

/-! ### The Ladle (14 R348, R349) -/

/-- The parts of a range that lie in one page of 64 KiB each. -/
def pageParts (va n : Nat) : List (Nat × Nat) :=
  if n = 0 then []
  else (List.range ((va + n - 1) / 65536 + 1 - va / 65536)).map (fun i =>
    let lo := max va (65536 * (va / 65536 + i))
    (lo, min (va + n) (65536 * (va / 65536 + i + 1)) - lo))

def ladleRead (d asid : Nat) : List (Nat × Nat) → State → Except RecErr (List Byte × State)
  | [], s => .ok ([], s)
  | (a, n) :: r, s =>
    match s.unitRd d asid a n with
    | .error e => .error e
    | .ok (bs, s) => (ladleRead d asid r s).map (fun (xs, s) => (bs ++ xs, s))

def ladleWrite (d asid : Nat) : List (Nat × Nat) → List Byte → State → Except RecErr State
  | [], _, s => .ok s
  | (a, n) :: r, bs, s =>
    match s.unitWr d asid a (bs.take n) with
    | .error e => .error e
    | .ok s => ladleWrite d asid r (bs.drop n) s

/-- An uncorrectable error met by a unit's access is logged (17 R427, R428). -/
def State.noteRec (s : State) (d asid : Nat) : RecErr → State
  | .mcheck kind pa => s.noteErr d asid kind pa
  | _ => s

/-- An access of the Ladle for a handle failed: the handle's PF is set, and an uncorrectable error logged (14 R348, R349, 17 R427). -/
def State.ladleFail (s : State) (h : Handle) (e : RecErr) (f : Handle → Handle := id) : State :=
  (s.noteRec h.die h.asid e).updHandle h.value (fun h => { f h with pf := true })

/-- An image as bytes, and bytes as an image. -/
def Handle.bytes (h : Handle) (im : Tbl Byte) : List Byte := (List.range h.ib).map (fun i => Tbl.look 0 im i)
def imageOf (bs : List Byte) : Tbl Byte := (bs.zipIdx.filter (fun e => e.1 != 0)).map (fun e => (e.2, e.1))

/-- The image in a handle's backing area. -/
def State.readBacking (s : State) (h : Handle) : Except RecErr (Tbl Byte × State) :=
  (ladleRead h.die h.asid (pageParts h.backing h.ib) s).map (fun (bs, s) => (imageOf bs, s))

/-- Writes an image to a handle's backing area. -/
def State.writeBacking (s : State) (h : Handle) (im : Tbl Byte) : Except RecErr State :=
  ladleWrite h.die h.asid (pageParts h.backing h.ib) (h.bytes im) s

/-- The image of a handle where it lies. -/
def State.imageNow (s : State) (h : Handle) : Except RecErr (Tbl Byte × State) :=
  if h.res = .parked then s.readBacking h else .ok (h.image, s)

/-- A handle is PARKED, its image in its backing area. -/
def Handle.parkedAs (h : Handle) : Handle := { h with res := .parked, pages := [], image := [] }

/-- Eviction of a handle; a failed write abandons it and sets PF. -/
def State.evict (s : State) (h : Handle) : State :=
  match s.writeBacking h h.image with
  | .error e => s.ladleFail h e
  | .ok s => s.updHandle h.value (fun h => { h.parkedAs with pf := false })

def Handle.evictable (h : Handle) (d : Nat) : Bool :=
  h.made && h.res == .resident && h.die == d && h.pin.isNone && h.ord.isEmpty

def insertUsed (h : Handle) : List Handle → List Handle
  | [] => [h]
  | x :: r => if h.used ≤ x.used then h :: x :: r else x :: insertUsed h r

/-- The evictable handles of a die, least recently used first. -/
def State.lru (s : State) (d : Nat) : List Handle := ((s.handles.map (·.2)).filter (·.evictable d)).foldr insertUsed []

/-- Evicts in order until `n` pages are free or no handle is left. -/
def State.makeRoom (d n : Nat) : List Handle → State → State
  | [], s => s
  | h :: r, s => if n ≤ (s.crockFree d).length then s else State.makeRoom d n r (s.evict h)

/-- `n` free pages of a die, after the evictions that takes; none where they are lacking. -/
def State.takePages (s : State) (d n : Nat) : Option (List Nat) × State :=
  let s := State.makeRoom d n (s.lru d) s
  let free := s.crockFree d
  (if n ≤ free.length then some (free.take n) else none, s)

/-- A handle's image is set in pages of its die. -/
def Handle.residentAs (h : Handle) (pages : List Nat) (im : Tbl Byte) : Handle := { h with res := .resident, pages := pages, image := im }

/-- Parks an image, with what else changes with it; a failed write leaves the handle as it was, with PF (14 R349, log 36). -/
def State.parkImage (s : State) (h : Handle) (im : Tbl Byte) (with_ : Handle → Handle) : State :=
  match s.writeBacking h im with
  | .ok s => s.updHandle h.value (fun h => with_ h.parkedAs)
  | .error e => s.ladleFail h e

/-- Sets an image built in staging pages, with what else changes in the same action; where the die has none, it is parked (log 36). -/
def State.stageImage (s : State) (h : Handle) (im : Tbl Byte) (with_ : Handle → Handle) : State :=
  match s.takePages h.die h.npg with
  | (some ps, s) => s.updHandle h.value (fun h => with_ (h.residentAs ps im))
  | (none, s) => s.parkImage h im with_

/-! ### Marks: places of an operand (14 R376, R377) -/

/-- The image of an operand at its place is kept for the action. -/
def State.keepImage (s : State) (h : Handle) (dst : DWord) (tok m : Nat) : State :=
  match s.imageNow h with
  | .ok (im, s) =>
    s.updHandle dst (fun x => { x with kept := x.kept ++ [⟨tok, m, true, h.nextSeq, h.die, h.pages, h.pois, im⟩] })
  | .error e => (s.noteRec h.die h.asid e).updHandle dst (fun x => { x with kept := x.kept ++ [{ tok := tok, m := m, ok := false }] })

def State.settleHandle (v : DWord) : Nat → State → State
  | 0, s => s
  | n + 1, s =>
    match s.handle? v with
    | some h =>
      match h.ord with
      | .mark dst tok m :: r =>
        State.settleHandle v n ((s.keepImage h dst tok m).updHandle v (fun h => { h with ord := r }))
      | _ => s
    | none => s

/-- Every mark whose turn has come is taken: done before anything acts on a handle. -/
def State.settleMarks (s : State) : State := s.handles.foldl (fun s e => State.settleHandle e.2.value e.2.ord.length s) s

/-- The head of a handle's order is done. -/
def State.popItem (s : State) (v : DWord) : State := s.updHandle v (fun h => { h with ord := h.ord.tail })

/-! ### Jobs of a handle -/

def jobDie (t : Nat) : Nat := t / 256
def jobWin (t : Nat) : Nat := t % 256
def State.jobAt (s : State) (t : Nat) : Option Job := s.job? (jobDie t) (jobWin t)

/-- A job ends as an asynchronous engine fault, with no effect and no signal (14 R351, R365). -/
def State.endJob (s : State) (d w code : Nat) : State :=
  match s.job? d w with
  | none => s
  | some j => ((s.notifyTask d w j { code := code }).leaveSems (fun x => x == .job d w)).dropJob d w

/-- SEQ of a Whisk card (14 R354). -/
def fwSeqOf (c : List DWord) : Nat := fld (cdw c 10) 31 0

def insertJob (s : State) (t : Nat) : List Nat → List Nat
  | [] => [t]
  | x :: r => if ((s.jobAt t).map (·.ord)).getD 0 ≤ ((s.jobAt x).map (·.ord)).getD 0 then t :: x :: r else x :: insertJob s t r

/-- The jobs of a handle in reorder slots and not yet released, in order of acceptance. -/
def State.slotted (s : State) (v : DWord) : List Nat :=
  let released := s.dies.flatMap (fun (e : Nat × Die) => e.2.rel)
  let mine (t : Nat) : Bool := !released.contains t && (s.jobAt t).map (·.handle) == some v
  ((allDies.flatMap (fun d => (s.die d).rs)).filter mine).foldr (insertJob s) []

/-- Discards the slotted jobs of a handle (14 R377, R380). -/
def State.discardSlots (s : State) (v : DWord) : State :=
  (s.slotted v).foldl (fun s t => s.endJob (jobDie t) (jobWin t) Code.chunkDiscarded) s

/-- A job whose place in handle order is fixed enters a die's Whisk queue, or waits for an entry of it (14 R368). -/
def State.enqueue (s : State) (die t : Nat) : State :=
  let D := s.die die
  if D.wq.length < whiskQueue && D.rel.isEmpty then
    let s := s.updDie die (fun D => { D with wq := D.wq ++ [t] })
    s.updDie (jobDie t) (fun D => { D with rs := D.rs.filter (· != t) })
  else s.updDie die (fun D => { D with rel := D.rel ++ [t] })

/-- A slotted job is released: its place in handle order is fixed, and it enters the Whisk queue if that has room (14 R368). -/
def State.release (s : State) (h : Handle) (t : Nat) : State :=
  (s.updHandle h.value (fun h => { h with ord := h.ord ++ [.job (jobDie t) (jobWin t)] })).enqueue h.die t

/-- The queued jobs of a handle follow it to another die, whose Whisk runs them (14 R378, R383). -/
def State.forward (s : State) (h : Handle) (die : Nat) : State :=
  let ts := h.ord.filterMap (fun x => match x with
    | .job d w => some (jobTag d w)
    | _ => none)
  if die = h.die then s
  else
    let rest (l : List Nat) : List Nat := l.filter (fun t => !ts.contains t)
    let s := s.updDie h.die (fun D => { D with wq := rest D.wq ++ (rest D.rel).take (whiskQueue - (rest D.wq).length)
                                               rel := (rest D.rel).drop (whiskQueue - (rest D.wq).length) })
    ts.foldl (fun s t => s.enqueue die t) s

/-- Releases the slotted jobs of a handle whose SEQ is the new NEXTSEQ. -/
def State.releaseSlots (s : State) (h : Handle) (n : Nat) : State :=
  ((s.slotted h.value).filter (fun t => (s.jobAt t).map (fun j => fwSeqOf j.card) == some n)).foldl (fun s t => s.release h t) s

/-! ### Freeing (14 R380) -/

/-- What stands in handle order behind an action that ended the handle: jobs end with a code, actions are skipped, the handles they would
have made are freed. -/
def State.skipItems (s : State) (code : Nat) (l : List HItem) : State :=
  l.foldl (fun s x => match x with
    | .job d w => s.endJob d w code
    | .mark dst tok m => s.updHandle dst (fun h => { h with kept := h.kept ++ [{ tok := tok, m := m, ok := false }] })
    | .snap dst _ => s.eraseHandle dst
    | _ => s) s

/-- A foreign entry that is freed is freed on its HOME chip too, which a packet tells (14 R380, log 38). -/
def State.tellHome (s : State) (h : Handle) : State :=
  let home := hHome h.value
  if home = s.chipId.toNat then s
  else s.post { kind := .handleMove, src := s.chipId.toNat, dst := home, asid := h.asid, addr := 0, data := leBytes 8 h.value.toNat, job := 0 }

/-- The HOME chip learns that a handle which moved away has been freed: its index is free again, a generation on (14 R380). -/
def State.freedAway (s : State) (v : DWord) : State :=
  match s.handle? v with
  | some h => if h.res = .away then s.eraseHandle v else s
  | none => s

/-- SHFREE's action. -/
def State.freeHandle (s : State) (v : DWord) : State :=
  match s.handle? v with
  | none => s
  | some h => (((s.tellHome h).discardSlots v).eraseHandle v).skipItems Code.badHandle h.ord

/-! ### Checks of commands that name a handle (14 R357, R372) -/

/-- BAD-HANDLE. -/
def State.ownHandle (s : State) (k : Nat) (v : DWord) : Except Stop Handle :=
  match s.handle? v with
  | some h => if h.asid = s.asidOf k then .ok h else .error (trapC Code.badHandle)
  | none => .error (trapC Code.badHandle)

/-- BAD-HANDLE and HANDLE-AWAY. -/
def State.hereHandle (s : State) (k : Nat) (v : DWord) : Except Stop Handle := do
  let h ← s.ownHandle k v
  need (h.res != .away) (trapI Code.handleAway (dw h.awayChip))
  .ok h

/-- Whether commands that reach a handle wait (14 R345, R371); a die that is lost answers none. -/
def State.unreachable (s : State) (h : Handle) : Bool := !h.made || h.res == .moving || !(s.die h.die).alive

/-- The outcome of a pending command of the C-engine, from its acceptance. -/
def State.acceptCmd (s : State) (k : Nat) (r : Ret) (a : Act) : State :=
  s.settle k .C (a.map (fun s => if (s.sk k).busy then s.retire k .C 8 r.tok else s))

end Sys2Proof.Machine
end

