-- ==== Sys2Proof/Machine/MachineCheckCmd.lean ====
section
/-! DEFINITION. Acknowledging machine-check entries: MCACK, and the action it shares with the management interface and
Garnet's timeout (17 R428 to R430). -/

namespace Sys2Proof.Machine

open Sys2Proof

/-- The slot and entry of a die's ring with a sequence number, not yet acknowledged. -/
def State.mcEntry (s : State) (d seq : Nat) : Option (Nat × McEnt) :=
  (s.die d).ring.find? (fun e => fld e.2.dw0 63 32 == seq && !e.2.acked)

def McEnt.halt (e : McEnt) : Bool := e.dw0.getLsbD 30

/-- ACK set in the entry, here and in memory. -/
def State.setAck (s : State) (d slot : Nat) (e : McEnt) : State :=
  let x := e.dw0 ||| 0x80000000
  let s := s.updDie d (fun D => { D with ring := Tbl.put D.ring slot { e with dw0 := x } })
  s.land (cellsAt (((s.die d).mcring.toNat / 64 * 64) % 2 ^ 52 + 64 * slot) (leBytes 8 x.toNat)) .unit

/-- The Skillet an entry halted returns to its die's pool, or is fenced (17 R427). -/
def State.mcRelease (s : State) (e : McEnt) : State :=
  match e.sk with
  | some k => if (s.sk k).halted = some (fld e.dw0 63 32) then s.releaseHalted k e.fence else s
  | none => s

/-- What the halted task of an entry is: on its Skillet, or saved. -/
def State.mcInfo (s : State) (e : McEnt) : Option TaskInfo :=
  match e.sk with
  | some k => if (s.sk k).halted = some (fld e.dw0 63 32) ∧ (s.sk k).busy then some (s.sk k).info else none
  | none => (Tbl.find s.saved e.tid).map (·.info)

/-- ACT 1: the halted task is treated as killed and its Skillet released (17 R429, 07 R175). -/
def State.mcRerun (s : State) (e : McEnt) : State :=
  match e.sk with
  | some k => (s.killTask k).mcRelease e
  | none =>
    match Tbl.find s.saved e.tid with
    | none => s
    | some v =>
      let unlist (D : Die) : Die := { D with resume := D.resume.filter (· != e.tid) }
      let s : State := { s with saved := Tbl.del s.saved e.tid, dies := s.dies.map (fun (x : Nat × Die) => (x.1, unlist x.2)) }
      s.unitEnd v.info.launch v.die v.info.frame.taskId (s.requeue v.sk v.info)

/-- ACT 2: the task's launch ends with HANDLER-END and the code given. -/
def State.mcEnd (s : State) (e : McEnt) (code : Nat) : State :=
  let d := match e.sk with
    | some k => dieOf k
    | none => ((Tbl.find s.saved e.tid).map (·.die)).getD (fld e.dw0 29 28)
  (s.endLaunch e.launch ⟨2, code, d, e.taskId, 0⟩).mcRelease e

/-- Whether the launch of an entry's task runs. -/
def State.mcRuns (s : State) (e : McEnt) : Bool :=
  e.taskId != 0 && match s.launch? e.launch with
  | some l => l.ending.isNone
  | none => false

/-- Whether the requirement of an action holds. -/
def State.mcMay (s : State) (e : McEnt) : Nat → Bool
  | 0 => !e.halt
  | 1 => e.halt && match s.mcInfo e with
    | some i => i.frame.idem && i.killOk
    | none => false
  | 2 => s.mcRuns e
  | _ => false

/-- Whether a re-run may act: no job that names the halted task's scratchpad is in flight (09 R244). -/
def State.mcReady (s : State) (e : McEnt) (act : Nat) : Bool :=
  act != 1 || match e.sk with
  | some k => !s.scrBusy k
  | none => true

/-- ACK set and the action applied. -/
def State.mcApply (s : State) (d slot : Nat) (e : McEnt) (act code : Nat) : State :=
  let s := s.setAck d slot e
  match act with
  | 1 => s.mcRerun e
  | 2 => s.mcEnd e code
  | _ => s

/-- MCACK with the action given by `act` of sb (17 R429). -/
def mcack (f : LW) (act : DWord → Nat) (s : State) : Out :=
  cLong f false false (fun k s => do
    let t := s.tk k
    let a := t.getS f.a
    let b := t.getS f.b
    need (fld a 63 34 == 0 && fld b 63 32 == 0 && fld b 15 2 == 0) (trapC Code.sysArg)
    match s.mcEntry (fld a 33 32) (fld a 31 0) with
    | none => .error (trapC Code.sysArg)
    | some (slot, e) => do
      need (e.asid == s.asidOf k && s.mcMay e (act b)) (trapC Code.sysArg)
      need (s.mcReady e (act b)) (.wait false)
      let s ← s.stampGate k f.stamp
      let s := s.onTk k (fun t => t.setS f.d (e.dw0 ||| 0x80000000))
      .ok (s.mcApply (fld a 33 32) slot e (act b) (fld b 31 16))) s

/-- The row that MCACK's words decode to: the action is read from sb. -/
def execMcackAck (f : LW) (s : State) : Out := mcack f (fun b => fld b 1 0) s
def execMcackRerun (f : LW) (s : State) : Out := mcack f (fun _ => 1) s
def execMcackEndLaunch (f : LW) (s : State) : Out := mcack f (fun _ => 2) s

end Sys2Proof.Machine
end

