-- ==== Sys2Proof/Machine/LinkEvents.lean ====
section
/-! DEFINITION. The links: packets received and applied, acknowledgements, replays, lanes, the Melper and die links (10 R266, 18 R440 to
R444, R456, R458). -/

namespace Sys2Proof.Machine

open Sys2Proof

/-! ### Sequence numbers (18 R443) -/

/-- How far `b` lies behind `a` modulo 2^16. -/
def seqBehind (a b : Nat) : Nat := (a + 65536 - b % 65536) % 65536

/-- Whether a SEQ is `from_` or comes after it. -/
def seqFrom (from_ s : Nat) : Bool := decide (seqBehind s from_ < 32768)

/-- A replay starts, or starts again, from a SEQ; none where nothing is kept from there on (18 R443). -/
def Link.replayFrom (l : Link) (from_ : Nat) : Link :=
  { l with cursor := if l.replay.any (fun e => seqFrom from_ e.1) then some from_ else none }

/-- A replay from the first packet that is not acknowledged. -/
def Link.replayAll (l : Link) (now : Nat) : Link := { l with cursor := (l.replay.head?).map (·.1), lastAck := now }

/-- A replay in progress puts its next packet on the wire (18 R443, R459). -/
def Link.replayStep (l : Link) : Link :=
  match l.cursor with
  | none => l
  | some c =>
    match l.replay.find? (fun e => seqFrom c e.1) with
    | none => { l with cursor := none }
    | some e => ({ l with out := l.out ++ [e] } : Link).replayFrom ((e.1 + 1) % 65536)

/-- The sender frees what an ACK covers, and a replay goes on behind it (18 R443, R459). -/
def Link.freeTo (l : Link) (seq now : Nat) : Link :=
  let l : Link := { l with
    acked := if l.replay.any (fun e => seqFrom e.1 seq) then seq else l.acked
    replay := l.replay.filter (fun e => !seqFrom e.1 seq), lastAck := now }
  match l.cursor with
  | some c => l.replayFrom (if seqFrom c seq then (seq + 1) % 65536 else c)
  | none => l

/-- The receiver acknowledges the highest packet performed. -/
def Link.ack (l : Link) : Link := { l with acksSent := l.acksSent ++ [(l.expect + 65535) % 65536], sinceAck := 0, ackDue := none }
def Link.nak (l : Link) : Link := { l with naksSent := l.naksSent ++ [(l.expect + 65535) % 65536] }

/-- Whether a link carries flits now. -/
def Link.live (l : Link) : Bool := l.up && !l.retraining

/-! ### What an inbound packet does (10 R266, 18 R444) -/

/-- The die whose translation serves inbound packets. -/
def inboundDie : Nat := 0

/-- What turns an inbound packet away: nothing more, or an uncorrectable error at an address, which is logged (17 R413, R427). -/
abbrev Inb (α : Type) : Type := Except (Option (Nat × Nat)) α

/-- An inbound range, if it lies in the window of its ASID and translates there: its parts. A flag add is an atomic: a layout aperture takes
none (17 R414). -/
def State.inboundLocs (s : State) (asid a n : Nat) (nd : Need) : Inb (List (Loc × Nat)) :=
  match Tbl.find s.inbound asid with
  | none => .error none
  | some (base, limit) =>
    if (s.ctx asid).valid ∧ base ≤ a ∧ a + n ≤ limit then
      (granules a n).mapM (fun (va, len) =>
        match s.xlate (s.dTlbs inboundDie) asid va nd with
        | .ok l => if nd = .rw ∧ !l.host ∧ (apertureOf l.pa).isSome then .error none else .ok (l, len)
        | .error r => .error r.mc)
    else .error none

/-- Writes the parts of an inbound packet at their homes. -/
def State.inboundWrite (asid : Nat) : List (Loc × Nat) → List Byte → State → Inb State
  | [], _, s => .ok s
  | (l, n) :: r, bs, s =>
    match s.wrHome inboundDie asid l.host (cellsAt l.pa (bs.take n)) .unit with
    | .ok s => State.inboundWrite asid r (bs.drop n) s
    | .error e => .error (some e.mc)

def State.inboundRead (asid : Nat) : List (Loc × Nat) → State → Inb (List Byte × State)
  | [], s => .ok ([], s)
  | (l, n) :: r, s =>
    match s.rdHome inboundDie asid l.host l.pa n with
    | .ok (bs, s) => (State.inboundRead asid r s).map (fun (xs, s) => (bs ++ xs, s))
    | .error e => .error (some e.mc)

/-- The packet that answers another: data read, or none where it was refused (log 39). -/
def replyTo (s : State) (p : Packet) (data : List Byte) : Packet :=
  { kind := .readReply, src := s.chipId.toNat, dst := p.src, asid := p.asid, addr := p.addr, data := data, job := 0 }

/-- A packet is refused: the refusal goes to its origin, and an error met is logged. -/
def State.refuse (s : State) (p : Packet) (why : Option (Nat × Nat)) : Option State :=
  let s := match why with
    | some (kind, pa) => s.noteErr inboundDie p.asid kind pa
    | none => s
  s.send (replyTo s p [])

/-- The Skillet whose far copy waits for the record a reply brings. -/
def State.replyWaiter (s : State) (p : Packet) : Option Nat :=
  allSks.find? (fun k => (s.sk k).busy && match (s.tk k).cmd with
    | some (.accept _ j _) =>
      j.far && j.sent && j.rec2.isEmpty && !j.flagged && j.asid == p.asid && cpChip j.card == p.src && (caddr j.card 14).toNat == p.addr
    | _ => false)

/-- The number of the packet of a far copy that goes to an address: of its data, or the flag's, which is the last. -/
def Job.packetAt (j : Job) (a : Nat) : Option Nat :=
  let b := (caddr j.card 10).toNat
  if b ≤ a ∧ a < b + j.streamBytes then some ((a - b) / 2048)
  else if cpFen j.card ∧ a = (cpFlag j.card).toNat then some j.packets
  else none

/-- The chunks that packet `n` of a far copy carries the last byte of (18 R458). -/
def Job.packetChunks (j : Job) (n : Nat) : List Nat := ((List.range 4).map (4 * n + ·)).filter (fun c => decide (c < j.nChunks))

/-- Packet `n` of a far copy is refused: the job halts there with PERMISSION-FAULT, and neither the packet nor a chunk of it counts as
performed, whichever of refusal and ACK came first; `rows` keeps the refused packets whose ACK is still to come (18 R444). -/
def State.refusedPacket (s : State) (d w n : Nat) (j : Job) (a : Nat) : State :=
  let cs := j.packetChunks n
  let done := if n < j.packets then cs.any j.landed.contains else j.flagged
  let s := if done ∧ cpBen j.card then
      s.updSlot j.srcDie (cpSlot j.card) (fun b =>
        { b with bits := cs.foldl (fun m c => m &&& ~~~(runMask (cpBoff j.card + c) 1)) b.bits })
    else s
  let s := s.updJob d w (fun j =>
    { j with landed := j.landed.filter (fun c => !cs.contains c), rows := if done then j.rows else j.rows ++ [n], rp := min j.rp n
             flagged := j.flagged && decide (n < j.packets), sent := j.sent && decide (n < j.packets) })
  s.haltJob d w j { code := Code.permissionFault, addr := dw a, write := true }

/-- A reply reaches the command that waits for its record, or a refusal the job whose packet was refused. -/
def State.takeReply (s : State) (p : Packet) : State :=
  match s.replyWaiter p with
  | some k =>
    let fill (c : PendCmd) : PendCmd := match c with
      | .accept d j r => .accept d (if p.data.isEmpty then { j with flagged := true } else { j with rec2 := dwords 8 p.data }) r
      | c => c
    s.onTk k (fun t => { t with cmd := t.cmd.map fill })
  | none =>
    if !p.data.isEmpty then s
    else
      let hit (j : Job) : Bool := j.far && j.st == .running && j.asid == p.asid && cpChip j.card == p.src && (j.packetAt p.addr).isSome
      match (s.jobsWhere hit).head? with
      | none => s
      | some (d, w) =>
        match s.job? d w with
        | none => s
        | some j => s.refusedPacket d w ((j.packetAt p.addr).getD 0) j p.addr

/-- An expected packet is applied; none where that must wait: its answer cannot be sent yet, or a flag add, which is a release at system scope, finds
the host still to answer for lines written before it (10 R266, 18 R458). -/
def State.applyPacket (s : State) (p : Packet) : Option State :=
  match p.kind with
  | .write =>
    match (s.inboundLocs p.asid p.addr p.data.length .wr).bind (fun ls => State.inboundWrite p.asid ls p.data s) with
    | .ok s => some s
    | .error e => s.refuse p e
  | .flagAdd =>
    if s.backInv ≠ [] then none
    else match (s.inboundLocs p.asid p.addr 8 .rw).bind (fun ls =>
        (State.inboundRead p.asid ls s).bind (fun (bs, s) => State.inboundWrite p.asid ls (leBytes 8 (ofLe bs + 1)) s)) with
    | .ok s => some s
    | .error e => s.refuse p e
  | .readRequest =>
    match (s.inboundLocs p.asid p.addr 64 .rd).bind (fun ls => State.inboundRead p.asid ls s) with
    | .ok (bs, s) => s.send (replyTo s p bs)
    | .error e => s.refuse p e
  | .readReply => some (s.takeReply p)
  | .handleMove =>
    if !(s.ctx p.asid).valid then s.refuse p none
    else some (if p.addr = 0 then s.freedAway (dw (ofLe p.data)) else { s with moves := s.moves ++ [p] })

/-- The next expected packet of a link is taken. -/
def Link.took (l : Link) (now : Nat) : Link :=
  let l := { l with expect := (l.expect + 1) % 65536, sinceAck := l.sinceAck + 1, ackDue := some (l.ackDue.getD now) }
  if 32 ≤ l.sinceAck then l.ack else l

/-- The expected packet of a link arrives. One first sent on another link, which went down, is applied only if it was not applied from there, and counts
there too: no packet is applied twice (18 R443, R460, log 61). -/
def State.acceptPacket (s : State) (link : Nat) (p : Packet) : Option State :=
  match p.via with
  | none => (s.applyPacket p).map (fun s => s.updLink link (·.took s.now))
  | some (v, q) =>
    if q = (s.link v).expect then
      (s.applyPacket p).map (fun s =>
        (s.updLink v (fun l => { l with expect := (l.expect + 1) % 65536 })).updLink link (·.took s.now))
    else some (s.updLink link (·.took s.now))

/-- The flits of a packet arrive: it is applied if every flit is whole and its SEQ is expected; a duplicate is discarded and acknowledged again; an
error or a gap makes the receiver send NAK (18 R442, R443). `via` is the packet's own link and SEQ where it was first sent on another. -/
def execBenvasPacketReceive (link : Nat) (via : Option (Nat × Nat)) (flits : List (List Byte)) (s : State) : Out :=
  let l := s.link link
  event (decide (link < 6) && l.live) s (fun s =>
    match packetOf flits with
    | none => s.updLink link Link.nak
    | some (seq, p) =>
      if seq = l.expect then (s.acceptPacket link { p with via := via }).getD s
      else
        let back := seqBehind l.expect seq
        if 1 ≤ back ∧ back ≤ 256 then s.updLink link Link.ack else s.updLink link Link.nak)

/-! ### Acknowledgements (18 R443, R458) -/

/-- A packet of a far copy is acknowledged: its chunks have been performed at the target, or its flag add; one that was refused was not (18 R444). -/
def State.packetDone (s : State) (p : Packet) : State :=
  let d := jobDie p.job
  let w := jobWin p.job
  match s.jobAt p.job with
  | none => s
  | some j =>
    match (if j.far then j.packetAt p.addr else none) with
    | none => s
    | some n =>
      if j.rows.contains n then s.updJob d w (fun j => { j with rows := j.rows.erase n })
      else match p.kind with
      | .write => (j.packetChunks n).foldl (fun s c => if j.landed.contains c then s else s.landChunk d w j c) s
      | .flagAdd => s.updJob d w (fun j => { j with flagged := true })
      | _ => s

/-- An ACK restarts the sender's clock, frees the packets it covers, and what waited for room goes on. -/
def execBenvasAckReceive (link seq : Nat) (s : State) : Out :=
  let l := s.link link
  let done := l.replay.filter (fun e => seqFrom e.1 seq)
  event (decide (link < 6) && l.live) s (fun s =>
    let s := done.foldl (fun s e => s.packetDone e.2) (s.updLink link (fun l => l.freeTo seq s.now))
    State.drainWaiting link (s.link link).waiting s)

def execBenvasNakReceive (link seq : Nat) (s : State) : Out :=
  event (decide (link < 6) && (s.link link).live) s (fun s =>
    s.updLink link (fun l => ({ l with lastAck := s.now } : Link).replayFrom ((seq + 1) % 65536)))

/-- A packet left unacknowledged makes the receiver send ACK, 500 ns at the latest. -/
def execAckTimer (link : Nat) (s : State) : Out :=
  event (decide (link < 6) && (s.link link).live && (s.link link).ackDue.isSome) s (fun s => s.updLink link Link.ack)

/-- Cycles without an ACK after which the sender sends again: 20 µs. -/
def replayCycles : Nat := 20 * usCycles

/-- A replay in progress sends its next packet; where none is, 20 µs without an ACK start one (18 R443, log 29). -/
def execReplayTimeout (link : Nat) (s : State) : Out :=
  let l := s.link link
  event (decide (link < 6) && l.live && !l.replay.isEmpty && (l.cursor.isSome || decide (l.lastAck + replayCycles ≤ s.now))) s (fun s =>
    s.updLink link (fun l => if l.cursor.isSome then l.replayStep else l.replayAll s.now))

/-! ### Lanes (18 R444) -/

/-- Whether a half of a link holds a failed lane. -/
def Link.halfBad (l : Link) (hi : Bool) : Bool := l.badLanes.extractLsb' (if hi then 8 else 0) 8 != 0

/-- The packets a down link keeps move to another live link to their chip, in SEQ order, while it takes them. Each goes on under the link and the SEQ
it was first sent with (18 R444, R460). -/
def State.moveReplay (link : Nat) : List (Nat × Packet) → State → State
  | [], s => s
  | (q, p) :: r, s =>
    match s.sendLive { p with via := some (p.via.getD (link, q)) } with
    | some s => State.moveReplay link r (s.updLink link (fun l => { l with replay := l.replay.filter (fun e => e.1 != q) }))
    | none => s

/-- What a down link keeps, and what waits there, goes elsewhere. -/
def State.emptyLink (s : State) (link : Nat) : State :=
  let s := State.moveReplay link (s.link link).replay s
  State.drainWaiting link (s.link link).waiting s

/-- A lane fails: the link stops to retrain, and a replay on it stops, or it is down where both halves hold a failed lane (18 R444, R456). -/
def execLaneFailure (link lane : Nat) (s : State) : Out :=
  event (decide (link < 6) && decide (lane < 16)) s (fun s =>
    let s := s.updLink link (fun l =>
      let l := { l with badLanes := l.badLanes ||| BitVec.ofNat 16 (2 ^ lane), wide := false, cursor := none }
      if l.halfBad false && l.halfBad true then { l with up := false, retraining := false } else { l with retraining := l.up })
    if (s.link link).up then s else s.emptyLink link)

/-- Whether a maintenance window of either chip is open at a link. -/
def State.linkWindow (s : State) (link : Nat) : Bool := allDies.any (fun d => (s.die d).maint) || Config.peerWindow link s.now

/-- Retraining ends: at x8 on the intact half, or at x16, in a maintenance window of either chip; the sender resends from the last SEQ
acknowledged. -/
def execLinkRetrainComplete (link : Nat) (wide : Bool) (s : State) : Out :=
  let l := s.link link
  event (decide (link < 6) && l.up && (if wide then s.linkWindow link else l.retraining)) s (fun s =>
    s.updLink link (fun l =>
      ({ l with retraining := false, wide := wide, badLanes := if wide then 0 else l.badLanes } : Link).replayAll s.now))

/-- A down link tries full width again. -/
def execFullWidthRetry (link : Nat) (ok : Bool) (s : State) : Out :=
  event (decide (link < 6) && !(s.link link).up && !s.bootFail) s (fun s =>
    if ok then
      let s := s.updLink link (fun l => ({ l with up := true, retraining := false, wide := true, badLanes := 0 } : Link).replayAll s.now)
      State.drainWaiting link (s.link link).waiting s
    else s.emptyLink link)

/-! ### The Melper link and the die links (18 R440, R441) -/

/-- A lane of the Melper link is lost: x16 on the intact half, or down. -/
def execMelperLaneLoss (lane : Nat) (s : State) : Out :=
  event (decide (lane < 32)) s (fun s =>
    let (a, b) := s.melperHalf
    let (a, b) := if lane < 16 then (a + 1, b) else (a, b + 1)
    { s with melperHalf := (a, b), melperUp := s.melperUp && (a == 0 || b == 0) })

/-- A corrected error is counted in CEC, saturating (18 R438). -/
def State.countCe (s : State) (die unit : Nat) : State :=
  s.updDie die (fun D => { D with cec := Tbl.upd 0 D.cec unit (fun x => if x = 0xFFFFFFFFFFFFFFFF then x else x + 1) })

/-- A link between two dies retrains, which only CEC(10) shows, or cannot, and die `a` is lost (17 R435). -/
def execUcieLinkRetrain (a b : Nat) (ok : Bool) (s : State) : Out :=
  event (decide (a < 4) && decide (b < 4) && a != b && (s.die a).alive && (s.die b).alive) s (fun s =>
    if ok then (s.countCe a 10).countCe b 10
    else ({ s with ucieDown := (a, b) :: s.ucieDown } : State).loseDie a)

end Sys2Proof.Machine
end

