-- ==== Sys2Proof/Machine/RefreshEvents.lean ====
section
/-! DEFINITION. Refresh and patrol scrub: row classes, demotion, temperature, takeover and return of Spinel, guards (17 R419 to
R425). -/

namespace Sys2Proof.Machine

open Sys2Proof

/-! ### Stacks and classes (17 R420, R421) -/

def State.stack (s : State) (d k : Nat) : Stack := Tbl.look {} (s.die d).hbm k
def State.updStack (s : State) (d k : Nat) (f : Stack → Stack) : State := s.updDie d (fun D => { D with hbm := Tbl.upd {} D.hbm k f })

/-- A stack of a die that stands. -/
def State.hasStack (s : State) (d k : Nat) : Bool := decide (d < 4) && decide (k < 2) && (s.die d).alive

/-- Whether a filter holds a row; a Bloom filter may answer for one never put in. -/
def inFilter (id : Nat) (b : Bool) (f : Option (List Nat)) (row : Nat) : Bool :=
  match f with
  | some l => l.contains row || Config.bloomFalse id b row
  | none => false

/-- The class of a row as its period in ms. -/
def State.rowClass (s : State) (d k row : Nat) : Nat :=
  let x := s.stack d k
  if inFilter (2 * d + k) false x.filterA row then 32 else if inFilter (2 * d + k) true x.filterB row then 64 else 128

/-- Cycles of a catch-up sweep: 2 ms. -/
def sweepCycles : Nat := 2000 * usCycles

/-- Whether a catch-up sweep of a stack is under way. -/
def State.sweeping (s : State) (x : Stack) : Bool := x.sweep.any (fun t => decide (s.now < t + sweepCycles))

/-- Whether the controller's uniform rate is in force: it refreshes, or Spinel has returned and its sweep has not ended (17 R423). -/
def State.uniform (s : State) (x : Stack) : Bool := x.taken || (x.back && s.sweeping x)

/-- The period at which a row is refreshed now, in ms (17 R420, R422, R423). -/
def State.period (s : State) (d k row : Nat) : Nat :=
  let x := s.stack d k
  if s.uniform x then 16 else if x.hot then 32 else s.rowClass d k row

/-- The last time a row is known to have been refreshed: by itself, or by a sweep that has ended. -/
def State.refreshedBy (s : State) (d k row : Nat) : Nat :=
  let x := s.stack d k
  max (Tbl.look 0 x.refreshed row) (match x.sweep with
    | some t => if s.now < t + sweepCycles then 0 else t + sweepCycles
    | none => 0)

/-- The refresher of a stack works until now where the controller refreshes, and is known to have worked up to its last heartbeat where Spinel
does: a Spinel that is silent refreshes nothing (17 R423). -/
def State.refreshing (s : State) (x : Stack) : Nat := if s.uniform x then s.now else min x.beat s.now

/-- Cycles since a row was last refreshed: its refresher, as long as it works, comes back to it every 7P / 8 (17 R420), counted from its last
known refresh. -/
def State.rowAge (s : State) (d k row : Nat) : Nat :=
  let p := 7 * s.period d k row * 1000 * usCycles / 8
  let r := s.refreshedBy d k row
  s.now - (r + (s.refreshing (s.stack d k) - r) / p * p)

def addRow (f : Option (List Nat)) (row : Nat) : Option (List Nat) := some (row :: (f.getD []).filter (· != row))

/-- A corrected error demotes its row at once, or makes a row of class 32 ms a candidate for repair. -/
def State.applyDemotion (s : State) (d k row : Nat) : State :=
  let c := s.rowClass d k row
  s.updStack d k (fun x =>
    let x := { x with learned := if c = 32 then x.learned else x.learned ++ [row] }
    if c = 128 then { x with filterB := addRow x.filterB row }
    else if c = 64 then { x with filterA := addRow x.filterA row }
    else { x with candidates := if x.candidates.contains row then x.candidates else x.candidates ++ [row] })

/-- A corrected error in a row: while the controller refreshes, it is recorded for Spinel's return. -/
def State.demote (s : State) (d k row : Nat) : State :=
  if (s.stack d k).taken then s.updStack d k (fun x => { x with demoted := x.demoted ++ [row] }) else s.applyDemotion d k row

/-! ### Refresh -/

/-- A row is refreshed: of a stack, by Spinel or by the controller, or, as stack 2, of the LPDDR-6 of the die, by its controller (17 R419, R420). -/
def execRefreshRow (die stack row : Nat) (s : State) : Out :=
  event (decide (die < 4) && decide (stack < 3) && (s.die die).alive && decide (row < 2 ^ 24)) s (fun s =>
    s.updStack die stack (fun x => { x with refreshed := Tbl.put x.refreshed row s.now }))

/-- A stack crosses 95 °C upwards, for the first time or again: every row at 32 ms, after a catch-up sweep unless the controller refreshes. -/
def execHbmOverTemperature (die stack : Nat) (s : State) : Out :=
  event (s.hasStack die stack) s (fun s =>
    s.updStack die stack (fun x => { x with hot := true, hotAt := s.now, sweep := if x.taken then x.sweep else some s.now }))

/-- Cycles a stack stays below 90 °C before its classes return: 1 s. -/
def coolCycles : Nat := 1000000 * usCycles

/-- A stack has stayed below 90 °C for 1 s, as its sensor tells: a second without a crossing of 95 °C at least. -/
def execHbmTemperatureRecovery (die stack : Nat) (s : State) : Out :=
  event (s.hasStack die stack && (s.stack die stack).hot && decide ((s.stack die stack).hotAt + coolCycles ≤ s.now)) s (fun s =>
    s.updStack die stack (fun x => { x with hot := false }))

def execSpinelHeartbeat (die stack : Nat) (s : State) : Out :=
  event (s.hasStack die stack && !(s.stack die stack).taken) s (fun s => s.updStack die stack (fun x => { x with beat := s.now }))

/-- The controller takes refresh over: a sweep from a cycle on, scrub suspended, its guards closed without write-back. -/
def State.takeover (s : State) (d k : Nat) (start : Nat) : State :=
  s.updStack d k (fun x => { x with taken := true, back := false, sweep := some start, guards := [] })

/-- Cycles without a heartbeat before the takeover: 1 ms. -/
def beatLimit : Nat := 1000 * usCycles

/-- Cycles from the last heartbeat within which a takeover starts: 2 ms. -/
def takeLimit : Nat := 2000 * usCycles

/-- A handover starts at once; a takeover that this event tells of later than 2 ms after the last heartbeat has started by then (17 R423). -/
def execRefreshTakeover (die stack : Nat) (handover : Bool) (s : State) : Out :=
  let x := s.stack die stack
  event (s.hasStack die stack && !x.taken && (handover || decide (x.beat + beatLimit ≤ s.now))) s (fun s =>
    if handover then s.takeover die stack s.now
    else ((s.takeover die stack (min s.now (x.beat + takeLimit))).logMc { die := die, unit := 11, kind := 6 }).1)

/-- The rows a filter is loaded with: those of a class no longer than `lim` in the repair record, and those it holds, whose demotions are
not in the record yet (17 R420, R421). -/
def Stack.loaded (ret : List (Nat × Nat)) (lim : Nat) (f : Option (List Nat)) : Option (List Nat) :=
  some ((f.getD []) ++ ((ret.filter (fun e => decide (e.2 ≤ lim))).map (·.1)).filter (fun row => !(f.getD []).contains row))

/-- A returning Spinel loads its filters, applies the demotions recorded and sweeps; its classes, and the scrub, resume when the sweep has ended
(17 R423). -/
def execSpinelResume (die stack : Nat) (s : State) : Out :=
  let x := s.stack die stack
  event (s.hasStack die stack && x.taken) s (fun s =>
    let ret := Tbl.look [] (s.die die).repair.retention stack
    let s := s.updStack die stack (fun x =>
      { x with taken := false, back := true, beat := s.now, sweep := some s.now, demoted := []
               filterA := Stack.loaded ret 32 x.filterA, filterB := Stack.loaded ret 64 x.filterB })
    x.demoted.foldl (fun s row => s.applyDemotion die stack row) s)

/-! ### Scrub (17 R424, R425) -/

/-- The scrubber of a granule: a stack of HBM4E, or 2 for the LPDDR-6 controller of its die. -/
def scrubberOf (g : Nat) : Nat := if 64 * g < 0x8000000000 then stackOf (64 * g) else 2

/-- Granules of a stack, or of the LPDDR-6 of a die. -/
def scrubTotal (k : Nat) : Nat := if k = 2 then 2 ^ 31 else 2 ^ 30

/-- Granule `n`, in ascending address order, of a stack or of the LPDDR-6 of a die (17 R412, R424). -/
def scrubGranule (d k n : Nat) : Nat :=
  if k = 2 then 2 ^ 33 + d * 2 ^ 31 + n else d * 2 ^ 31 + (2 * (n / 64) + k) * 64 + n % 64

/-- Guards a memory controller holds. -/
def guardMax : Nat := 16

/-- Guards open in the controller of a die, for its three scrubbers. -/
def Die.guardsOpen (D : Die) : Nat := D.hbm.foldl (fun n e => n + e.2.guards.length) 0

/-- The scrubber reads its next granule: a corrected one demotes its row and keeps its guard open; an uncorrectable one is poisoned, unless a
guard of it has counted a write, and logged. -/
def execScrubRead (die granule : Nat) (found : ScrubFind) (s : State) : Out :=
  let k := scrubberOf granule
  let x := s.stack die k
  let unit := if k = 2 then 1 else 0
  event (decide (die < 4) && (s.die die).alive && homeOf (64 * granule) == some die && !s.uniform x
      && decide ((s.die die).guardsOpen < guardMax) && granule == scrubGranule die k x.scrubAt) s (fun s =>
    let s := s.updStack die k (fun x => { x with scrubAt := (x.scrubAt + 1) % scrubTotal k })
    match found with
    | .good => s
    | .corrected =>
      let s := (s.countCe die unit).updStack die k (fun x => { x with guards := x.guards ++ [⟨granule, 0, true⟩] })
      if k = 2 then s else s.demote die k (rowOf (64 * granule))
    | .uncorrectable =>
      let (u, b, d) := mcPlace (64 * granule) die
      let s := (s.logMc { die := d, unit := u, bank := b, kind := 2, addr := 64 * granule }).1
      let s := if k = 2 then s else s.updStack die k (fun x =>
        let row := rowOf (64 * granule)
        { x with candidates := if x.candidates.contains row then x.candidates else x.candidates ++ [row] })
      if x.guards.any (fun g => g.granule == granule && g.count != 0) || s.poison.contains granule then s
      else { s with poison := granule :: s.poison })

/-- The guard closes: the corrected granule is written back if its count is still 0, which changes no value. -/
def execScrubWriteBack (die granule : Nat) (s : State) : Out :=
  let k := scrubberOf granule
  event ((s.stack die k).guards.any (fun g => g.granule == granule)) s (fun s =>
    s.updStack die k (fun x => { x with guards := x.guards.eraseP (fun g => g.granule == granule) }))

end Sys2Proof.Machine
end

