-- ==== Sys2Proof/Machine/ErrorEvents.lean ====
section
/-! DEFINITION. Uncorrectable errors as the units report them, and entries left unacknowledged (14 R352, 17 R426 to R430, R432, R433). -/

namespace Sys2Proof.Machine

open Sys2Proof

/-- The entry of an error. -/
def errorInfo (e : ErrorEvent) : McInfo :=
  { die := e.die, unit := e.unit, bank := e.bank % 65536, kind := e.kind, addr := e.addr, synd := e.synd, fence := e.storage }

/-- A Griddle plate that failed its residue check is pending; a slab that holds it shows PR (09 R214, R243). -/
def State.pendPlate (s : State) (d p : Nat) : State :=
  s.updDie d (fun D => { D with
    pendRet := D.pendRet ||| BitVec.ofNat 256 (2 ^ p)
    slabs := D.slabs.map (fun (i, b) => (i, { b with pr := b.pr || b.plates.contains p })) })

/-- Every handle whose page list holds a page is POISONED (14 R352). -/
def State.poisonPage (s : State) (d p : Nat) : State :=
  let bad (h : Handle) : Handle :=
    { h with pois := h.pois || (h.die == d && h.pages.contains p)
             kept := h.kept.map (fun k => { k with pois := k.pois || (k.die == d && k.pages.contains p) }) }
  { s with handles := s.handles.map (fun (e : Nat × Handle) => (e.1, bad e.2)) }

/-- Whether the L2 of a die may hold a dirty line of an address: one of its own home, or a remote-dirty one (08 R186, R197). -/
def State.l2Dirty (s : State) (d pa : Nat) : Bool :=
  match homeOf pa with
  | some h => h == d || ((s.die d).dirtyAt (pa / 64)).isSome
  | none => false

/-- What an error does besides its entry: a plate pends (UNIT 7), a Skillet or a Crock bank is fenced (KIND 7), poison goes to memory from
a dirty cache line (UNIT 2, 3), a row of HBM4E becomes a candidate for repair. -/
def State.errorSide (s : State) (e : ErrorEvent) : State :=
  if e.unit = 7 then s.pendPlate e.die (e.bank % 256)
  else if e.unit = 5 ∧ e.kind = 7 then s.updSk (32 * e.die + e.bank % 32) (fun x => { x with fenced := true })
  else if e.unit = 6 ∧ e.kind = 7 then
    s.updDie e.die (fun D => { D with bankBad := if D.bankBad.contains (e.bank % 128) then D.bankBad else D.bankBad ++ [e.bank % 128] })
  else if (e.unit = 2 ∧ homeOf e.addr = some e.die) ∨ (e.unit = 3 ∧ s.l2Dirty e.die e.addr) then
    let s := s.updDie e.die (fun D => { D with dirty := D.dirty.filter (fun x => x.line != e.addr / 64) })
    { s with poison := if s.poison.contains (e.addr / 64) then s.poison else e.addr / 64 :: s.poison }
  else if e.unit = 0 ∧ e.addr < 0x8000000000 then
    s.updStack e.die (stackOf e.addr) (fun x =>
      { x with candidates := if x.candidates.contains (rowOf e.addr) then x.candidates else x.candidates ++ [rowOf e.addr] })
  else s

/-- A corrected error, which the event names with KIND 0: it is counted and writes no entry; in HBM4E it demotes the row (17 R421,
R426). -/
def State.corrected (s : State) (e : ErrorEvent) : State :=
  let s := s.countCe e.die e.unit
  if e.unit = 0 ∧ e.addr < 0x8000000000 then s.demote e.die (stackOf e.addr) (rowOf e.addr) else s

def execMachineCheck (e : ErrorEvent) (s : State) : Out :=
  let m := errorInfo e
  let log (s : State) : State := (s.logMc m).1
  event (decide (e.die < 4) && (s.die e.die).alive) s (fun s =>
    if e.kind = 0 then s.corrected e
    else
    let s := s.errorSide e
    match e.at_ with
    | .task k =>
      if (s.sk k).busy && (s.sk k).halted.isNone then s.mcTask k m
      else (log s).updSk k (fun x => { x with fenced := x.fenced || e.storage })
    | .job w => match s.job? e.die w with
      | some j => s.mcJobAs e.die w j m
      | none => log s
    | .hostRead => log s
    | .crockPage p => log (s.poisonPage e.die p)
    | .unitOnly => log s)

/-- Cycles an entry may stay unacknowledged: 100 ms. -/
def ackLimit : Nat := 100000 * usCycles

/-- Garnet acknowledges an old entry that halted a task, with ACT 2 and CODE 0xFFFF; the clock waits while the die's Garnet is swapped (17
R430, 18 R453). -/
def execMcAckTimeout (die seq : Nat) (s : State) : Out :=
  match s.mcEntry die seq with
  | none => .next s
  | some (slot, e) =>
    event (e.halt && decide (e.since + ackLimit ≤ s.now) && !s.garnetSwapped die) s (fun s =>
      (s.mcApply die slot e 2 0xFFFF).garnetRan die)

end Sys2Proof.Machine
end

