-- ==== Sys2Proof/Machine/HandleCmd.lean ====
section
/-! DEFINITION. The handle instructions: checks, acceptance, SHSTAT (14 R371 to R381). -/

namespace Sys2Proof.Machine

open Sys2Proof

/-! ### Captured lists and descriptors -/

/-- The operands of a captured SHAVG list: handle and weight (14 R376). -/
def avgList : List DWord → List (DWord × Nat)
  | h :: w :: r => (h, fld w 31 0) :: avgList r
  | _ => []

/-- Fields of a move descriptor (14 R378). -/
def mvXchip (d0 : DWord) : Bool := d0.getLsbD 2
def mvChip (d0 : DWord) : Nat := fld d0 15 4
def mvDie (d0 : DWord) : Nat := fld d0 1 0
def mvBack (d1 : DWord) : Nat := fld d1 55 0

/-- The handles a command names. -/
def ShOp.names (op : ShOp) (a b : DWord) (cap : List DWord) : List DWord :=
  match op with
  | .new => []
  | .avg => a :: (avgList cap).map (·.1)
  | .roll => [a, b]
  | .stat => if fld b 3 0 = 4 then [] else [a]
  | _ => [a]

/-! ### Checks (14 R372) -/

/-- A byte of a backing area, checked as a write. -/
def State.probe (s : State) (k x : Nat) : Except Stop Unit :=
  liftR ((s.locate (s.dTlbs (dieOf k)) (s.asidOf k) (dw x) 1 .wr).map (fun _ => ()))

/-- Checks 3 and 4 of a backing address. -/
def State.backingOk (s : State) (k : Nat) (b : DWord) : Except Stop Unit := do
  need (decide (b.toNat < 2 ^ 56)) (trapA Code.addressRange b)
  need (b.toNat % 64 == 0) (trapA Code.misaligned b)
  s.probe k b.toNat

/-- Doublewords read by a command at issue. -/
def State.cmdRead (s : State) (k : Nat) (a : DWord) (n : Nat) : Except Stop (List DWord × State) := do
  let ag := { s.agentOf k with tlbs := s.dTlbs (dieOf k) }
  let (bs, s) ← liftJ (s.jobRead ag a (8 * n))
  .ok (dwords n bs, s)

/-- Checks 3 and 4 of a list or descriptor address. -/
def tableAddr (b : DWord) : Except Stop Unit := do
  need (decide (b.toNat < 2 ^ 56)) (trapA Code.addressRange b)
  need (b.toNat % 64 == 0) (trapA Code.misaligned b)

/-- Checks 2 to 4: what the command captures of memory. -/
def State.shCapture (s : State) (k : Nat) (op : ShOp) (a b : DWord) : Except Stop (List DWord × State) :=
  match op with
  | .new => do
    need (shapeWordOk a) (trapC Code.shArg)
    s.backingOk k b
    s.probe k (b.toNat + imageBytes (fld a 36 32) (fld a 8 0) (fld a 24 16) - 1)
    .ok ([], s)
  | .snap => do s.backingOk k b; .ok ([], s)
  | .fork => do s.backingOk k b; .ok ([], s)
  | .avg => do
    tableAddr b
    let (c, s) ← s.cmdRead k b 1
    let n := fld (cdw c 0) 4 0
    need (fld (cdw c 0) 63 5 == 0 && decide (1 ≤ n) && decide (n ≤ 16)) (trapC Code.shArg)
    let (l, s) ← s.cmdRead k (b + 8) (2 * n)
    need ((List.range n).all (fun m => fld (cdw l (2 * m + 1)) 63 32 == 0)) (trapC Code.shArg)
    .ok (l, s)
  | .move => do
    tableAddr b
    let (c, s) ← s.cmdRead k b 2
    let d0 := cdw c 0
    let d1 := cdw c 1
    need (fld d0 63 16 == 0 && !d0.getLsbD 3 && fld d1 63 56 == 0 && !(mvXchip d0 && mvBack d1 == 0)) (trapC Code.shArg)
    need (mvBack d1 % 64 == 0) (trapA Code.misaligned d1)
    if mvXchip d0 ∨ mvBack d1 = 0 then .ok (c, s)
    else do s.backingOk k d1; .ok (c, s)
  | .pin => do need (fld b 63 1 == 0) (trapC Code.shArg); .ok ([], s)
  | .stat => do
    need (fld b 63 9 == 0 && fld b 7 4 == 0 && decide (fld b 3 0 ≤ 4) && !(b.getLsbD 8 && fld b 3 0 != 0)) (trapC Code.shArg)
    .ok ([], s)
  | .roll => .ok ([], s)
  | .free => .ok ([], s)

/-- Checks 5 to 9. -/
def State.shCheck (s : State) (k : Nat) (op : ShOp) (a b : DWord) (cap : List DWord) : Except Stop Unit :=
  match op with
  | .new => need s.freeIndex.isSome (trapC Code.handleLimit)
  | .snap => copyCheck
  | .fork => copyCheck
  | .avg => do
    let h ← s.hereHandle k a
    let os ← (avgList cap).mapM (fun e => s.hereHandle k e.1)
    need (!h.snapshot) (trapC Code.handleReadonly)
    need (os.all (fun o => o.shape == h.shape)) (trapC Code.handleShape)
    need (os.all (fun o => !o.pois)) (trapC Code.handlePoisoned)
  | .roll => do
    let h ← s.hereHandle k a
    let o ← s.hereHandle k b
    need (!h.snapshot) (trapC Code.handleReadonly)
    need (o.shape == h.shape) (trapC Code.handleShape)
    need (!o.pois) (trapC Code.handlePoisoned)
  | .move => do
    let h ← s.hereHandle k a
    need (!h.pois) (trapC Code.handlePoisoned)
  | .pin => do
    let h ← s.hereHandle k a
    need (!b.getLsbD 0 || h.pin.isSome || decide (h.npg + s.pinnedPages h.die + s.pendingPins h.die ≤ s.pmax h.die)) (trapC Code.crockFull)
  | .free => do let _ ← s.hereHandle k a
  | .stat => if fld b 3 0 = 4 then .ok () else do let _ ← s.ownHandle k a
where
  copyCheck : Except Stop Unit := do
    let h ← s.hereHandle k a
    s.probe k (b.toNat + h.ib - 1)
    need (!h.pois) (trapC Code.handlePoisoned)
    need s.freeIndex.isSome (trapC Code.handleLimit)

/-! ### SHSTAT (14 R381) -/

/-- The reorder slots in use on a die. -/
def Die.slotsUsed (D : Die) : Nat := D.rs.length

def Residence.num : Residence → Nat
  | .resident => 0 | .parked => 1 | .moving => 2 | .away => 3

/-- The status word of a handle. -/
def State.statusWord (s : State) (h : Handle) : DWord :=
  let slots := (allDies.flatMap (fun d => (s.die d).rs)).filter (fun t => (s.jobAt t).map (·.handle) == some h.value)
  dw (place h.res.num 2 62 + place (b2n h.snapshot) 1 61 + place (b2n h.pin.isSome) 1 60 + place (b2n h.pf) 1 59
    + place (b2n h.pois) 1 58 + place (b2n h.nv) 1 57 + place (b2n h.of) 1 56 + place h.die 2 54 + place slots.length 5 49
    + place (min h.ord.length 127) 7 42 + place h.npg 5 32 + place h.nextSeq 32 0)

/-- Selector 4: the free resources of a die. -/
def State.crockWord (s : State) (d : Nat) : DWord :=
  dw (place (min (s.dirCap - s.usedIndices.length) 0xFFFFFFFF) 32 32 + place (16 - (s.die d).slotsUsed) 5 16
    + place (s.crockFree d).length 10 0)

/-- What SHSTAT reads, and the state after: CLR clears NV and OF. -/
def State.shstat (s : State) (k : Nat) (a b : DWord) : DWord × State :=
  match fld b 3 0, s.handle? a with
  | 4, _ => (s.crockWord (dieOf k), s)
  | 0, some h => (s.statusWord h, if b.getLsbD 8 then s.updHandle a (fun h => { h with nv := false, of := false }) else s)
  | 1, some h => (h.shape, s)
  | 2, some h => (dw h.backing, s)
  | 3, some h => (if h.res = .away then dw h.awayChip else 0, s)
  | _, _ => (0, s)

/-! ### Acceptance (14 R371, R373 to R380) -/

/-- Puts an item behind a handle's order. -/
def State.pushItem (s : State) (v : DWord) (x : HItem) : State := s.updHandle v (fun h => { h with ord := h.ord ++ [x] })

/-- Marks of the operands of an action, those that are the target apart. -/
def State.pushMarks (s : State) (dst : DWord) (tok : Nat) (l : List DWord) : State :=
  l.zipIdx.foldl (fun s e => if e.1 = dst then s else s.pushItem e.1 (.mark dst tok e.2)) s

/-- A new handle is entered at the lowest free index. -/
def State.enter (s : State) (h : Handle) : Option (DWord × State) :=
  s.freeIndex.map (fun i =>
    let v := s.newValue i
    (v, { s with handles := Tbl.put s.handles v.toNat { h with value := v } }))

/-- What sd of SHMOVE receives (14 R378). -/
def State.moveStatus (s : State) (h : Handle) (d0 d1 : DWord) : Nat :=
  if !mvXchip d0 then 0
  else if s.route (mvChip d0) = 0 then 2
  else if Config.chipAccepts (mvChip d0) h.asid (mvBack d1) s.now then 0 else 1

/-- The place a command takes, and what its result register receives. -/
def State.shPlace (s : State) (k : Nat) (op : ShOp) (a b : DWord) (cap : List DWord) : Option DWord × State :=
  let tok := s.nextId
  let next : State := { s with nextId := s.nextId + 1 }
  let made (snapshot : Bool) : Option DWord × State :=
    match s.handle? a with
    | none => (none, s)
    | some h =>
      match s.enter { h with snapshot := snapshot, backing := b.toNat, res := .parked, nextSeq := h.nextSeq, pin := none, pf := false,
                             pois := false, nv := false, of := false, image := [], pages := [], ord := [], made := false, kept := [], sent := 0 } with
      | none => (none, s)
      | some (v, s) => (some v, s.pushItem a (.snap v (!snapshot)))
  match op with
  | .new =>
    match s.enter { value := 0, asid := s.asidOf k, nh := fld a 36 32, dk := fld a 8 0, dv := fld a 24 16, snapshot := false,
                    res := .parked, die := s.crockDie (dieOf k), backing := b.toNat, ord := [.new] } with
    | none => (none, s)
    | some (v, s) => (some v, s)
  | .snap => made true
  | .fork => made false
  | .avg => (none, (next.pushMarks a tok ((avgList cap).map (·.1))).pushItem a (.avg tok (avgList cap)))
  | .roll => (none, (next.pushMarks a tok [b]).pushItem a (.roll tok b))
  | .move =>
    match s.handle? a with
    | none => (none, s)
    | some h =>
      let x := s.moveStatus h (cdw cap 0) (cdw cap 1)
      (some (dw x), if x = 0 then s.pushItem a (.move (cdw cap 0) (cdw cap 1)) else s)
  | .pin => (none, s.pushItem a (.pin (b.getLsbD 0) (s.issuerOf k)))
  | .free => (none, s.pushItem a .free)
  | .stat => let (x, s) := s.shstat k a b; (some x, s)

/-- Acceptance at the handle unit of the owner die: it waits until the handles it names can be reached. -/
def State.shAccept (s : State) (k : Nat) (op : ShOp) (a b : DWord) (cap : List DWord) (r : Ret) : Act := do
  let s := s.settleMarks
  s.shCheck k op a b cap
  let hs := (op.names a b cap).filterMap s.handle?
  let wait := if op = .stat then hs.any (fun h => !h.made) else hs.any s.unreachable
  if wait then .error (.park (s.onTk k (fun t => { t with cmd := some (.handle op a b cap r) })))
  else
    let (x, s) := s.shPlace k op a b cap
    let s := s.onTk k (fun t => { t with cmd := none })
    .ok (match x with
      | some x => s.result k r.d x
      | none => s).settleMarks

/-- An SH instruction. -/
def shCmd (op : ShOp) (f : LW) (s : State) : Out :=
  cLong f false (op != .stat) (fun k s =>
    let t := s.tk k
    match t.cmd with
    | some (.handle op a b cap r) => s.shAccept k op a b cap r
    | _ => do
      let a := t.getS f.a
      let b := t.getS f.b
      let (cap, s) ← s.shCapture k op a b
      s.shCheck k op a b cap
      let s ← s.stampGate k f.stamp
      s.shAccept k op a b cap ⟨f.d, f.tok⟩) s

def execShnew (f : LW) (s : State) : Out := shCmd .new f s
def execShsnap (f : LW) (s : State) : Out := shCmd .snap f s
def execShfork (f : LW) (s : State) : Out := shCmd .fork f s
def execShavg (f : LW) (s : State) : Out := shCmd .avg f s
def execShroll (f : LW) (s : State) : Out := shCmd .roll f s
def execShmove (f : LW) (s : State) : Out := shCmd .move f s
def execShpin (f : LW) (s : State) : Out := shCmd .pin f s
def execShfree (f : LW) (s : State) : Out := shCmd .free f s
def execShstat (f : LW) (s : State) : Out := shCmd .stat f s

end Sys2Proof.Machine
end

