-- ==== Sys2Proof/Machine/WhiskCmd.lean ====
section
/-! DEFINITION. The Whisk commands: cards, operand records, the checks of R357, acceptance in chunk order (14 R353 to R357, R366,
R367). -/

namespace Sys2Proof.Machine

open Sys2Proof

/-! ### Card fields (14 R354) -/

def fwOen (c : List DWord) : Bool := (cdw c 10).getLsbD 50
def fwOty (c : List DWord) : Bool := (cdw c 10).getLsbD 49
def fwIty (c : List DWord) : Bool := (cdw c 10).getLsbD 48
def fwC (c : List DWord) : Nat := fld (cdw c 10) 40 32

/-- Commands that advance NEXTSEQ (14 R355). -/
def JobKind.advances : JobKind → Bool
  | .fwrd | .fwst => false
  | k => k.whisk

/-- Which operands a command uses: Q, K and V, β, O. -/
def usesQ (k : JobKind) (c : List DWord) : Bool :=
  match k with
  | .fwrd => true
  | .fwstep _ | .fwseq => fwOen c
  | _ => false
def usesKV : JobKind → Bool
  | .fwstep _ | .fwseq | .fwgrad => true
  | _ => false
def usesB : JobKind → Bool
  | .fwstep _ | .fwseq => true
  | _ => false
def usesImg : JobKind → Bool
  | .fwld | .fwst => true
  | _ => false
def usesTokens (k : JobKind) : Bool := k == .fwrd || usesKV k

/-- Check 3: header, body and R355. -/
def fwCardOk (k : JobKind) (c : List DWord) : Bool :=
  let alpha := match k with
    | .fwstep _ | .fwseq | .fwgrad | .fwfade => true
    | _ => false
  let outs := match k with
    | .fwrd => fwOen c
    | .fwstep _ | .fwseq => true
    | _ => !fwOen c && !fwOty c
  headerOk c && (List.range (fld (cdw c 0) 6 4)).all (fun f => !(cdw c (2 + 2 * f)).getLsbD 62)
    && fld (cdw c 9) 63 56 == 0 && fld (cdw c 10) 63 51 == 0 && fld (cdw c 10) 47 41 == 0 && decide (fwC c ≤ 256)
    && fld (cdw c 12) 63 56 == 0 && cdw c 13 == 0 && cdw c 14 == 0 && cdw c 15 == 0
    && (usesTokens k || (fwC c == 0 && !fwIty c)) && outs
    && (alpha || fld (cdw c 11) 31 0 == 0) && (k == .fwgrad || fld (cdw c 11) 63 32 == 0)
    && (usesImg k || cdw c 12 == 0)

/-! ### Operand records (14 R356) -/

/-- Fields of an operand record. -/
structure FwRec where
  q : Nat
  k : Nat
  v : Nat
  o : Nat
  b : Nat
  kts : Nat
  qts : Nat
  ots : Nat
  vts : Nat
  hsb : Nat
  hsv : Nat
  hsk : Nat
  deriving DecidableEq, Repr

def FwRec.of (r : List DWord) : FwRec :=
  ⟨fld (cdw r 0) 55 0, fld (cdw r 1) 55 0, fld (cdw r 2) 55 0, fld (cdw r 3) 55 0, fld (cdw r 4) 55 0,
   fld (cdw r 5) 63 32, fld (cdw r 5) 31 0, fld (cdw r 6) 63 32, fld (cdw r 6) 31 0,
   fld (cdw r 7) 63 48, fld (cdw r 7) 47 24, fld (cdw r 7) 23 0⟩

def elemSize (bf : Bool) : Nat := if bf then 2 else 4

/-- Check 7: the reserved bits, then the alignment of the bases and strides used. -/
def fwRecOk (k : JobKind) (c : List DWord) (r : List DWord) : Except Stop Unit := do
  need ((r.take 5).all (fun x => fld x 63 56 == 0)) (trapC Code.badCard)
  let f := FwRec.of r
  let i := elemSize (fwIty c)
  let al (use : Bool) (n base : Nat) (strides : List Nat) : Except Stop Unit :=
    need (!use || (base % n == 0 && strides.all (fun x => x % n == 0))) (trapA Code.misaligned (dw base))
  al (usesQ k c) i f.q [f.qts, f.hsk]
  al (usesKV k) i f.k [f.kts, f.hsk]
  al (usesKV k) i f.v [f.vts, f.hsv]
  al (usesB k) 4 f.b [f.hsb]
  al (fwOen c) (elemSize (fwOty c)) f.o [f.ots, f.hsv]

/-! ### Acceptance (14 R366, R367) -/

/-- Checks 8 to 10. -/
def State.fwHandle (s : State) (k : Nat) (j : Job) : Except Stop Handle := do
  let h ← s.hereHandle k j.handle
  need (!(j.kind.advances && h.snapshot)) (trapC Code.handleReadonly)
  need (!h.pois || j.kind == .fwzero || j.kind == .fwld) (trapC Code.handlePoisoned)
  .ok h

/-- How far a SEQ lies ahead of NEXTSEQ. -/
def seqAhead (seq next : Nat) : Nat := (seq + 2 ^ 32 - next) % 2 ^ 32

/-- Whether an SHROLL stands in a handle's order: what arrives behind it is classified by the NEXTSEQ it leaves (14 R366, R371). -/
def Handle.rolling (h : Handle) : Bool := h.ord.any (fun x => match x with
  | .roll _ _ => true
  | _ => false)

/-- A Whisk command is accepted as current or future, raises STALE-CHUNK, or waits. -/
def State.fwAccept (s : State) (k : Nat) (j : Job) (r : Ret) : Act := do
  let s := s.settleMarks
  let h ← s.fwHandle k j
  let park : Act := .error (.park (s.onTk k (fun t => { t with cmd := some (.whisk j r) })))
  let e := h.die
  let d := seqAhead (fwSeqOf j.card) h.nextSeq
  if s.unreachable h || h.rolling then park
  else if 2 ^ 31 ≤ d then .error (trapI Code.staleChunk (dw h.nextSeq))
  else match s.freeWin e with
  | none => park
  | some w =>
    let t := jobTag e w
    let enter (s : State) : State := ((s.putJob e w j).onTk k (fun t => { t with cmd := none })).giveId k r.d e w
    if d = 0 then
      if (s.die e).wq.length < whiskQueue then
        .ok (((enter s).updDie e (fun D => { D with wq := D.wq ++ [t] })).updHandle j.handle (fun h => { h with ord := h.ord ++ [.job e w] }))
      else park
    else if (s.die e).rs.length < 16 then .ok ((enter s).updDie e (fun D => { D with rs := D.rs ++ [t] }))
    else park

/-! ### The commands (14 R353, R357) -/

/-- A Whisk command. -/
def fwCmd (kind : JobKind) (f : LW) (s : State) : Out :=
  cLong f false true (fun k s => do
    let t := s.tk k
    let r : Ret := ⟨f.d, f.tok⟩
    match t.cmd with
    | some (.whisk j _) => s.fwAccept k j r
    | _ => do
      let c ← cardAt t (t.getS f.b)
      need (fwCardOk kind c) (trapC Code.badCard)
      s.cardSync k c
      let reads := usesTokens kind && decide (0 < fwC c)
      need (!reads || (cdw c 9).toNat % 64 == 0) (trapA Code.misaligned (cdw c 9))
      need (!usesImg kind || (cdw c 12).toNat % 64 == 0) (trapA Code.misaligned (cdw c 12))
      let j : Job := { (s.newJob k kind c) with handle := t.getS f.a }
      let (rc, s) ← if reads then s.cmdRead k (cdw c 9) 8 else .ok ([], s)
      if reads then fwRecOk kind c rc else .ok ()
      let j := { j with rec1 := rc }
      let _ ← s.fwHandle k j
      let s ← s.stampGate k f.stamp
      s.fwAccept k j r) s

def execFwrd (f : LW) (s : State) : Out := fwCmd .fwrd f s
def execFwstep (f : LW) (s : State) : Out := fwCmd (.fwstep 0) f s
def execFwstepFrw (f : LW) (s : State) : Out := fwCmd (.fwstep 1) f s
def execFwstepFwr (f : LW) (s : State) : Out := fwCmd (.fwstep 2) f s
def execFwseq (f : LW) (s : State) : Out := fwCmd .fwseq f s
def execFwgrad (f : LW) (s : State) : Out := fwCmd .fwgrad f s
def execFwfade (f : LW) (s : State) : Out := fwCmd .fwfade f s
def execFwzero (f : LW) (s : State) : Out := fwCmd .fwzero f s
def execFwld (f : LW) (s : State) : Out := fwCmd .fwld f s
def execFwst (f : LW) (s : State) : Out := fwCmd .fwst f s

end Sys2Proof.Machine
end

