-- ==== Sys2Proof/Machine/WhiskMath.lean ====
section
/-! DEFINITION. The arithmetic of the Whisk: fades, predictions, corrections, updates, outputs, weighted sums (14 R359 to R364,
R376). -/

namespace Sys2Proof.Machine

/-- A matrix of FP32 codes, by rows. -/
abbrev Mat := List (List Nat)

/-- An exact result rounded to FP32, with the flags (03 R462). -/
def wRound (r : FVal × Bool) : Nat × FlagSet :=
  let (u, f) := fp32.put {} r.1 false
  (u, f ||| flIf r.2 flNV)
def wMul (a b : FVal) : Nat × FlagSet := wRound (a.mul b)
def wFma (a b : FVal) (c : Nat) : Nat × FlagSet := wRound (a.fma false b (fp32.decode c))

/-- Applies a step that raises flags to every item. -/
def mapFl {α β : Type} (f : α → β × FlagSet) (l : List α) : List β × FlagSet :=
  let r := l.map f
  (r.map (·.1), r.foldl (fun a e => a ||| e.2) 0)

/-- The ascending FMA chain of a row with a vector, from +0. -/
def wDot (x : List FVal) (row : List Nat) : Nat × FlagSet :=
  (row.zip x).foldl (fun r e => let (u, f) := wFma (fp32.decode e.1) e.2 r.1; (u, r.2 ||| f)) (0, 0)

/-- F := RoundRNE(α × S). -/
def wFade (al : FVal) (S : Mat) : Mat × FlagSet := mapFl (mapFl (fun x => wMul al (fp32.decode x))) S

/-- The corrections u of one token from the faded matrix (14 R359). -/
def wCorr (F : Mat) (k v : List FVal) (b : FVal) : List Nat × FlagSet :=
  mapFl (fun (e : List Nat × FVal) =>
    let (p, f1) := wDot k e.1
    let (d, f2) := wRound (e.2.add false (fp32.decode p).neg)
    let (u, f3) := wMul b (fp32.decode d)
    (u, f1 ||| f2 ||| f3)) (F.zip v)

/-- N(i, j) := FMA(u(i), k(j), N(i, j)). -/
def wOuter (u k : List FVal) (N : Mat) : Mat × FlagSet :=
  mapFl (fun (e : List Nat × FVal) => mapFl (fun (x : Nat × FVal) => wFma e.2 x.2 x.1) (e.1.zip k)) (N.zip u)

/-- The outputs of one token: the chain of every row with q. -/
def wOuts (X : Mat) (q : List FVal) : List Nat × FlagSet := mapFl (wDot q) X

/-- The operands of one token of one head, as values. -/
structure WTok where
  q : List FVal := []
  k : List FVal := []
  v : List FVal := []
  b : FVal := .fin false 0 0
  deriving DecidableEq, Repr

/-- What a command makes of one head: the matrix after, the outputs token by token, the flags. -/
structure WRes where
  S : Mat
  outs : List (List Nat) := []
  fl : FlagSet := 0
  deriving DecidableEq, Repr

/-- Updates of a chunk applied in ascending t. -/
def wUpdates (N : Mat) (l : List (List FVal × List FVal)) : Mat × FlagSet :=
  l.foldl (fun r e => let (n, f) := wOuter e.1 e.2 r.1; (n, r.2 ||| f)) (N, 0)

def decs (l : List Nat) : List FVal := l.map fp32.decode

/-- FWSTEP: `var` 0 RFW, 1 FRW, 2 FWR (14 R359). -/
def fwStepHead (var : Nat) (oen : Bool) (al : FVal) (S : Mat) (ts : List WTok) : WRes :=
  let (F, f0) := wFade al S
  let (us, f1) := mapFl (fun (t : WTok) => wCorr F t.k t.v t.b) ts
  let (N, f2) := wUpdates F ((us.map decs).zip (ts.map (·.k)))
  let X := if var = 0 then S else if var = 1 then F else N
  let (os, f3) := if oen then mapFl (fun (t : WTok) => wOuts X t.q) ts else ([], 0)
  ⟨N, os, f0 ||| f1 ||| f2 ||| f3⟩

/-- FWSEQ: the per-token delta rule (14 R360). -/
def fwSeqHead (oen : Bool) (al : FVal) (S : Mat) (ts : List WTok) : WRes :=
  ts.foldl (fun (r : WRes) t =>
    let (F, f0) := wFade al r.S
    let (u, f1) := wCorr F t.k t.v t.b
    let (N, f2) := wOuter (decs u) t.k F
    let (o, f3) := if oen then wOuts N t.q else ([], 0)
    ⟨N, if oen then r.outs ++ [o] else r.outs, r.fl ||| f0 ||| f1 ||| f2 ||| f3⟩) ⟨S, [], 0⟩

/-- FWGRAD: S ← αS − ηUᵀW (14 R361). -/
def fwGradHead (al eta : FVal) (S : Mat) (ts : List WTok) : WRes :=
  let (F, f0) := wFade al S
  let (gs, f1) := mapFl (fun (t : WTok) => mapFl (fun x => wMul eta x) t.v) ts
  let (N, f2) := wUpdates F ((gs.map (fun g => (decs g).map FVal.neg)).zip (ts.map (·.k)))
  ⟨N, [], f0 ||| f1 ||| f2⟩

/-- FWRD (14 R362). -/
def fwrdHead (S : Mat) (ts : List WTok) : WRes :=
  let (os, f) := mapFl (fun (t : WTok) => wOuts S t.q) ts
  ⟨S, os, f⟩

/-- SHAVG: the weighted sum of elements x(0), x(1), … (14 R376). -/
def avgElem : List (Nat × Nat) → Nat × FlagSet
  | [] => (0, 0)
  | (w, x) :: r =>
    r.foldl (fun a e => let (u, f) := wFma (fp32.decode e.1) (fp32.decode e.2) a.1; (u, a.2 ||| f))
      (wMul (fp32.decode w) (fp32.decode x))

/-- The output codes as stored: FP32, or rounded to BF16 (14 R354 OTY). -/
def outCode (bf : Bool) (x : Nat) : Nat × FlagSet := if bf then bf16.put {} (fp32.decode x) false else (x, 0)

end Sys2Proof.Machine
end

