-- ==== Sys2Proof/Machine/WhiskEvents.lean ====
section
/-! DEFINITION. Events of the Whisk: acceptance, the start of a job, its run, commit and halt (14 R348, R351, R358 to R368, R383). -/

namespace Sys2Proof.Machine

open Sys2Proof

/-! ### Acceptance -/

/-- At D2 and D3 a Whisk command is accepted only in its task's turn (14 R384, 15 R391). -/
def execWhiskAccept (sk : Nat) (s : State) : Out :=
  match (s.tk sk).cmd with
  | some (.whisk j r) =>
    event ((s.sk sk).busy && (s.sk sk).halted.isNone && (s.tk sk).c.st == .run && decide (s.levelOf sk < 2)) s (fun s => s.acceptCmd sk r (s.fwAccept sk j r))
  | _ => .next s

/-! ### The start of a job (14 R348, R358, R368) -/

/-- A command that replaces the image without reading it. -/
def JobKind.replaces : JobKind → Bool
  | .fwzero | .fwld => true
  | _ => false

/-- Whether a Whisk job writes memory: its outputs, or an image. -/
def Job.fwWrites (j : Job) : Bool := j.kind == .fwst || (fwOen j.card && decide (0 < fwC j.card))

/-- Whether a job may come to its start: it heads its handle's order, is not halted, finds the image it needs, and may write what it
will write: a Whisk never waits with a run for an order class (10 R249, 14 R384). -/
def State.whiskFree (s : State) (t : Nat) : Bool :=
  match s.jobAt t with
  | some j =>
    match s.handle? j.handle with
    | some h => !j.st.isHalted && (s.classClear j || !j.fwWrites) && h.ord.head? == some (.job (jobDie t) (jobWin t)) && (j.kind.replaces || h.res == .resident)
    | none => false
  | none => false

/-- The job a Whisk takes next: jobs that wait for a page-in, for their handle's order or for a handler are passed over (log 35). -/
def State.whiskNext (s : State) (die : Nat) : Option Nat := (s.die die).wq.find? s.whiskFree

/-- A job that is ready starts, or ends as STALE-CHUNK where its SEQ has passed. -/
def State.whiskStart (s : State) (die t : Nat) (j : Job) : State :=
  match s.handle? j.handle with
  | none => s
  | some h =>
    if fwSeqOf j.card = h.nextSeq then
      let s := s.updJob (jobDie t) (jobWin t) (fun j => { j with st := .running })
      (s.updDie die (fun D => { D with wrun := some t })).touch j.handle
    else s.endJob (jobDie t) (jobWin t) Code.staleChunk

def execWhiskJobStart (die : Nat) (s : State) : Out :=
  let s := s.settleMarks
  match s.whiskNext die with
  | none => .next s
  | some t =>
    match s.jobAt t with
    | none => .next s
    | some j =>
      event ((s.die die).wrun.isNone && s.mayStart (jobDie t) j && (j.st != .queued || s.edgesClear die j)) s (fun s =>
        let s := if j.st = .queued then s.joinWait (jobDie t) (jobWin t) j else s
        match s.jobAt t with
        | some j => if j.st = .ready then s.whiskStart die t j else s
        | none => s)

/-! ### The run of a job (14 R358) -/

/-- Why a run stops before its commit. -/
inductive WStop where
  | job (x : JStop)
  | full
  | pois

/-- A running job: the Whisk's die, its number, the job and its handle. -/
structure WJob where
  die : Nat
  t : Nat
  j : Job
  h : Handle

/-- The agent a Whisk job is to memory. -/
def State.whiskAgent (s : State) (g : WJob) : Agent :=
  { s.jobAgent (jobDie g.t) (jobWin g.t) g.j with die := g.die, tlbs := s.dTlbs g.die }

/-- A vector of `n` elements at an address, as values. -/
def State.fwVec (s : State) (ag : Agent) (use : Bool) (a : Nat) (bf : Bool) (n : Nat) : Except JStop (List FVal × State) :=
  if use then do
    let z := elemSize bf
    let (bs, s) ← s.jobRead ag (dw a) (z * n)
    let F := if bf then bf16 else fp32
    .ok ((List.range n).map (fun i => F.decode (ofLe ((bs.drop (z * i)).take z))), s)
  else .ok ([], s)

/-- The operands of token `t` of head `hd` (14 R356). -/
def State.fwTok (s : State) (g : WJob) (hd t : Nat) : Except JStop (WTok × State) := do
  let ag := s.whiskAgent g
  let k := g.j.kind
  let c := g.j.card
  let f := FwRec.of g.j.rec1
  let bf := fwIty c
  let (q, s) ← s.fwVec ag (usesQ k c) (f.q + hd * f.hsk + t * f.qts) bf g.h.dk
  let (kv, s) ← s.fwVec ag (usesKV k) (f.k + hd * f.hsk + t * f.kts) bf g.h.dk
  let (v, s) ← s.fwVec ag (usesKV k) (f.v + hd * f.hsv + t * f.vts) bf g.h.dv
  let (b, s) ← s.fwVec ag (usesB k) (f.b + hd * f.hsb + 4 * t) false 1
  .ok ({ q := q, k := kv, v := v, b := b.headD (.fin false 0 0) }, s)

/-- The operands of all tokens of a job, head by head. -/
def State.fwToks (g : WJob) : List (Nat × Nat) → State → Except JStop (List WTok × State)
  | [], s => .ok ([], s)
  | (hd, t) :: r, s =>
    match s.fwTok g hd t with
    | .error e => .error e
    | .ok (x, s) => (State.fwToks g r s).map (fun (xs, s) => (x :: xs, s))

/-- The heads and tokens of a job. -/
def WJob.pairs (g : WJob) : List (Nat × Nat) :=
  (List.range g.h.nh).flatMap (fun hd => (List.range (fwC g.j.card)).map (fun t => (hd, t)))

/-- Head `hd` of an image as a matrix (14 R343). -/
def Handle.mat (h : Handle) (hd : Nat) : Mat :=
  (List.range h.dv).map (fun i => (List.range h.dk).map (fun j =>
    let a := 4 * (hd * h.dv * h.dk + i * h.dk + j)
    ofLe ((List.range 4).map (fun b => Tbl.look 0 h.image (a + b)))))

/-- The bytes of a matrix. -/
def matBytes (S : Mat) : List Byte := S.flatMap (fun r => r.flatMap (leBytes 4))

/-- What a command makes of one head (14 R359 to R362). -/
def headRes (k : JobKind) (c : List DWord) (S : Mat) (ts : List WTok) : WRes :=
  let al := fp32.decode (fld (cdw c 11) 31 0)
  let eta := fp32.decode (fld (cdw c 11) 63 32)
  match k with
  | .fwstep var => fwStepHead var (fwOen c) al S ts
  | .fwseq => fwSeqHead (fwOen c) al S ts
  | .fwgrad => fwGradHead al eta S ts
  | .fwfade => let (F, f) := wFade al S; ⟨F, [], f⟩
  | .fwzero => ⟨S.map (fun r => r.map (fun _ => 0)), [], 0⟩
  | .fwrd => fwrdHead S ts
  | _ => ⟨S, [], 0⟩

/-- All heads, in ascending order. -/
def WJob.heads (g : WJob) (ts : List WTok) : List WRes :=
  let n := fwC g.j.card
  (List.range g.h.nh).map (fun hd => headRes g.j.kind g.j.card (g.h.mat hd) ((ts.drop (n * hd)).take n))

/-- The output writes of a job, and the flags of their rounding. -/
def WJob.outs (g : WJob) (rs : List WRes) : List (Nat × List Byte) × FlagSet :=
  let c := g.j.card
  let f := FwRec.of g.j.rec1
  mapFl (fun (e : (List Nat × Nat) × Nat) =>
    let (codes, fl) := mapFl (outCode (fwOty c)) e.1.1
    ((f.o + e.2 * f.hsv + e.1.2 * f.ots, codes.flatMap (leBytes (elemSize (fwOty c)))), fl))
    (rs.zipIdx.flatMap (fun (r : WRes × Nat) => r.1.outs.zipIdx.map (fun o => (o, r.2))))

/-- Writes in order; those before a fault stand. An image is written granule by granule (`each`), a vector as one access. -/
def State.fwWrite (ag : Agent) (each : Bool) : List (Nat × List Byte) → State → State × Option JStop
  | [], s => (s, none)
  | (a, bs) :: r, s =>
    match (if each then s.jobWriteEach ag (dw a) bs else s.jobWrite ag (dw a) bs) with
    | .error e => (s, some e)
    | .ok s => State.fwWrite ag each r s

/-- What a run leads to: the new image with its pages where it advances, the flags, and whether it wrote no memory. -/
structure WDone where
  image : Option (Tbl Byte × List Nat) := none
  fl : FlagSet := 0
  quiet : Bool := false

/-- Reads and sums: the new image's bytes where the command advances, the output writes, the flags. -/
def State.fwCompute (s : State) (g : WJob) : Except JStop ((Option (List Byte) × List (Nat × List Byte) × FlagSet) × State) :=
  let img := cdw g.j.card 12
  match g.j.kind with
  | .fwld => (s.jobRead (s.whiskAgent g) img g.h.ib).map (fun (bs, s) => ((some bs, [], 0), s))
  | .fwst => .ok ((none, [(img.toNat, g.h.bytes g.h.image)], 0), s)
  | k =>
    match State.fwToks g g.pairs s with
    | .error e => .error e
    | .ok (ts, s) =>
      let rs := g.heads ts
      let (ws, f) := g.outs rs
      .ok ((if k.advances then some (rs.flatMap (fun r => matBytes r.S)) else none, ws, rs.foldl (fun a r => a ||| r.fl) f), s)

/-- The run: operands, staging pages, outputs. -/
def State.whiskRun (s : State) (g : WJob) : State × Except WStop WDone :=
  if g.h.pois && !g.j.kind.replaces then (s, .error .pois)
  else match s.fwCompute g with
  | .error e => (s, .error (.job e))
  | .ok ((im, ws, fl), s) =>
    let staged : Option (List Nat) × State := if im.isSome then s.takePages g.h.die g.h.npg else (some [], s)
    match staged with
    | (none, s) => (s, .error .full)
    | (some ps, s) =>
      match State.fwWrite (s.whiskAgent g) (g.j.kind == .fwst) ws s with
      | (s, some e) => (s, .error (.job e))
      | (s, none) => (s, .ok { image := im.map (fun bs => (imageOf bs, ps)), fl := fl, quiet := ws.isEmpty })

/-- A job past its commit: it leaves the Whisk and its handle's order, and signals once its order class allows (10 R249, R250). -/
def State.holdJob (s : State) (d w : Nat) : State :=
  let s := (s.updJob d w (fun j => { j with st := .committed })).unqueue (jobTag d w)
  { s with handles := s.handles.map (fun (i, h) => (i, { h with ord := h.ord.filter (fun x => x != .job d w) })) }

/-- The commit: page list, NEXTSEQ and flags in one action, and the slotted jobs it releases (14 R351, R364, R368). A job that still
has a signal to make completes when its order class allows (10 R249). -/
def State.whiskCommit (s : State) (g : WJob) (x : WDone) : State :=
  let n := (fwSeqOf g.j.card + 1) % 2 ^ 32
  let flags (h : Handle) : Handle := { h with nv := h.nv || (x.fl &&& flNV) != 0, of := h.of || (x.fl &&& flOF) != 0 }
  let s := match x.image with
    | none => s.updHandle g.j.handle flags
    | some (im, ps) =>
      let put (h : Handle) : Handle :=
        { (flags (h.residentAs ps im)) with nextSeq := n, pois := h.pois && !g.j.kind.replaces }
      (s.updHandle g.j.handle put).releaseSlots g.h n
  if s.classClear g.j || (sigSem g.j.card g.j.srcDie).isNone then s.finishJob (jobDie g.t) (jobWin g.t) g.j
  else s.holdJob (jobDie g.t) (jobWin g.t)

/-- A committed job of a die that its order class now lets signal. -/
def State.heldJob (s : State) (die : Nat) : Option (Nat × Job) :=
  (s.die die).window.find? (fun e => e.2.st == .committed && s.classClear e.2)

/-- The job that runs on a Whisk. -/
def State.whiskJob (s : State) (die : Nat) : Option WJob :=
  match (s.die die).wrun with
  | none => none
  | some t =>
    match s.jobAt t with
    | none => none
    | some j =>
      match s.handle? j.handle with
      | none => none
      | some h => some ⟨die, t, j, h⟩

/-- A run that reaches its end commits; one that wrote memory does so once its order class allows (10 R249). One without staging pages
ends as CROCK-FULL. Where no run can commit, a job committed before that may now signal completes. -/
def execWhiskCommit (die : Nat) (s : State) : Out :=
  let s := s.settleMarks
  let later : Out := match s.heldJob die with
    | some (w, j) => .next (s.finishJob die w j)
    | none => .next s
  match s.whiskJob die with
  | none => later
  | some g =>
    match s.whiskRun g with
    | (s', .ok x) => if s.classClear g.j || x.quiet then .next (s'.whiskCommit g x) else later
    | (s', .error .full) => .next (s'.endJob (jobDie g.t) (jobWin g.t) Code.crockFull)
    | (_, .error _) => later

/-- A fault halts the job before its commit; an uncorrectable error, in memory or in its pages, aborts it. -/
def execWhiskJobHalt (die : Nat) (s : State) : Out :=
  let s := s.settleMarks
  match s.whiskJob die with
  | none => .next s
  | some g =>
    let idle (s : State) : State := s.updDie die (fun D => { D with wrun := none })
    match s.whiskRun g with
    | (s', .error (.job (.fault r))) =>
      event (s.classClear g.j || !g.j.fwWrites) s (fun _ => idle (s'.haltJob (jobDie g.t) (jobWin g.t) g.j r))
    | (_, .error (.job (.after s' r))) =>
      event (s.classClear g.j || !g.j.fwWrites) s (fun _ => idle (s'.haltJob (jobDie g.t) (jobWin g.t) g.j r))
    | (s', .error (.job (.mc kind pa))) => .next (s'.mcJob (jobDie g.t) (jobWin g.t) g.j kind pa)
    | (s', .error .pois) => .next (s'.mcJobAs (jobDie g.t) (jobWin g.t) g.j { die := die, unit := 6, kind := 1 })
    | (_, _) => .next s

end Sys2Proof.Machine
end

