-- ==== Sys2Proof/Machine/HandleEvents.lean ====
section
/-! DEFINITION. Events of the handle units and the Ladles: acceptance, page-in, eviction, the actions of SH commands, moves between
chips (14 R348 to R350, R371 to R380). -/

namespace Sys2Proof.Machine

open Sys2Proof

/-- At D2 and D3 an SH command, but SHSTAT, is accepted only in its task's turn (14 R384, 15 R391). -/
def execHandleCommandAccept (sk : Nat) (s : State) : Out :=
  match (s.tk sk).cmd with
  | some (.handle op a b cap r) =>
    event ((s.sk sk).busy && (s.sk sk).halted.isNone && (s.tk sk).c.st == .run && (op == .stat || decide (s.levelOf sk < 2))) s (fun s =>
      s.acceptCmd sk r (s.shAccept sk op a b cap r))
  | _ => .next s

/-! ### Page-in and eviction (14 R348, R349) -/

/-- Whether an item needs its handle's image in pages. -/
def State.itemNeeds (s : State) (x : HItem) : Bool :=
  match x with
  | .job d w => match s.job? d w with
    | some j => !j.kind.replaces
    | none => false
  | .pin on _ => on
  | _ => false

/-- Whether an item replaces the image, so that later items do not wait for a page-in. -/
def State.itemReplaces (s : State) (x : HItem) : Bool :=
  match x with
  | .job d w => match s.job? d w with
    | some j => j.kind.replaces
    | none => false
  | .avg _ _ => true
  | .roll _ _ => true
  | _ => false

/-- Jobs that wait for an image end with a code; a pin that heads the order is skipped. -/
def State.failImage (s : State) (h : Handle) (items : List HItem) (code : Nat) : State :=
  let s := items.foldl (fun s x => match x with
    | .job d w => s.endJob d w code
    | _ => s) s
  match h.ord with
  | .pin _ _ :: _ => s.popItem h.value
  | _ => s

/-- Without a working Crock in the package, an SH action that needs an image ends with PARK-FAULT too, reported to its task behind the faults of
its jobs and without a job id (17 R433, log 60). -/
def State.failPin (s : State) (h : Handle) : State :=
  match h.ord with
  | .pin true w :: _ => s.tellIssuer w 65536 { code := Code.parkFault }
  | _ => s

/-- A page-in fails with PARK-FAULT for every job that waits on it. -/
def State.parkFault (s : State) (h : Handle) : State :=
  s.failImage h (h.ord.takeWhile (fun x => !s.itemReplaces x)) Code.parkFault

def execLadlePageIn (h : Nat) (s : State) : Out :=
  let s := s.settleMarks
  match Tbl.find s.handles h with
  | none => .next s
  | some x =>
    event (x.made && x.res == .parked && (x.ord.head?.any s.itemNeeds)) s (fun s =>
      if !s.hasCrock x.die then (s.failPin x).parkFault x
      else match s.takePages x.die x.npg with
      | (none, s) => s.failImage x (x.ord.take 1) Code.crockFull
      | (some ps, s) =>
        match s.readBacking x with
        | .error e => (s.ladleFail x e).parkFault x
        | .ok (im, s) => s.updHandle x.value (fun h => { h.residentAs ps im with pf := false }))

/-- Whether an item builds a new image in free pages (14 R351, R373, R376). -/
def State.itemStages (s : State) (x : HItem) : Bool :=
  match x with
  | .new => true
  | .avg _ _ => true
  | .job d w => match s.job? d w with
    | some j => j.kind.advances
    | none => false
  | _ => false

/-- Whether a die needs more pages than it has free: a page-in, a new handle or staging waits for them. -/
def State.crockDemand (s : State) (die : Nat) : Bool :=
  s.handles.any (fun e =>
    let h := e.2
    h.die == die && decide ((s.crockFree die).length < h.npg) && match h.ord with
      | [] => false
      | x :: _ => (h.res == .parked && s.itemNeeds x) || s.itemStages x)

def execLadleEviction (die : Nat) (s : State) : Out :=
  let s := s.settleMarks
  match s.lru die with
  | [] => .next s
  | h :: _ => event (s.crockDemand die) s (fun s => s.evict h)

/-! ### Actions -/

/-- An action of a handle's order, at its head. -/
def handleAction (h : Nat) (s : State) (act : Handle → HItem → State → Option State) : Out :=
  let s := s.settleMarks
  match Tbl.find s.handles h with
  | none => .next s
  | some x =>
    match x.ord with
    | [] => .next s
    | i :: _ => .next ((act x i s).getD s)

/-- SHNEW: zeros in pages, or parked (14 R373). -/
def execShnewAction (h : Nat) (s : State) : Out :=
  handleAction h s (fun x i s =>
    match i with
    | .new => some (((s.stageImage x [] id).updHandle x.value (fun h => { h with made := true })).popItem x.value |>.touch x.value)
    | _ => none)

/-- SHSNAP and SHFORK: pages are shared, or the backing image is copied (14 R374, R375). -/
def State.copyHandle (s : State) (x : Handle) (dst : DWord) : State :=
  match s.handle? dst with
  | none => s.popItem x.value
  | some y =>
    let y := { y with die := x.die, nextSeq := x.nextSeq, pois := x.pois, made := true }
    let put (f : Handle → Handle) (s : State) : State :=
      (((s.updHandle dst (fun _ => f y)).popItem x.value).touch x.value).touch dst
    if x.res = .resident then put (fun y => y.residentAs x.pages x.image) s
    else match s.readBacking x with
    | .error e => put (fun y => { y with pf := true }) (s.noteRec x.die x.asid e)
    | .ok (im, s) =>
      match s.writeBacking y im with
      | .error e => put (fun y => { y with pf := true }) (s.noteRec y.die y.asid e)
      | .ok s => put (fun y => y) s

def copyAction (fork : Bool) (h : Nat) (s : State) : Out :=
  handleAction h s (fun x i s =>
    match i with
    | .snap dst f => if f = fork then some (s.copyHandle x dst) else none
    | _ => none)

def execShsnapAction (h : Nat) (s : State) : Out := copyAction false h s
def execShforkAction (h : Nat) (s : State) : Out := copyAction true h s

/-- The images kept for an action of a handle, and the handle without them. -/
def Handle.keptFor (h : Handle) (tok : Nat) : List Kept := h.kept.filter (fun k => k.tok == tok)
def State.dropKept (s : State) (v : DWord) (tok : Nat) : State :=
  s.updHandle v (fun h => { h with kept := h.kept.filter (fun k => k.tok != tok) })

/-- FP32 element `e` of an image. -/
def imageElem (im : Tbl Byte) (e : Nat) : Nat := ofLe ((List.range 4).map (fun b => Tbl.look 0 im (4 * e + b)))

/-- SHAVG: the weighted sum, from the images kept and, where an operand is the target, from its own (14 R376). Where an operand lies behind
an SHFREE or cannot be read, the action is skipped (R380, log 37). -/
def State.avgAction (s : State) (x : Handle) (tok : Nat) (l : List (DWord × Nat)) : Option State :=
  let kept := x.keptFor tok
  if kept.length < (l.filter (fun e => e.1 != x.value)).length then none
  else
    let skip (s : State) : State := (s.dropKept x.value tok).popItem x.value
    let own : Except RecErr (Tbl Byte × State) := if l.any (fun e => e.1 == x.value) then s.imageNow x else .ok ([], s)
    match own with
    | .error e => some (skip (s.noteRec x.die x.asid e))
    | .ok (im, s) =>
      if kept.any (fun k => !k.ok || k.pois) then some (skip s)
      else
        let part (e : (DWord × Nat) × Nat) : Nat × Tbl Byte :=
          (e.1.2, if e.1.1 = x.value then im else ((kept.find? (fun k => k.m == e.2)).map (·.image)).getD [])
        let parts := l.zipIdx.map part
        let (xs, fl) := mapFl (fun e => avgElem (parts.map (fun p => (p.1, imageElem p.2 e)))) (List.range (x.ib / 4))
        let flags (h : Handle) : Handle := { h with nv := h.nv || (fl &&& flNV) != 0, of := h.of || (fl &&& flOF) != 0 }
        some ((skip (s.stageImage x (imageOf (xs.flatMap (leBytes 4))) flags)).touch x.value)

def execShavgAction (h : Nat) (s : State) : Out :=
  handleAction h s (fun x i s =>
    match i with
    | .avg tok l => s.avgAction x tok l
    | _ => none)

/-- SHROLL: image and NEXTSEQ change in one action, or neither does (14 R377). -/
def State.rollAction (s : State) (x : Handle) (tok : Nat) (src : DWord) : Option State :=
  let skip (s : State) : State := (s.dropKept x.value tok).popItem x.value
  if src = x.value then some ((skip s).discardSlots x.value)
  else match x.keptFor tok with
  | [] => none
  | k :: _ =>
    if !k.ok then some (skip s)
    else
      let s := s.discardSlots x.value
      let share := !k.pages.isEmpty && k.die == x.die
      let too (h : Handle) : Handle := { h with nextSeq := k.nextSeq, pois := k.pois }
      let s :=
        if share then s.updHandle x.value (fun h => too (h.residentAs k.pages k.image))
        else if x.res = .parked then s.parkImage x k.image too
        else s.stageImage x k.image too
      some ((skip s).touch x.value)

def execShrollAction (h : Nat) (s : State) : Out :=
  handleAction h s (fun x i s =>
    match i with
    | .roll tok src => s.rollAction x tok src
    | _ => none)

/-! ### Moves (14 R350, R378) -/

/-- Where a handle stands whose move within the package ends or fails: its pages tell. -/
def Handle.back (h : Handle) : Handle := { h with res := if h.pages.isEmpty then .parked else .resident }

/-- The pin of a handle on the die it arrives at: kept where the limit of that die allows (14 R350, R378). -/
def State.pinOn (s : State) (x : Handle) (die : Nat) : Option Nat :=
  if die = x.die ∨ x.npg + s.pinnedPages die ≤ s.pmax die then x.pin else none

/-- Writes an image to the backing area of a handle that becomes parked on a die; a failed write keeps the handle as it was, with PF. -/
def State.parkOn (s : State) (x : Handle) (die back : Nat) (im : Tbl Byte) : State :=
  let y := { x with die := die, backing := back }
  match s.writeBacking y im with
  | .error e => s.ladleFail y e Handle.back
  | .ok s => (s.updHandle x.value (fun h => { h.parkedAs with die := die, backing := back, pin := s.pinOn x die })).forward x die

/-- A move within the package: MOVING first, then the image, the owner die, the pin and the jobs that stand behind it. -/
def State.moveWithin (s : State) (x : Handle) (die back : Nat) : State :=
  let back := if back = 0 then x.backing else back
  if x.pages.isEmpty then
    if back = x.backing then (s.updHandle x.value (fun h => { h.back with die := die, pin := s.pinOn x die })).forward x die
    else match s.readBacking x with
      | .error e => s.ladleFail x e Handle.back
      | .ok (im, s) => s.parkOn x die back im
  else if die = x.die then s.updHandle x.value (fun h => { h.back with backing := back })
  else match s.takePages die x.npg with
    | (none, s) => s.parkOn x die back x.image
    | (some ps, s) =>
      (s.updHandle x.value (fun h => { h.residentAs ps x.image with die := die, backing := back, pin := s.pinOn x die })).forward x die

/-- The packets of a move between chips, from one to another: what names the handle, then its image (log 38). -/
def movePacketsOf (src dst : Nat) (x : Handle) (im : Tbl Byte) (die back : Nat) : List Packet :=
  let pk (a : Nat) (bs : List Byte) : Packet :=
    { kind := .handleMove, src := src, dst := dst, asid := x.asid, addr := a, data := bs, job := 0 }
  let facts := place x.nextSeq 32 0 + place (b2n x.snapshot) 1 32 + place (b2n x.pois) 1 33 + place (b2n x.nv) 1 34
    + place (b2n x.of) 1 35 + place die 2 36
  let all := x.bytes im
  pk back (leBytes 8 x.value.toNat ++ leBytes 8 x.shape.toNat ++ leBytes 8 facts)
    :: (List.range (ceilDiv x.ib 2048)).map (fun i => pk (back + 2048 * i) ((all.drop (2048 * i)).take 2048))

/-- The packets of a move from this chip. -/
def movePackets (s : State) (x : Handle) (im : Tbl Byte) (d0 d1 : DWord) : List Packet :=
  movePacketsOf s.chipId.toNat (mvChip d0) x im (mvDie d0) (mvBack d1)

/-- Hands packets to the link while it takes them: how many went. -/
def State.sendMany : List Packet → State → Nat × State
  | [], s => (0, s)
  | p :: r, s =>
    match s.send p with
    | some s => let (n, s) := State.sendMany r s; (n + 1, s)
    | none => (0, s)

/-- A move to another chip: MOVING from its first step, which discards the slotted jobs, until the receiver acknowledges. -/
def State.moveAway (s : State) (x : Handle) (d0 d1 : DWord) : Option State :=
  match s.imageNow x with
  | .error e => if x.sent = 0 then some ((s.ladleFail x e).popItem x.value) else none
  | .ok (im, s) =>
    let s := if x.sent = 0 then s.discardSlots x.value else s
    let (n, s) := State.sendMany ((movePackets s x im d0 d1).drop x.sent) s
    some (s.updHandle x.value (fun h =>
      { h with res := .moving, sent := h.sent + n, awayChip := mvChip d0, image := im, pages := x.pages }))

def execShmoveAction (h : Nat) (s : State) : Out :=
  handleAction h s (fun x i s =>
    match i with
    | .move d0 d1 =>
      if mvXchip d0 then s.moveAway x d0 d1
      else if x.res = .moving then
        let s := s.popItem x.value
        some ((s.moveWithin { x with ord := x.ord.tail } (s.crockDie (mvDie d0)) (mvBack d1)).touch x.value)
      else some (s.updHandle x.value (fun h => { h with res := .moving }))
    | _ => none)

/-- The receiver's acknowledgement: the entry is AWAY; what stands behind the move in handle order ends as if discarded (log 38). -/
def execHandleMoveAck (h : Nat) (s : State) : Out :=
  let s := s.settleMarks
  match Tbl.find s.handles h with
  | none => .next s
  | some x =>
    match x.ord with
    | .move d0 d1 :: rest =>
      event (x.res == .moving && decide (x.sent = (movePackets s x x.image d0 d1).length)) s (fun s =>
        (s.updHandle x.value (fun h =>
          { h with res := .away, pages := [], image := [], pin := none, ord := [], sent := 0 })).skipItems Code.chunkDiscarded rest)
    | _ => .next s

/-- The sender and the packets here of a move, once all of them have come. -/
def State.movedHere (s : State) (x : Handle) (m : HandleImage) : Option (List Packet) :=
  let whole (p : Packet) : Bool :=
    let ps := movePacketsOf p.src s.chipId.toNat x m.image m.die m.backing
    ps.isPerm (s.moves.filter (fun q => ps.contains q))
  (s.moves.find? whole).map (fun p => movePacketsOf p.src s.chipId.toNat x m.image m.die m.backing)

/-- A handle arrives from another chip, its packets all here: a foreign entry, or the ordinary one of a handle that comes home. A chip without
a context of its ASID takes none (14 R346, R378, 18 R444). -/
def execHandleMoveReceive (m : HandleImage) (s : State) : Out :=
  let s := s.settleMarks
  let die := s.crockDie m.die
  let x : Handle :=
    { value := m.handle, asid := m.asid, nh := m.nh, dk := m.dk, dv := m.dv, snapshot := m.snapshot, res := .parked, die := die
      nextSeq := m.nextSeq, pois := m.poisoned, nv := m.nv, of := m.of, backing := m.backing, made := true }
  let fresh := match s.handle? m.handle with
    | some h => h.res == .away
    | none => hHome m.handle != s.chipId.toNat
  let here := s.movedHere x m
  let s' : State := { s with handles := Tbl.put s.handles m.handle.toNat x, moves := s.moves.filter (fun p => !(here.getD []).contains p) }
  event (here.isSome && (s.ctx m.asid).valid && fresh && shapeWordOk x.shape && hIndex m.handle != 0 && hGen m.handle != 0) s (fun s =>
    let ps := s.crockFree die
    (if x.npg ≤ ps.length then s'.updHandle x.value (fun h => h.residentAs (ps.take x.npg) m.image)
    else match s'.writeBacking x m.image with
      | .ok s => s
      | .error e => s'.ladleFail x e).touch x.value)

/-! ### SHPIN and SHFREE (14 R379, R380) -/

def execShpinAction (h : Nat) (s : State) : Out :=
  handleAction h s (fun x i s =>
    match i with
    | .pin true _ =>
      if x.res = .resident then
        some (((s.updHandle x.value (fun h => { h with pin := some (h.pin.getD s.nextId) })).popItem x.value).touch x.value)
      else none
    | .pin false _ => some (((s.updHandle x.value (fun h => { h with pin := none })).popItem x.value).touch x.value)
    | _ => none)

def execShfreeAction (h : Nat) (s : State) : Out :=
  handleAction h s (fun x i s =>
    match i with
    | .free => some (s.freeHandle x.value)
    | _ => none)

end Sys2Proof.Machine
end

