-- ==== Sys2Proof/Machine/RepairEvents.lean ====
section
/-! DEFINITION. Repairs in a maintenance window: plates, Skillets, Crock banks, rows (14 R350, 17 R431 to R434, R436). -/

namespace Sys2Proof.Machine

open Sys2Proof

/-- Whether a maintenance window is open on a die. -/
def State.window (s : State) (d : Nat) : Bool := decide (d < 4) && (s.die d).alive && (s.die d).maint

def bit256 (p : Nat) : BitVec 256 := BitVec.ofNat 256 (2 ^ p)

/-! ### Plates (17 R432) -/

/-- A pending plate in no slab is taken under test, then repaired with a spare column, or retired. -/
def execPlateRepair (die plate : Nat) (s : State) : Out :=
  let D := s.die die
  event (s.window die && decide (plate < 256) && D.pendRet.getLsbD plate && !D.inSlab plate) s (fun s =>
    if !D.underTest.getLsbD plate then s.updDie die (fun D => { D with underTest := D.underTest ||| bit256 plate })
    else
      let used := Tbl.look 0 D.spareCols plate
      let done (D : Die) : Die :=
        { D with underTest := D.underTest &&& ~~~(bit256 plate), pendRet := D.pendRet &&& ~~~(bit256 plate) }
      if used < 2 then
        s.updDie die (fun D => { (done D) with
          spareCols := Tbl.put D.spareCols plate (used + 1)
          repair := { D.repair with spareCols := Tbl.put D.repair.spareCols plate (used + 1) } })
      else
        s.updDie die (fun D => { (done D) with
          retired := D.retired ||| bit256 plate
          repair := { D.repair with retired := D.repair.retired ||| bit256 plate } }))

/-! ### Skillets (00 R1, R4, 17 R433) -/

/-- Skillets built on a die. -/
def builtSkillets : Nat := 34

/-- A spare Skillet takes the logical number of a fenced one that no launch holds; with none left the number stays absent. DESIGN CHOICE: the
spec does not number the two spares of a die nor say which is mapped first: they are 32 and 33 here, 32 first (log 61). -/
def execSkilletSpareMap (die logical : Nat) (s : State) : Out :=
  let k := 32 * die + logical
  let x := s.sk k
  event (s.window die && decide (logical < 32) && x.fenced && !x.busy && x.halted.isNone && x.launch.isNone) s (fun s =>
    let p := 32 + (s.die die).repair.sparesUsed
    if p < builtSkillets then
      (s.updSk k (fun x => { x with fenced := false })).updDie die (fun D =>
        { D with repair := { D.repair with physOf := Tbl.put D.repair.physOf logical p, sparesUsed := D.repair.sparesUsed + 1 } })
    else s.updDie die (fun D => { D with repair := { D.repair with fenced := D.repair.fenced ||| BitVec.ofNat 32 (2 ^ logical) } }))

/-! ### Crock banks (14 R342, R350, 17 R433) -/

/-- The spare banks of a Crock. -/
def spareBanks : List Nat := [64, 65]

/-- The failed bank among those in use that the physical bank `b` stands for: its own number, or that of the bank it was mapped in for. -/
def RepairRec.bankOf (r : RepairRec) (b : Nat) : Option Nat :=
  if b < 64 then (if (Tbl.find r.bankMap b).isNone then some b else none)
  else (r.bankMap.find? (fun e => e.2 == b)).map (·.1)

/-- Banks in use for which neither they nor a spare stand. -/
def RepairRec.banksOut (r : RepairRec) : List Nat := (List.range 64).filter (fun b => r.banksBad.contains ((Tbl.find r.bankMap b).getD b))

/-- The widest group of intact banks the pages of a die are striped over, by its first bank and its size: all, a half, a quarter, or none. -/
def RepairRec.crockGroup (r : RepairRec) : Option (Nat × Nat) :=
  [(0, 64), (0, 32), (32, 32), (0, 16), (16, 16), (32, 16), (48, 16)].find? (fun (lo, n) =>
    r.banksOut.all (fun b => decide (b < lo) || decide (lo + n ≤ b)))

/-- Pages of a Crock: eight for each bank of its group (14 R342). -/
def RepairRec.crockPages (r : RepairRec) : Nat := 8 * (r.crockGroup.map (·.2)).getD 0

/-- The physical core behind a logical Skillet number. -/
def RepairRec.coreOf (r : RepairRec) (logical : Nat) : Nat := (Tbl.find r.physOf logical).getD logical

/-- The spare bank a failed bank gets: the first that is not in use and has not failed itself. -/
def Die.spareBank (D : Die) : Option Nat :=
  spareBanks.find? (fun p => (D.repair.bankOf p).isNone && !D.repair.banksBad.contains p && !D.bankBad.contains p)

/-- A failed bank enters the repair record: a spare takes its place if there is one. -/
def Die.remapBank (D : Die) (bank : Nat) : Die :=
  let D := { D with bankBad := D.bankBad.filter (· != bank) }
  let to_ := match D.repair.bankOf bank, D.spareBank with
    | some b, some p => Tbl.put D.repair.bankMap b p
    | _, _ => D.repair.bankMap
  { D with repair := { D.repair with bankMap := to_, banksBad := D.repair.banksBad ++ [bank] } }

/-- Parks every handle of a die; none where a backing write fails. -/
def State.parkAll : List Handle → State → Option State
  | [], s => some s
  | h :: r, s =>
    match s.writeBacking h h.image with
    | .ok s => State.parkAll r (s.updHandle h.value Handle.parkedAs)
    | .error _ => none

def insertPin (h : Handle) : List Handle → List Handle
  | [] => [h]
  | x :: r => if x.pin.getD 0 ≤ h.pin.getD 0 then h :: x :: r else x :: insertPin h r

/-- Pins are cleared, the most recent first, until those of a die do not exceed its limit (14 R350). -/
def State.trimPins (d : Nat) : List Handle → State → State
  | [], s => s
  | h :: r, s =>
    if s.pinnedPages d ≤ s.pmax d then s else State.trimPins d r (s.updHandle h.value (fun h => { h with pin := none }))

/-- The handles of a die that has lost its Crock move to one that has one. -/
def State.leaveCrock (s : State) (d : Nat) : State :=
  if s.hasCrock d then s
  else (s.handles.filter (fun e => e.2.die == d && e.2.res == .parked)).foldl (fun s e => s.moveWithin e.2 (s.crockDie d) 0) s

/-- A failed bank, by its physical number: handles are parked, then a spare is mapped, or the pages are striped over what is intact. -/
def execCrockBankRemap (die bank : Nat) (s : State) : Out :=
  let D := s.die die
  let s0 := s.settleMarks
  let here := (s0.handles.map (·.2)).filter (fun h => h.die == die && h.res == .resident)
  event (s.window die && D.bankBad.contains bank && D.wrun.isNone && D.wq.isEmpty
      && (s0.handles.all (fun e => e.2.die != die || e.2.res != .moving))) s (fun _ =>
    match State.parkAll here s0 with
    | none => s
    | some s =>
      let loose (h : Handle) : Handle := { h with kept := h.kept.map (fun k => if k.die = die then { k with pages := [] } else k) }
      let s : State := { s with handles := s.handles.map (fun (e : Nat × Handle) => (e.1, loose e.2)) }
      let s := s.updDie die (fun D => { (D.remapBank bank) with crockCap := (D.remapBank bank).repair.crockPages })
      let pinned := ((s.handles.map (·.2)).filter (fun h => h.die == die && h.pin.isSome)).foldr insertPin []
      (State.trimPins die pinned s).leaveCrock die)

/-! ### Rows (17 R434) -/

/-- A repair candidate moves to a spare row with its contents; where its bank has none left it stays at class 32 ms. -/
def execPostPackageRepair (die stack row : Nat) (s : State) : Out :=
  let x := s.stack die stack
  event (s.window die && !s.dieUsed die && decide (stack < 2) && x.candidates.contains row) s (fun s =>
    if Config.rowSpare die stack row x.repaired.length then
      (s.updStack die stack (fun x => { x with candidates := x.candidates.filter (· != row), repaired := x.repaired ++ [row] })).updDie die (fun D =>
        { D with repair := { D.repair with rows := Tbl.upd [] D.repair.rows stack (fun l => l ++ [row]) } })
    else s)

end Sys2Proof.Machine
end

