-- ==== Sys2Proof/Machine/Xmss.lean ====
section
/-! DEFINITION. The signatures of firmware, certificate and reports: SHAKE256 and XMSS-SHAKE256_20_256, which 18 R450 names by their standards
(FIPS 202, RFC 8391, NIST SP 800-208). PRESUMED: their steps stand in those texts and not in the spec (log 62). -/

namespace Sys2Proof.Machine

open Sys2Proof

/-! ### SHAKE256 -/

/-- Rotation offsets of the 25 lanes, lane `x + 5y`, and the round constants. -/
def keccakRot : List Nat := [0, 1, 62, 28, 27, 36, 44, 6, 55, 20, 3, 10, 43, 25, 39, 41, 45, 15, 21, 8, 18, 2, 61, 56, 14]
def keccakRc : List DWord :=
  [0x0000000000000001, 0x0000000000008082, 0x800000000000808A, 0x8000000080008000, 0x000000000000808B, 0x0000000080000001,
   0x8000000080008081, 0x8000000000008009, 0x000000000000008A, 0x0000000000000088, 0x0000000080008009, 0x000000008000000A,
   0x000000008000808B, 0x800000000000008B, 0x8000000000008089, 0x8000000000008003, 0x8000000000008002, 0x8000000000000080,
   0x000000000000800A, 0x800000008000000A, 0x8000000080008081, 0x8000000000008080, 0x0000000080000001, 0x8000000080008008]

/-- One round of the permutation. -/
def keccakRound (a : List DWord) (rc : DWord) : List DWord :=
  let at_ (l : List DWord) (x y : Nat) : DWord := l.getD (x % 5 + 5 * (y % 5)) 0
  let c := (List.range 5).map (fun x => (List.range 5).foldl (fun v y => v ^^^ at_ a x y) 0)
  let d := (List.range 5).map (fun x => c.getD ((x + 4) % 5) 0 ^^^ (c.getD ((x + 1) % 5) 0).rotateLeft 1)
  let b := (List.range 25).map (fun i =>
    let x := (i % 5 + 3 * (i / 5)) % 5
    let y := i % 5
    (at_ a x y ^^^ d.getD x 0).rotateLeft (keccakRot.getD (x + 5 * y) 0))
  (List.range 25).map (fun i =>
    let x := i % 5
    let y := i / 5
    let v := at_ b x y ^^^ (~~~ at_ b (x + 1) y &&& at_ b (x + 2) y)
    if i = 0 then v ^^^ rc else v)

def keccakF (a : List DWord) : List DWord := keccakRc.foldl keccakRound a

/-- The rate of SHAKE256 in bytes. -/
def shakeRate : Nat := 136

/-- A block of the rate is absorbed. -/
def keccakAbsorb (a : List DWord) (blk : List Byte) : List DWord :=
  keccakF (a.zipIdx.map (fun (v, i) => v ^^^ dw (ofLe ((blk.drop (8 * i)).take 8))))

def keccakBlocks : Nat → List DWord → List Byte → List DWord
  | 0, a, _ => a
  | n + 1, a, m => keccakBlocks n (keccakAbsorb a (m.take shakeRate)) (m.drop shakeRate)

/-- Padded to whole blocks. -/
def shakePad (m : List Byte) : List Byte :=
  let z := shakeRate - 1 - m.length % shakeRate
  if z = 0 then m ++ [0x9F] else m ++ 0x1F :: List.replicate (z - 1) 0 ++ [0x80]

def keccakSqueeze : Nat → List DWord → List Byte
  | 0, _ => []
  | n + 1, a => (a.flatMap (fun v => leBytes 8 v.toNat)).take shakeRate ++ keccakSqueeze n (keccakF a)

/-- `n` bytes of SHAKE256 of a message. -/
def shake256 (m : List Byte) (n : Nat) : List Byte :=
  let p := shakePad m
  (keccakSqueeze (ceilDiv n shakeRate) (keccakBlocks (p.length / shakeRate) (List.replicate 25 0) p)).take n

/-! ### XMSS-SHAKE256_20_256: n = 32, w = 16, height 20 -/

/-- Bytes of a hash, most significant first, and a number so written. -/
def xmssN : Nat := 32
def xmssHeight : Nat := 20
def beBytes (n x : Nat) : List Byte := (leBytes n x).reverse
def ofBe (l : List Byte) : Nat := ofLe l.reverse

def xmssHash (kind : Nat) (m : List Byte) : List Byte := shake256 (beBytes xmssN kind ++ m) xmssN

/-- The keyed hashes F, H, H_msg and PRF. -/
def xmssF (key m : List Byte) : List Byte := xmssHash 0 (key ++ m)
def xmssH (key m : List Byte) : List Byte := xmssHash 1 (key ++ m)
def xmssHmsg (key m : List Byte) : List Byte := xmssHash 2 (key ++ m)
def xmssPrf (key m : List Byte) : List Byte := xmssHash 3 (key ++ m)

/-- An address: the kind of node (0 a chain, 1 an L-tree, 2 the tree) and its four words; the layer and the tree are 0. -/
structure XAddr where
  kind : Nat
  a : Nat := 0
  b : Nat := 0
  c : Nat := 0

def XAddr.bytes (x : XAddr) (mask : Nat) : List Byte := List.replicate 12 0 ++ [x.kind, x.a, x.b, x.c, mask].flatMap (beBytes 4)

def xorBytes (a b : List Byte) : List Byte := (a.zip b).map (fun (x, y) => x ^^^ y)

/-- The randomized hash of two nodes under an address. -/
def xmssNode (seed l r : List Byte) (x : XAddr) : List Byte :=
  let k := xmssPrf seed (x.bytes 0)
  xmssH k (xorBytes l (xmssPrf seed (x.bytes 1)) ++ xorBytes r (xmssPrf seed (x.bytes 2)))

/-- `steps` steps of chain `j` of leaf `leaf` from step `i`. -/
def xmssChain (seed : List Byte) (leaf j : Nat) : Nat → Nat → List Byte → List Byte
  | 0, _, v => v
  | n + 1, i, v =>
    let x : XAddr := ⟨0, leaf, j, i⟩
    xmssChain seed leaf j n (i + 1) (xmssF (xmssPrf seed (x.bytes 0)) (xorBytes v (xmssPrf seed (x.bytes 1))))

/-- The 67 base-16 digits a one-time key signs: those of the digest, then those of their checksum. -/
def wotsDigits (m : List Byte) : List Nat :=
  let ds := m.flatMap (fun b => [b.toNat / 16, b.toNat % 16])
  let sum := ds.foldl (fun n d => n + (15 - d)) 0
  ds ++ [sum / 256 % 16, sum / 16 % 16, sum % 16]

/-- The leaf of a one-time public key: its L-tree, level by level; `n` bounds the levels. -/
def xmssLtree (seed : List Byte) (leaf : Nat) : Nat → Nat → List (List Byte) → List Byte
  | 0, _, l => l.headD []
  | n + 1, h, l =>
    if l.length ≤ 1 then l.headD []
    else xmssLtree seed leaf n (h + 1) ((List.range (ceilDiv l.length 2)).map (fun i =>
      if 2 * i + 1 < l.length then xmssNode seed (l.getD (2 * i) []) (l.getD (2 * i + 1) []) ⟨1, leaf, h, i⟩ else l.getD (2 * i) []))

/-- The leaf that a one-time signature of a digest leads to. -/
def wotsLeaf (seed : List Byte) (leaf : Nat) (m : List Byte) (sig : List (List Byte)) : List Byte :=
  xmssLtree seed leaf 7 0 ((wotsDigits m).zipIdx.map (fun (d, j) => xmssChain seed leaf j (15 - d) d (sig.getD j [])))

/-- The root from a leaf and its authentication path. -/
def xmssRoot (seed : List Byte) (leaf : Nat) (v : List Byte) (auth : List (List Byte)) : List Byte :=
  auth.zipIdx.foldl (fun v (s, h) =>
    let i := leaf / 2 ^ h
    let x : XAddr := ⟨2, 0, h, i / 2⟩
    if i % 2 = 0 then xmssNode seed v s x else xmssNode seed s v x) v

/-- Pieces of a hash each. -/
def xmssPieces (l : List Byte) (n : Nat) : List (List Byte) := (List.range n).map (fun i => (l.drop (xmssN * i)).take xmssN)

/-- Bytes of a signature and of a public key (18 R450). -/
def xmssSigLen : Nat := 2820
def xmssKeyLen : Nat := 68

/-- The number SP 800-208 gives the parameter set. -/
def xmssOid : Nat := 0x12

/-- A public key: the number of the parameter set, the root, the seed. -/
def xmssKey (root seed : List Byte) : List Byte := beBytes 4 xmssOid ++ root ++ seed

/-- The digest of a message that leaf `leaf` signs. -/
def xmssDigest (r root : List Byte) (leaf : Nat) (m : List Byte) : List Byte := xmssHmsg (r ++ root ++ beBytes xmssN leaf) m

/-- Verification of a signature under a public key: leaf number, randomizer, one-time signature, authentication path. -/
def xmssVerify (key m sig : List Byte) : Bool :=
  let root := (key.drop 4).take xmssN
  let seed := (key.drop 36).take xmssN
  let leaf := ofBe (sig.take 4)
  let ots := xmssPieces (sig.drop 36) 67
  let auth := xmssPieces (sig.drop (36 + 67 * xmssN)) xmssHeight
  key.length == xmssKeyLen && sig.length == xmssSigLen && ofBe (key.take 4) == xmssOid && decide (leaf < 2 ^ xmssHeight)
    && xmssRoot seed leaf (wotsLeaf seed leaf (xmssDigest ((sig.drop 4).take xmssN) root leaf m) ots) auth == root

/-! ### Signing -/

/-- A private key: the start of every chain, the key of the randomizer, the public seed. -/
structure XKey where
  chain : Nat → Nat → List Byte
  prf : List Byte
  seed : List Byte

/-- The leaf `i` of a key's tree, and its nodes. -/
def XKey.leaf (k : XKey) (i : Nat) : List Byte := xmssLtree k.seed i 7 0 ((List.range 67).map (fun j => xmssChain k.seed i j 15 0 (k.chain i j)))

def XKey.node (k : XKey) : Nat → Nat → List Byte
  | 0, i => k.leaf i
  | h + 1, i => xmssNode k.seed (k.node h (2 * i)) (k.node h (2 * i + 1)) ⟨2, 0, h, i⟩

def XKey.root (k : XKey) : List Byte := k.node xmssHeight 0

def XKey.public (k : XKey) : List Byte := xmssKey k.root k.seed

/-- The signature with leaf `i` over a message. -/
def XKey.sign (k : XKey) (i : Nat) (m : List Byte) : List Byte :=
  let r := xmssPrf k.prf (beBytes xmssN i)
  let ds := wotsDigits (xmssDigest r k.root i m)
  beBytes 4 i ++ r ++ ds.zipIdx.flatMap (fun (d, j) => xmssChain k.seed i j d 0 (k.chain i j))
    ++ (List.range xmssHeight).flatMap (fun h => k.node h (i / 2 ^ h ^^^ 1))

end Sys2Proof.Machine
end

