-- ==== Sys2Proof/Machine/PowerEvents.lean ====
section
/-! DEFINITION. Power, heat and cold reset: the Griddle clock, a thermal trip, a power loss, the boot (00 R3, 17 R436, 18 R449, R451,
R455). -/

namespace Sys2Proof.Machine

open Sys2Proof

/-! ### The Griddle clock (00 R3, 18 R455) -/

/-- Whether a launch at D3 runs, which pins the clocks. -/
def State.pinned (s : State) : Bool := s.launches.any (fun e => e.2.level == 3)

/-- A step of the power manager: 100 MHz down, to no lower than 800 MHz. DESIGN CHOICE: R3 gives no rise; the clock rises again by 100 MHz a
step to 1,600 MHz (log 57). -/
def execPowerManagerStep (down : Bool) (s : State) : Out :=
  event (!s.pinned && s.throttled.isNone) s (fun s =>
    { s with griddleMHz := if down then max 800 (s.griddleMHz - 100) else min 1600 (s.griddleMHz + 100) })

/-- 105 °C: 800 MHz at every level. -/
def execThermalThrottle (s : State) : Out :=
  event s.throttled.isNone s (fun s => { s with throttled := some s.griddleMHz, throttledAt := s.now, griddleMHz := 800 })

/-- Cycles the junction stays below 100 °C before the clock returns: 10 ms. -/
def junctionCycles : Nat := 10000 * usCycles

/-- 10 ms below 100 °C, which no clock lowered for less can have seen: the former value. -/
def execThermalRecovery (s : State) : Out :=
  match s.throttled with
  | none => .next s
  | some f => event (decide (s.throttledAt + junctionCycles ≤ s.now)) s (fun s => { s with griddleMHz := f, throttled := none })

/-! ### What outlives power (17 R436, 18 R449, R451) -/

/-- A die as the repair record makes it at boot. -/
def bootDie (r : RepairRec) : Die :=
  let rows (k lim : Nat) : List Nat := ((Tbl.look [] r.retention k).filter (fun e => decide (e.2 ≤ lim))).map (·.1)
  let stack (k : Nat) : Nat × Stack := (k, { filterA := some (rows k 32), filterB := some (rows k 64), repaired := Tbl.look [] r.rows k })
  { repair := r, retired := r.retired, spareCols := r.spareCols, crockCap := r.crockPages
    hbm := [stack 0, stack 1] }

/-- A Skillet as the repair record makes it. -/
def bootSkillets (d : Nat) (r : RepairRec) : Tbl Skillet :=
  (List.range 32).filterMap (fun i => if r.fenced.getLsbD i then some (32 * d + i, ({ fenced := true } : Skillet)) else none)

/-- The package without its volatile state: host memory lies outside; provisioning, firmware, counters and records survive. -/
def State.cold (s : State) : State :=
  { now := s.now, agenda := s.agenda, nextId := s.nextId, chipId := s.chipId, hostMem := s.hostMem, entries := s.entries
    leafCtr := s.leafCtr, dirCap := s.dirCap, firm := s.firm, tripLog := s.tripLog
    dies := (s.dies.filter (fun e => e.2.repair != {})).map (fun e => (e.1, bootDie e.2.repair))
    sks := s.dies.flatMap (fun e => bootSkillets e.1 e.2.repair) }

/-- 115 °C: power leaves the compute dies, and Onyx records the trip. -/
def execThermalTrip (s : State) : Out := .next { s.cold with powered := false, tripLog := s.tripLog ++ [s.now] }

def execPowerLoss (s : State) : Out := .next { s.cold with powered := false }

/-! ### Boot (18 R449) -/

/-- The components: Spinel of each stack, Garnet of each die, Onyx (18 R453). -/
def components : List Nat := (List.range 8).map (0x10 + ·) ++ (List.range 4).map (0x20 + ·) ++ [0x30]

def State.comp (s : State) (c : Nat) : Firm := Tbl.look { img0 := Config.factoryImage c } s.firm c

def Firm.ver (f : Firm) (slot : Nat) : Nat := if slot = 0 then f.ver0 else f.ver1
def Firm.img (f : Firm) (slot : Nat) : List Byte := if slot = 0 then f.img0 else f.img1

/-- Whether a firmware image of a component passes its vendor signature (18 R450, R453). -/
def imageSigned (c : Nat) (img : List Byte) : Bool := xmssVerify (Config.vendorKey c) (Config.imageBody img) (Config.imageSig img)

/-- Whether a slot may run. -/
def Firm.fits (f : Firm) (c slot : Nat) : Bool := decide (f.minVer ≤ f.ver slot) && imageSigned c (f.img slot)

/-- The slot Onyx starts: the newest that passes, else the other. -/
def Firm.choose (f : Firm) (c : Nat) : Option Nat :=
  let newest := if f.ver0 < f.ver1 then 1 else 0
  if f.fits c newest then some newest else if f.fits c (1 - newest) then some (1 - newest) else none

/-- The slots the components run in after a boot. -/
def State.started (s : State) : Tbl Firm :=
  components.foldl (fun (t : Tbl Firm) c =>
    match (s.comp c).choose c with
    | some k => if k = (s.comp c).slot then t else Tbl.put t c { s.comp c with slot := k }
    | none => t) s.firm

/-- Spare lanes of a channel of HBM4E. -/
def spareLanes : Nat := 8

/-- Failed lanes of a stack are mapped to spare ones, as many as a channel has (17 R434). -/
def mapLanes (l : List Nat) (found : List (Nat × Nat)) : List Nat :=
  found.foldl (fun l (c, x) =>
    if l.contains (256 * c + x) || decide (spareLanes ≤ (l.filter (fun y => y / 256 == c)).length) then l else l ++ [256 * c + x]) l

/-- HBM4E of every die is trained: the failed lanes enter the repair record; the heartbeats of the Garnets begin. -/
def State.trainDies (s : State) : State :=
  allDies.foldl (fun s d => s.updDie d (fun D =>
    let lanes := [0, 1].foldl (fun t k => Tbl.upd [] t k (fun l => mapLanes l (Config.badLanes d k s.now))) D.repair.lanes
    { D with garnetAt := s.now, repair := { D.repair with lanes := lanes.filter (fun e => e.2 != []) } })) s

/-- The boot stops: nothing is up, and no Benvas link stands. -/
def State.bootStop (s : State) (status : DWord) : State :=
  { s with bootFail := true, mstat := status, links := (List.range 6).map (fun i => (i, ({ up := false } : Link))) }

/-- A cold reset: firmware is verified and started, the repair record applied, the links and memories trained in order. Without an image for a
component, only MSTAT answers, with SIG-FAIL; a step that fails stops the boot before the host sees anything. -/
def execColdReset (s : State) : Out :=
  let c : State := s.cold
  if !components.all (fun k => ((c.comp k).choose k).isSome) then .next (c.bootStop 3)
  else
    let c : State := { c with firm := c.started }
    if (List.range 5).all (Config.trains s.now) then .next c.trainDies else .next (c.bootStop 0)

end Sys2Proof.Machine
end

