-- ==== Sys2Proof/Machine/MgmtCommands.lean ====
section
/-! DEFINITION. The management commands, and the start checks of an update (13 R319, R321, 15 R386, 17 R415, R431, R436, 18 R439, R444,
R446, R451 to R453). -/

namespace Sys2Proof.Machine

open Sys2Proof

/-! ### The command engine (18 R439) -/

/-- The results of a command. -/
abbrev resDone : DWord := 0
abbrev resBadArg : DWord := 1
abbrev resDenied : DWord := 2
abbrev resSigFail : DWord := 3
abbrev resRollback : DWord := 4
abbrev resExhausted : DWord := 5

/-- Operand `i` of the command block. -/
def State.mdw (s : State) (i : Nat) : DWord := Tbl.look 0 s.mcb i

/-- A command ends: BUSY falls, the result stands in MSTAT. -/
def State.cmdEnd (s : State) (r : DWord) : State := { s with mstat := r }

/-- Why a command stops: with a result, or at an uncorrectable error of what it reads (17 R413, R425). -/
inductive CmdStop where
  | res (r : DWord)
  | mc (e : PErr)

abbrev Cmd (α : Type) : Type := Except CmdStop α

/-- A command that stops: an error it met is logged with ASID 0, and its operand is bad (17 R427, log 61). -/
def State.cmdStop (s : State) : CmdStop → State
  | .res r => s.cmdEnd r
  | .mc e => (s.noteErr 0 0 e.mc.1 e.mc.2).cmdEnd resBadArg

/-- Bytes of device memory a command reads. -/
def State.mgmtRead (s : State) (a n : Nat) : Cmd (List Byte) :=
  match s.physOk a n true with
  | .error e => .error (.mc e)
  | .ok _ => .ok (rdBytes s.mem a n)

/-- The command `code` runs where the doorbell has been rung for it and no update is under way: `body` answers a result that is not 0, or
the state after. -/
def mgmt (code : Nat) (body : State → Cmd State) (s : State) : Out :=
  event (s.cmdBusy && fld (s.mdw 0) 7 0 == code && s.updating.isNone && (s.die 0).alive) s (fun s =>
    match body s with
    | .ok s => (s.cmdEnd resDone).garnetRan 0
    | .error e => (s.cmdStop e).garnetRan 0)

def must (c : Bool) (r : DWord) : Cmd Unit := if c then .ok () else .error (.res r)

/-- Doubleword 0 holds the code alone. -/
def State.mcode (s : State) : Cmd Unit := must (fld (s.mdw 0) 63 8 == 0) resBadArg

/-- A device physical address of `n` bytes that exists, with an alignment. -/
def devAddr (a : DWord) (n al : Nat) : Cmd Unit :=
  must (a.toNat % al == 0 && (homeOf a.toNat).isSome && (homeOf (a.toNat + (n - 1))).isSome) resBadArg

/-- Bytes the device writes for a command. -/
def State.devWrite (s : State) (a : DWord) (bs : List Byte) : State := s.land (cellsAt a.toNat bs) .unit

/-! ### Queues (13 R319, R321, 15 R386) -/

/-- The doublewords of a descriptor. -/
def State.queueDesc (s : State) (a : Nat) : Cmd (List DWord) := (s.mgmtRead a 64).map (dwords 8)

/-- The field rules of R319. -/
def queueOk (q : List DWord) : Bool :=
  fld (cdw q 0) 63 56 == 0 && !(cdw q 0).getLsbD 5 && fld (cdw q 1) 63 32 == 0 && fld (cdw q 2) 63 32 == 0
    && fld (cdw q 3) 63 48 == 0 && fld (cdw q 3) 39 35 == 0 && fld (cdw q 4) 63 16 == 0 && fld (cdw q 4) 7 2 == 0
    && [5, 6, 7].all (fun i => cdw q i == 0)
    && decide (1 ≤ fld (cdw q 0) 4 0) && decide (fld (cdw q 0) 4 0 ≤ 16) && fld (cdw q 3) 15 0 != 0

/-- The slot a queue is mapped to. -/
def State.mappedAt (s : State) (p : QSlot → Bool) : Option (Nat × Nat) :=
  allDies.findSome? (fun d => ((s.die d).qslots.find? (fun e => p e.2)).map (fun e => (d, e.1)))

def State.mapq (s : State) : Cmd State := do
  s.mcode
  let a := s.mdw 1
  let x := s.mdw 2
  devAddr a 64 64
  must (fld x 63 14 == 0 && fld x 7 2 == 0) resBadArg
  let d := fld x 1 0
  let slot := fld x 13 8
  let q ← s.queueDesc a.toNat
  must (queueOk q) resBadArg
  let qid := fld (cdw q 3) 15 0
  let lg := fld (cdw q 0) 4 0
  let head := (cdw q 1).toNat
  let tail := (cdw q 2).toNat
  must ((s.die d).alive && (Tbl.find (s.die d).qslots slot).isNone && (s.mappedAt (fun e => e.qid == qid || e.desc == a.toNat)).isNone
    && decide ((tail + 2 ^ 32 - head) % 2 ^ 32 ≤ 2 ^ lg)) resDenied
  let e : QSlot :=
    { qid := qid, desc := a.toNat, asid := fld (cdw q 3) 31 16, base := fld (cdw q 0) 55 6 * 64, lg := lg
      prio := fld (cdw q 3) 34 32, ptmax := fld (cdw q 3) 47 40, tail := head, head := head }
  let forget (D : Die) : Die := { D with qlast := D.qlast.filter (fun e => e.2.qid != qid) }
  let s : State := { s with dies := s.dies.map (fun (e : Nat × Die) => (e.1, forget e.2)) }
  let s := s.updDie d (fun D => { D with qslots := Tbl.put D.qslots slot e, qlast := Tbl.del D.qlast slot })
  let s := s.devWrite (a + 0x20) (leBytes 8 (place d 2 14 + place slot 6 8 + 2))
  .ok (if (cdw q 4).getLsbD 0 then s.actQueue d slot else s)

def State.unmapq (s : State) : Cmd State := do
  s.mcode
  devAddr (s.mdw 1) 64 64
  match s.mappedAt (fun e => e.desc == (s.mdw 1).toNat) with
  | some (d, slot) => .ok (s.unmapSlot d slot)
  | none => .error (.res resDenied)

def State.destroyq (s : State) : Cmd State := do
  s.mcode
  let q := (s.mdw 1).toNat
  must (decide (1 ≤ q) && decide (q ≤ 0xFFFF)) resBadArg
  must (s.mappedAt (fun e => e.qid == q)).isNone resDenied
  let drop (D : Die) : Die := { D with logs := Tbl.del D.logs q }
  .ok { s with levels := Tbl.del s.levels q, dies := s.dies.map (fun (e : Nat × Die) => (e.1, drop e.2)) }

def execMapq (s : State) : Out := mgmt 0x01 State.mapq s
def execUnmapq (s : State) : Out := mgmt 0x02 State.unmapq s
def execDestroyq (s : State) : Out := mgmt 0x03 State.destroyq s

/-! ### Handles, tensor tables, windows, records -/

def State.freeh (s : State) : Cmd State := do
  s.mcode
  let v := s.mdw 1
  let a := (s.mdw 2).toNat
  must (decide (1 ≤ a) && decide (a ≤ 0xFFFF) && (s.handle? v).any (fun h => h.asid == a)) resBadArg
  must (!(s.ctx a).valid) resDenied
  .ok (s.settleMarks.freeHandle v)

def State.ttreg (s : State) : Cmd State := do
  s.mcode
  let a := (s.mdw 1).toNat
  must (decide (1 ≤ a) && decide (a ≤ 0xFFFF)) resBadArg
  devAddr (s.mdw 2) 262144 64
  .ok { s with ttbl := Tbl.put s.ttbl a (s.mdw 2).toNat }

def State.windowCmd (s : State) : Cmd State := do
  s.mcode
  let d := (s.mdw 1).toNat
  must (decide (d < 4) && fld (s.mdw 2) 63 1 == 0) resBadArg
  .ok ((s.updDie d (fun D => { D with maint := (s.mdw 2).getLsbD 0 })).windowWork)

/-- The facts of a repair record, as numbers. -/
def RepairRec.facts (r : RepairRec) : List Nat :=
  let tab (t : Tbl Nat) : List Nat := t.length :: t.flatMap (fun e => [e.1, e.2])
  let lists (t : Tbl (List Nat)) : List Nat := t.length :: t.flatMap (fun e => e.1 :: e.2.length :: e.2)
  let group := match r.crockGroup with
    | some (lo, n) => [lo, n]
    | none => [0, 0]
  tab r.spareCols ++ [r.retired.toNat] ++ (List.range 32).map r.coreOf ++ [r.fenced.toNat] ++ tab r.bankMap ++ group ++ lists r.rows
    ++ lists r.lanes ++ (r.retention.length :: r.retention.flatMap (fun e => e.1 :: e.2.length :: e.2.flatMap (fun x => [x.1, x.2])))

/-- The bytes of a die's repair record, and of Onyx's event log with it. -/
def repairBytes (facts : List Nat) : List Byte := (List.range Config.repairLen).map (Config.repairByte facts)

def State.rdrep (s : State) : Cmd State := do
  s.mcode
  let d := (s.mdw 1).toNat
  must (decide (d < 4)) resBadArg
  devAddr (s.mdw 2) Config.repairLen 8
  .ok (s.devWrite (s.mdw 2) (repairBytes ((s.die d).repair.facts ++ s.tripLog)))

def State.mcackh (s : State) : Cmd State := do
  s.mcode
  must (fld (s.mdw 1) 63 34 == 0) resBadArg
  let d := fld (s.mdw 1) 33 32
  match s.mcEntry d (fld (s.mdw 1) 31 0) with
  | none => .error (.res resBadArg)
  | some (slot, e) => do
    must (e.asid == 0 && !e.halt) resDenied
    .ok (s.mcApply d slot e 0 0)

def execFreeh (s : State) : Out := mgmt 0x04 State.freeh s
def execTtreg (s : State) : Out := mgmt 0x05 State.ttreg s
def execWindow (s : State) : Out := mgmt 0x06 State.windowCmd s
def execRdrep (s : State) : Out := mgmt 0x07 State.rdrep s
def execMcackh (s : State) : Out := mgmt 0x08 State.mcackh s

/-! ### Launches, streams, routes -/

def State.endl (s : State) : Cmd State := do
  s.mcode
  must (fld (s.mdw 2) 63 16 == 0) resBadArg
  match s.launches.find? (fun e => e.2.compl == (s.mdw 1).toNat && decide (e.2.compl < 2 ^ 52) && e.2.ending.isNone) with
  | none => .error (.res resDenied)
  | some e => .ok (s.endLaunch e.1 ⟨2, fld (s.mdw 2) 15 0, e.2.home, 0, 0⟩)

/-- The field rules of a stream descriptor (18 R446). -/
def streamOk (q : List DWord) : Bool :=
  let lg := fld (cdw q 0) 61 56
  fld (cdw q 0) 5 0 == 0 && [1, 2].all (fun i => fld (cdw q i) 63 56 == 0 && fld (cdw q i) 2 0 == 0)
    && fld (cdw q 3) 63 16 == 0 && [5, 6, 7].all (fun i => cdw q i == 0)
    && (!(cdw q 0).getLsbD 63 || (decide (12 ≤ lg) && decide (lg ≤ 34) && fld (cdw q 0) 55 6 * 64 % 2 ^ lg == 0))

/-- STREAM captures a descriptor; the port's count goes on from the tail word. -/
def State.streamCmd (s : State) : Cmd State := do
  s.mcode
  let x := s.mdw 1
  must (fld x 63 9 == 0) resBadArg
  devAddr (s.mdw 2) 64 64
  let q ← s.queueDesc (s.mdw 2).toNat
  must (streamOk q) resBadArg
  let tail ← if (cdw q 0).getLsbD 63 then s.mgmtRead (fld (cdw q 1) 55 3 * 8) 8 else .ok []
  .ok (s.updStream (fld x 8 8) (fld x 7 0) (fun _ => { dws := q, tail := ofLe tail, sdrop := cdw q 4 }))

def State.routeCmd (s : State) : Cmd State := do
  s.mcode
  must (fld (s.mdw 1) 63 12 == 0 && fld (s.mdw 2) 63 6 == 0) resBadArg
  .ok { s with routes := Tbl.put s.routes (s.mdw 1).toNat (BitVec.ofNat 6 (s.mdw 2).toNat) }

def State.inboundCmd (s : State) : Cmd State := do
  s.mcode
  let a := (s.mdw 1).toNat
  must (decide (1 ≤ a) && decide (a ≤ 0xFFFF) && decide ((s.mdw 2).toNat ≤ 2 ^ 56) && decide ((s.mdw 3).toNat ≤ 2 ^ 56)) resBadArg
  .ok { s with inbound := Tbl.put s.inbound a ((s.mdw 2).toNat, (s.mdw 3).toNat) }

def execEndl (s : State) : Out := mgmt 0x09 State.endl s
def execStream (s : State) : Out := mgmt 0x0A State.streamCmd s
def execRoute (s : State) : Out := mgmt 0x0B State.routeCmd s
def execInbound (s : State) : Out := mgmt 0x0C State.inboundCmd s

/-! ### Updates (18 R453) -/

/-- The stack a Spinel component runs. -/
def spinelOf (c : Nat) : Option (Nat × Nat) := if 0x10 ≤ c ∧ c < 0x18 then some ((c - 0x10) / 2, (c - 0x10) % 2) else none

/-- The image is installed in the inactive slot and started; the command stays BUSY until the start check. -/
def State.update (s : State) : Cmd State := do
  s.mcode
  let c := (s.mdw 1).toNat
  must (components.contains c) resBadArg
  let n := (s.mdw 3).toNat
  devAddr (s.mdw 2) n 8
  must (0 < n) resBadArg
  let img ← s.mgmtRead (s.mdw 2).toNat n
  must (imageSigned c img) resSigFail
  let f := s.comp c
  let ver := Config.imageVersion img
  must (decide (f.minVer ≤ ver)) resRollback
  let f' : Firm := if f.slot = 0 then { f with ver1 := ver, img1 := img, slot := 1 } else { f with ver0 := ver, img0 := img, slot := 0 }
  let s : State := { s with firm := Tbl.put s.firm c f', updating := some ⟨c, f, ver, s.now⟩ }
  .ok (match spinelOf c with
    | some (d, k) => if (s.stack d k).taken then s else s.takeover d k s.now
    | none => s)

/-- UPDATE: a failing check ends the command, else it stays BUSY. -/
def execUpdate (s : State) : Out :=
  event (s.cmdBusy && fld (s.mdw 0) 7 0 == 0x0D && s.updating.isNone && (s.die 0).alive) s (fun s =>
    match s.update with
    | .ok s => s
    | .error e => s.cmdStop e)

/-- The Garnet of a die is back: its heartbeat counts from now, the 100 ms of 17 R430 have stood still, and the queues whose unmap waited are
unmapped (18 R453, R456). -/
def State.garnetBack (s : State) (u : Updating) : State :=
  if 0x20 ≤ u.comp ∧ u.comp < 0x24 then
    let d := u.comp - 0x20
    let s := s.updDie d (fun D => { D with
      garnetAt := s.now
      ring := D.ring.map (fun (e : Nat × McEnt) => (e.1, { e.2 with since := e.2.since + (s.now - max e.2.since u.since) })) })
    ((s.die d).qslots.filter (fun e => e.2.unmapDue)).foldl (fun s e => s.unmapSlot d e.1) s
  else s

/-- The component passes its start check: its least version rises, the command is done. -/
def execComponentStart (comp : Nat) (s : State) : Out :=
  match s.updating with
  | none => .next s
  | some u =>
    event (u.comp == comp) s (fun s =>
      let s : State := { s with firm := Tbl.put s.firm comp { s.comp comp with minVer := u.ver }, updating := none }
      (s.garnetBack u).cmdEnd resDone)

/-- Cycles a component has for its start check: 100 ms. -/
def startLimit : Nat := 100000 * usCycles

/-- The component is restarted on its previous slot, which stands as before; the command returns SIG-FAIL. -/
def execUpdateStartTimeout (comp : Nat) (s : State) : Out :=
  match s.updating with
  | none => .next s
  | some u =>
    event (u.comp == comp && decide (u.since + startLimit ≤ s.now)) s (fun s =>
      (({ s with firm := Tbl.put s.firm comp u.old, updating := none } : State).garnetBack u).cmdEnd resSigFail)

/-! ### Identity and attestation (18 R450 to R452) -/

/-- Leaves of the attestation key. -/
def leafMax : Nat := 2 ^ 20

/-- The device's attestation key (18 R451). -/
def attestKey : XKey :=
  { chain := fun i j => leBytes 32 (Config.attestChain i j).toNat, prf := leBytes 32 Config.attestPrf.toNat
    seed := leBytes 32 Config.attestSeed.toNat }

/-- Bytes 0x000 to 0x21F of a report (18 R452). -/
def State.reportBody (s : State) (leaf : Nat) (nonce : List Byte) : List Byte :=
  let digest (m : List Byte) : List Byte := (List.range 32).map (fun i => (shake256 m 32).getD i 0)
  let order := 0x30 :: (List.range 4).map (0x20 + ·) ++ (List.range 8).map (0x10 + ·)
  leBytes 8 (s.chipId.toNat + place 1 8 16) ++ leBytes 8 leaf ++ List.replicate 48 0 ++ nonce
    ++ order.flatMap (fun c => digest ((s.comp c).img (s.comp c).slot))
    ++ digest (repairBytes (allDies.flatMap (fun d => (s.die d).repair.facts)))

def State.attest (s : State) : Cmd State := do
  s.mcode
  devAddr (s.mdw 1) 32 8
  devAddr (s.mdw 2) 3364 8
  let i := s.leafCtr
  must (decide (i < leafMax)) resExhausted
  let nonce ← s.mgmtRead (s.mdw 1).toNat 32
  let body := s.reportBody i nonce
  let sig := (List.range xmssSigLen).map (fun j => (attestKey.sign i body).getD j 0)
  .ok (({ s with leafCtr := i + 1, signedAt := some s.now } : State).devWrite (s.mdw 2) (body ++ sig))

def State.ident (s : State) : Cmd State := do
  s.mcode
  devAddr (s.mdw 1) Config.identLen 8
  .ok (s.devWrite (s.mdw 1) ((List.range Config.identLen).map (Config.identByte s.chipId.toNat attestKey.public)))

/-- Cycles between two reports: 5 ms (18 R451). -/
def signCycles : Nat := 5000 * usCycles

/-- Whether Onyx takes an ATTEST now: it signs one report per 5 ms; a spent key signs none. -/
def State.signReady (s : State) : Bool := decide (leafMax ≤ s.leafCtr) || s.signedAt.all (fun t => decide (t + signCycles ≤ s.now))

def execAttest (s : State) : Out := if s.signReady then mgmt 0x0E State.attest s else .next s
def execIdent (s : State) : Out := mgmt 0x0F State.ident s

end Sys2Proof.Machine
end

