-- ==== Sys2Proof/Machine/Shared.lean ====
section
/-! DEFINITION. Shared control: branches, jumps, calls and hardware loops, on whichever engine evaluates or follows them
(04 R97 to R106). -/

namespace Sys2Proof.Machine

open Sys2Proof

def execBeq (f : SB) (s : State) : Out := sBranch f (fun a b => a == b) s
def execBne (f : SB) (s : State) : Out := sBranch f (fun a b => a != b) s
def execBlt (f : SB) (s : State) : Out := sBranch f (fun a b => decide (sgn a < sgn b)) s
def execBge (f : SB) (s : State) : Out := sBranch f (fun a b => decide (sgn b ≤ sgn a)) s
def execBltn (f : SB) (s : State) : Out := sBranch f (fun a b => decide (a.toNat < b.toNat)) s
def execBgen (f : SB) (s : State) : Out := sBranch f (fun a b => decide (b.toNat ≤ a.toNat)) s
def execJmp (f : SJ) (s : State) : Out := sJump 4 false (fun pc => wordTarget pc f.off.toInt) s
def execCall (f : SJ) (s : State) : Out := sJump 4 true (fun pc => wordTarget pc f.off.toInt) s
def execJmpLong (f : SX) (s : State) : Out := sJump 8 false (fun _ => 4 * f.tgt.toNat) s
def execCallLong (f : SX) (s : State) : Out := sJump 8 true (fun _ => 4 * f.tgt.toNat) s
def execCallr (f : SB) (s : State) : Out := sRegJump f.a true s
def execRet (_f : SB) (s : State) : Out := sRegJump 63 false s
def execLoop (f : SL) (s : State) : Out := sWord 4 none (fun t e pc _ _ => loopAct f.fin t e pc (f.cnt.setWidth 64)) s
def execLoopr (f : SL) (s : State) : Out :=
  sWord 4 (some (fun t => let n := t.getS (f.cnt.setWidth 6); .ok (n != 0, n))) (fun t e pc _ n => loopAct f.fin t e pc n) s
def execLoopm (f : SL) (s : State) : Out :=
  sWord 4 (some (fun t => let n := Tbl.look 0 t.mbox (fld (f.cnt.setWidth 64) 3 0); .ok (n != 0, n)))
    (fun t e pc _ n => loopAct f.fin t e pc n) s

end Sys2Proof.Machine
end

