-- ==== Sys2Proof/Machine/SyncCmd.lean ====
section
/-! DEFINITION. The commands of class 0x04 and the event that ends a phase wait: semaphores, barriers, elections (10 R269 to
R277). -/

namespace Sys2Proof.Machine

open Sys2Proof

/-! ### Semaphores -/

/-- Die and index a descriptor names, or SYNC-ARG or SYNC-ACCESS (10 R262, R269). `clro` says that bit 11 is a field. -/
def State.semArg (s : State) (k : Nat) (a : DWord) (clro : Bool) : Except Stop (Nat × Nat) := do
  need (fld a 63 12 == 0 && (clro || !a.getLsbD 11)) (trapC Code.syncArg)
  let d := if a.getLsbD 10 then fld a 9 8 else dieOf k
  need (s.semGranted (s.sk k).info.launch d (fld a 7 0)) (trapC Code.syncAccess)
  .ok (d, fld a 7 0)

/-- The scope of a semaphore for a task: die for its own die's, package for another's (10 R271, R272). -/
def semScope (k d : Nat) : Nat := if d = dieOf k then 1 else 2

def execSwait (f : LW) (s : State) : Out :=
  cLong f true true (fun k s => do
    let t := s.tk k
    let q := t.getS f.b
    need (fld q 63 33 == 0) (trapC Code.syncArg)
    let (d, i) ← s.semArg k (t.getS f.a) false
    let n := fld q 31 0
    let m := s.sem d i
    if n = 0 then do
      let s ← s.stampGate k f.stamp
      .ok (s.acquireAt k (semScope k d))
    else match t.cmd with
    | some (.sem _ _ _) => .error (.wait false)
    | _ =>
      if m.q.isEmpty ∧ n ≤ m.value then do
        let s ← s.stampGate k f.stamp
        let s := s.updSem d i (fun m => { m with value := if q.getLsbD 32 then m.value else m.value - n })
        .ok ((s.acquireAt k (semScope k d)).onInfo k (fun i => i.raiseClk m.clk))
      else
        let s := s.updSem d i (fun m => { m with q := m.q ++ [.task k n (q.getLsbD 32)] })
        .error (.park (s.onTk k (fun t => { t with cmd := some (.sem d i f.tok) })))) s

def execSsig (f : LW) (s : State) : Out :=
  cLong f true true (fun k s => do
    let (d, i) ← s.semArg k ((s.tk k).getS f.a) false
    let s ← s.stampGate k f.stamp
    let s ← s.releaseAt k (semScope k d)
    let c := (s.sk k).info.sclk + 1
    .ok ((s.onInfo k TaskInfo.tickClk).semInc d i c)) s

def execSadd (f : LW) (s : State) : Out :=
  cLong f true true (fun k s => do
    let t := s.tk k
    let (d, i) ← s.semArg k (t.getS f.a) false
    let old := (s.sem d i).value
    let new : Int := (old : Int) + signExt (t.getS f.b).toNat 32
    need (decide (0 ≤ new) && decide (new ≤ 0xFFFFFFFF)) (trapC Code.semRange)
    let s ← s.stampGate k f.stamp
    let s ← s.releaseAt k (semScope k d)
    let c := (s.sk k).info.sclk + 1
    let s := s.updSem d i (fun m => { m with value := new.toNat, clk := min (max m.clk c) 0xFFFFFFFF })
    let s := (s.onInfo k TaskInfo.tickClk).onTk k (fun t => t.setS f.d (dw old))
    .ok (s.semRun d i)) s

/-- What SRDV reads (10 R273). -/
def Sem.word (m : Sem) : DWord := dw (place (min m.q.length 255) 8 33 + place (b2n m.sov) 1 32 + m.value % 2 ^ 32)

def execSrdv (f : LW) (s : State) : Out :=
  cLong f true true (fun k s => do
    let a := (s.tk k).getS f.a
    let (d, i) ← s.semArg k a true
    let s ← s.stampGate k f.stamp
    let w := (s.sem d i).word
    let s := if a.getLsbD 11 then s.updSem d i (fun m => { m with sov := false }) else s
    .ok (s.onTk k (fun t => t.setS f.d w))) s

/-! ### Groups -/

def execBara (f : LW) (s : State) : Out :=
  cLong f true true (fun k s => do
    let (team, g, w) ← s.groupArg k ((s.tk k).getS f.a)
    need (!s.hasArrived k team g) (.wait false)
    let s ← s.stampGate k f.stamp
    let p := (s.group k team g).phase
    let s ← s.arrive k team g w false
    .ok (s.onTk k (fun t => t.setS f.d (dw p)))) s

def execBarw (f : LW) (s : State) : Out :=
  cLong f true true (fun k s => do
    let t := s.tk k
    let (team, g, w) ← s.groupArg k (t.getS f.a)
    let p := fld (t.getS f.b) 31 0
    let s ← if (s.group k team g).passed p then s.stampGate k f.stamp else .ok s
    s.phaseWait k team g p w false ⟨f.d, f.tok⟩) s

def execBar (f : LW) (s : State) : Out := barrier false f s
def execElect (f : LW) (s : State) : Out := barrier true f s

/-- A phase wait ends after its phase has completed (10 R275). At D2 and D3 it ends in a turn of its task (15 R391). -/
def execPhaseWaitResume (sk : Nat) (s : State) : Out :=
  let x := s.sk sk
  match x.t.cmd with
  | some (.phase g p w elect r) =>
    event (x.busy && x.halted.isNone && x.t.c.st == .run && decide (s.levelOf sk < 2)) s (fun s =>
      let team := x.info.teamId.toNat
      let s := s.tryPhase x.info.launch team g
      if (s.group sk team g).passed p ∧ (s.tk sk).cmd.isSome then (s.phaseEnd sk team g p w elect r.d).retire sk .C 8 r.tok else s)
  | _ => .next s

end Sys2Proof.Machine
end

