-- ==== Sys2Proof/Machine/VecQuant.lean ====
section
/-! DEFINITION. The quantisation pipeline (06 R153 to R157, 03 R75). -/

namespace Sys2Proof.Machine

open Sys2Proof

/-- Slot of the oldest pending entry (06 R153). -/
def Issue.oldest (t : Issue) : Nat := (t.wp + 16 - t.qn) % 8

/-! ### VQMAX -/

/-- The absolute maximum of a block of FP32 codes (06 R154); a signalling NaN raises no flag (log 57). -/
def absMax (daz : Bool) (xs : List Nat) : Nat :=
  xs.foldl (fun m x =>
    let v := fp32.daz daz x % 2 ^ 31
    if 0x7F800000 < v ∨ m = 0x7FC00000 then 0x7FC00000 else max m v) 0

/-- Floor(Log2) of a positive FP32 code. -/
def log2Code (x : Nat) : Int :=
  match fp32.decode x with
  | .fin _ m e => (Nat.log2 m : Int) + e
  | _ => 0

/-- Ceil(Log2(x / d)) of a positive FP32 code: the least k with x ≤ d × 2^k. -/
def ceilLog2Div (x d : Nat) : Int :=
  match fp32.decode x with
  | .fin _ m e =>
    let k : Int := (Nat.log2 m : Int) - Nat.log2 d
    -- m ≤ d × 2^j for the least j, which lies within one of k
    let le (j : Int) : Bool := if 0 ≤ j then decide (m ≤ d <<< j.toNat) else decide (m <<< (-j).toNat ≤ d)
    e + (if le (k - 1) then k - 1 else if le k then k else k + 1)
  | _ => 0

/-- EMAX of an MX type (06 R155). -/
def mxEmax (ty : Nat) : Int :=
  match ty with
  | 0x0D => 8 | 0x0E => 15 | 0x0F => 4 | 0x10 => 2 | 0x11 => 2 | _ => 0

/-- Mmax of a DX type (06 R155). -/
def dxMax (ty : Nat) : Nat := 2 ^ (elemBits ty - 2) - 1

def clampInt (lo hi v : Int) : Int := max lo (min hi v)

/-- ChooseScale: the scale bytes of a block (06 R155); the rounding of an FB scale raises no flag (log 57). -/
def chooseScale (ty amax : Nat) : List Nat :=
  let special := decide (0x7F800000 ≤ amax)
  match familyOf ty with
  | .plain => []
  | .mx =>
    [if special then 0xFF else if amax = 0 then 0 else (clampInt 0 254 (log2Code amax - mxEmax ty + 127)).toNat]
  | .dx =>
    if special then [0xFF, 0xFF]
    else if amax = 0 then [0, 0]
    else
      let x1 := clampInt 0 254 (127 + ceilLog2Div amax (dxMax ty))
      [(max 0 (x1 - ((elemBits ty : Int) - 2))).toNat, x1.toNat]
  | .fb =>
    if special then [0x7F]
    else if amax = 0 then [0]
    else
      let (q, st, _) := (fp32.decode amax).div (.fin false (if ty = 0x16 then 6 else 7) 0)
      match q with
      | .fin _ m e => [(e4m3.round { md := .rup, satf := true } false m e st).1]
      | _ => [0x7F]

/-- Elements in a block of a target type of `n` elements: a plain target has one block (06 R154). -/
def quantBlock (ty n : Nat) : Nat := if familyOf ty = .plain then n else blockLen ty
/-- Number of blocks. -/
def quantBlocks (ty n : Nat) : Nat := if n = 0 then 0 else ceilDiv n (quantBlock ty n)

/-- Elements of block `j`. -/
def blockElems (ty n j : Nat) : List Nat :=
  let b := quantBlock ty n
  (List.range (min ((j + 1) * b) n - j * b)).map (fun i => j * b + i)

/-- A list of bytes as one number. -/
def packBytes : List Nat → Nat
  | [] => 0
  | b :: r => b % 256 + 256 * packBytes r

def execVqmax (f : VL) (s : State) : Out :=
  vWord 8 f [vA f] (fun t xs =>
    if 8 ≤ t.qn then .error (trapC Code.quantWindow)
    else
      let x := srcAt xs 0
      let ty := f.ty.toNat
      let n := t.count 32
      let nb := quantBlocks ty n
      let amax := (List.range nb).map (fun j => absMax (fcDAZ t.fpctl) ((blockElems ty n j).map (x.el 32)))
      let bad := (List.range nb).map (fun j => (blockElems ty n j).any (x.bad 32))
      let u := { f with men := false }
      let copy := vFold t u n 32 32 false (fun _ i => (x.el 32 i, 0, x.bad 32 i))
      let res := vFold t u nb 32 32 false (fun _ j => (amax.getD j 0, 0, bad.getD j false))
      let ent : WinEnt :=
        { ty := ty, n := n, scales := BitVec.ofNat 2048 (packBytes (amax.flatMap (chooseScale ty)))
          poison := BitVec.ofNat 256 (bad.foldr (fun b a => b2n b + 2 * a) 0), valid := true }
      let t := (t.vreg (56 + t.wp) copy).vreg f.d.toNat res
      .ok { t with win := Tbl.set {} t.win t.wp ent, wp := (t.wp + 1) % 8, qn := t.qn + 1 }) s

/-! ### VQCVT, VQCVTX -/

/-- x divided by the scale: VQCVT multiplies by the reciprocal rounded once per block, VQCVTX divides (03 R75). -/
def scaled (exact : Bool) (x s rcp : FVal) : FVal × Bool × FlagSet :=
  if exact then x.div s else let (p, nv) := x.mul rcp; (p, false, flIf nv flNV)

/-- The reciprocal of a block, RNE in FP32 and never flushed (03 R75). -/
def blockRcp (exact : Bool) (s : FVal) : FVal × FlagSet :=
  if exact then (.nan false, 0)
  else
    let (q, st, fl) := (FVal.fin false 1 0).div s
    let (u, fl') := fp32.put {} q st
    (fp32.decode u, fl ||| fl')

/-- An MXINT8 code: a multiple of 2^−6 within ±127 × 2^−6 (06 R156). -/
def mxInt8 (c : RCtx) (v : FVal) (st : Bool) : Nat × FlagSet :=
  match v.scale2 6 with
  | .nan _ => (0, flNV)
  | .inf n => (wrapN (if n then -127 else 127) 8, flSAT ||| flNX)
  | .fin n m e =>
    let (k, nx) := roundAt c n m e 0 st
    if 127 < k then (wrapN (if n then -127 else 127) 8, flSAT ||| flNX)
    else (wrapN (if n then -(k : Int) else k) 8, flIf nx flNX)

/-- A quotient put into the element format of a target that is no DX type (06 R156). -/
def quantElem (ty : Nat) (c : RCtx) (v : FVal) (st : Bool) : Nat × FlagSet :=
  if ty = 0x12 then mxInt8 c v st
  else if ty = 0x17 then toIntFmt 4 true c v st
  else
    let code := match ty with
      | 0x0D => 4 | 0x0E => 5 | 0x0F => 6 | 0x10 => 7 | 0x11 => 8 | 0x16 => 8 | c => c
    match floatFmt code, intFmt code with
    | some F, _ => F.conv c v st
    | none, some (w, sg) => toIntFmt w sg c v st
    | none, none => (0, 0)

/-- A DX element (06 R156): its code from the block's two exponents. -/
def quantDx (ty : Nat) (c : RCtx) (x0 x1 : Nat) (v : FVal) : Nat × FlagSet :=
  let w := elemBits ty
  let mmax := dxMax ty
  let mk (l sg : Bool) (m : Nat) : Nat := b2n l * 2 ^ (w - 1) + b2n sg * 2 ^ (w - 2) + m
  match v with
  | .nan _ => (0, flNV)
  | .inf n => (mk true n mmax, flSAT)
  | .fin n m e =>
    let (k0, i0) := roundAt c n m (e + 127 - x0) 0 false
    if k0 ≤ mmax then (mk false n k0, flIf i0 flNX)
    else
      let (k1, i1) := roundAt c n m (e + 127 - x1) 0 false
      (mk true n (min k1 mmax), flIf (i0 || i1) flNX ||| flIf (mmax < k1) (flSAT ||| flNX))

/-- The scale of a block: none when it is NaN (06 R156). -/
def blockScale (ty : Nat) (sc : Nat → Nat) (plain : Nat) (j : Nat) : Option FVal :=
  match familyOf ty with
  | .plain => some (fp32.decode plain)
  | .mx => if sc j = 0xFF then none else some (.fin false 1 ((sc j : Int) - 127))
  | .dx => if sc (2 * j) = 0xFF ∨ sc (2 * j + 1) = 0xFF then none else some (.fin false 1 0)
  | .fb => if sc j = 0x7F then none else some (e4m3.decode (sc j))

/-- One element of an entry. An FB block with a zero scale sets ZS; its zeros become NaN under the row s = ±0 of 03 R75, and so the code
zero, while values written over the window saturate (06 R156, R164). -/
def quantOne (ty : Nat) (exact : Bool) (sc : Nat → Nat) (plain : Nat) (c : RCtx) (j : Nat) (x : FVal) : Nat × FlagSet :=
  match blockScale ty sc plain j with
  | none => (0, flNV)
  | some s =>
    if familyOf ty = .dx then quantDx ty c (sc (2 * j)) (sc (2 * j + 1)) x
    else
      let (r, fl) := blockRcp exact s
      let (v, st, fl') := scaled exact x s r
      let (u, fl'') := quantElem ty c v st
      (u, fl ||| fl' ||| fl'' ||| flIf (familyOf ty == .fb && s.isZero) flZS)

/-- Lanes of the scale plane that hold a byte of a poisoned block. -/
def scalePoison (ty nb : Nat) (p : BitVec 256) (lane : Nat) : Bool :=
  (List.range 4).any (fun i => let b := (4 * lane + i) / blockScales ty; decide (b < nb) && p.getLsbD b)

/-- VQCVT and VQCVTX (06 R156). -/
def vQuant (exact : Bool) (f : VL) (s : State) : Out :=
  vWord 8 f [] (fun t _ =>
    let ty := f.ty.toNat
    let slot := t.oldest
    let e := Tbl.look {} t.win slot
    if t.qn = 0 ∨ e.ty ≠ ty then .error (trapC Code.quantWindow)
    else
      let daz := fcDAZ t.fpctl
      let x : VSrc := { data := (t.getV (56 + slot)).toNat, poison := (t.getVP (56 + slot)).toNat }
      let plain := fp32.daz daz ((t.getV f.b.toNat).extractLsb' 0 32).toNat
      let sc (i : Nat) : Nat := (byteAt e.scales i).toNat
      let w := elemBits ty
      let nb := quantBlocks ty e.n
      let sr := t.rmode f == .sr
      let r := vFold t { f with men := false } e.n w w sr (fun draw i =>
        let c : RCtx := ⟨t.rmode f, draw, fcSATF t.fpctl, false⟩
        let (u, fl) := quantOne ty exact sc plain c (i / quantBlock ty e.n) (fp32.decodeDaz daz (x.el 32 i))
        (u, fl, x.bad 32 i || (familyOf ty == .plain && (t.getVP f.b.toNat).getLsbD 0)))
      let t := t.vwrite f r
      let bytes := nb * blockScales ty
      let t := if familyOf ty = .plain then t else
        let lanes := ceilDiv bytes 4
        let po := (List.range lanes).foldl (fun a l => if scalePoison ty nb e.poison l then a ||| 1 <<< l else a) 0
        t.setV f.b.toNat (insertBits (t.getV f.b.toNat) 0 (8 * bytes) e.scales.toNat)
          (insertBits (t.getVP f.b.toNat) 0 lanes po)
      .ok { t with win := Tbl.set {} t.win slot {}, qn := t.qn - 1 }) s

def execVqcvt (f : VL) (s : State) : Out := vQuant false f s
def execVqcvtx (f : VL) (s : State) : Out := vQuant true f s

end Sys2Proof.Machine
end

