-- ==== Sys2Proof/Machine/VecReduce.lean ====
section
/-! DEFINITION. Reductions (06 R158). -/

namespace Sys2Proof.Machine

open Sys2Proof

/-- The reductions. -/
inductive RedOp where
  | sum | max | min | amax
  deriving DecidableEq, Repr

/-- One level of the tree: neighbours combined, left operand first; an absent node gives way to the other (06 R158). -/
def redPairs (comb : Nat → Nat → Nat × FlagSet) : List (Option Nat) → List (Option Nat) × FlagSet
  | a :: b :: r =>
    let (rest, fl) := redPairs comb r
    match a, b with
    | some x, some y => let (z, fl') := comb x y; (some z :: rest, fl ||| fl')
    | some x, none => (some x :: rest, fl)
    | none, y => (y :: rest, fl)
  | l => (l, 0)

/-- The whole tree, in `fuel` levels. -/
def redTree (comb : Nat → Nat → Nat × FlagSet) : Nat → List (Option Nat) → FlagSet → Option Nat × FlagSet
  | 0, l, fl => (l.head?.bind id, fl)
  | n + 1, l, fl =>
    let (l', fl') := redPairs comb l
    redTree comb n l' (fl ||| fl')

/-- How an active element enters the tree: DAZ reads it, not the nodes above it, and VREDAMAX of a signalling NaN raises no flag
(log 57). -/
def RedOp.leaf (op : RedOp) (ty : Nat) (daz : Bool) (x : Nat) : Nat :=
  match floatFmt ty, intFmt ty with
  | some F, _ =>
    let x := F.daz daz x
    if op = .amax then (if (F.decode x).isNan then F.dnan else x % 2 ^ (F.w - 1)) else x
  | none, some (w, sg) => if op = .amax then (intVal w sg x).natAbs else x
  | none, none => x

/-- Combine (06 R158): sums round RNE, with R69 and R72 as FPCTL has them (log 51). -/
def RedOp.comb (op : RedOp) (ty : Nat) (ftz satf : Bool) (x y : Nat) : Nat × FlagSet :=
  match floatFmt ty, intFmt ty with
  | some F, _ =>
    match op with
    | .sum =>
      let (v, nv) := (F.decode x).add false (F.decode y)
      let (u, fl) := F.put { ftz := ftz, satf := satf } v false
      (u, fl ||| flIf nv flNV)
    | .max => F.minMax true x y
    | .min => F.minMax false x y
    | .amax => (Nat.max x y, 0)
  | none, some (_, sg) =>
    (match op with
      | .sum => (x + y) % 2 ^ 32
      | .max => VOp.int .max sg x y
      | .min => VOp.int .min sg x y
      | .amax => Nat.max x y, 0)
  | none, none => (x, 0)

/-- Identity (06 R158). -/
def RedOp.ident (op : RedOp) (ty : Nat) : Nat :=
  match op, floatFmt ty, intFmt ty with
  | .max, some F, _ => F.infCode true
  | .min, some F, _ => F.infCode false
  | .max, none, some (w, sg) => wrapN (intLo w sg) w
  | .min, none, some (w, sg) => wrapN (intHi w sg) w
  | _, _, _ => 0

/-- Widen: what the k register receives (06 R158). -/
def RedOp.widen (op : RedOp) (ty x : Nat) : DWord :=
  if ty = 0x18 ∧ op ≠ .amax then wrapD (signExt x 32) else dw x

def vReduce (op : RedOp) (f : VL) (s : State) : Out :=
  vWord 8 f [vA f] (fun t xs =>
    let ty := f.ty.toNat
    let w := elemBits ty
    let x := srcAt xs 0
    let is := List.range (t.count w)
    let nodes := is.map (fun i => if active t f w i then some (op.leaf ty (fcDAZ t.fpctl) (x.el w i)) else none)
    let (r, fl) := redTree (op.comb ty (fcFTZ t.fpctl) (fcSATF t.fpctl)) 11 nodes 0
    let bad := is.any (fun i => active t f w i && x.bad w i)
    .ok ((t.setK f.d.toNat (op.widen ty (r.getD (op.ident ty))) bad).vleave fl t.drawState)) s

def execVredsum (f : VL) (s : State) : Out := vReduce .sum f s
def execVredmax (f : VL) (s : State) : Out := vReduce .max f s
def execVredmin (f : VL) (s : State) : Out := vReduce .min f s
def execVredamax (f : VL) (s : State) : Out := vReduce .amax f s

end Sys2Proof.Machine
end

