-- ==== Sys2Proof/Machine/VecPermute.lean ====
section
/-! DEFINITION. Permutes and moves of 32-bit lanes, and VCFG (06 R139, R159). -/

namespace Sys2Proof.Machine

open Sys2Proof

def execVcfg (f : VL) (s : State) : Out :=
  vWord 8 f [] (fun t _ => do
    let n ← t.kCount f.a
    let vl := min n 2048
    .ok { t.setK f.d.toNat (dw vl) false with vl := vl }) s

/-- A lane of a source, with its poison. -/
def VSrc.lane (x : VSrc) (j : Nat) : VElem := (x.el 32 j, 0, x.bad 32 j)

/-- An instruction that makes each lane below VL from its sources. -/
def vLanes (len : Nat) (f : VL) (os : List VOpnd) (op : Issue → List VSrc → Nat → VElem) (s : State) : Out :=
  vElem len 32 f os (fun _ => false) (fun t xs _ i => op t xs i) s

def permLane (t : Issue) (xs : List VSrc) (i : Nat) : VElem :=
  let j := (srcAt xs 1).el 32 i
  let pi := (srcAt xs 1).bad 32 i
  if j < t.vl then
    let (x, fl, p) := (srcAt xs 0).lane j
    (x, fl, p || pi)
  else (0, 0, pi)

def execVperm (f : VL) (s : State) : Out := vLanes 8 f [vA f, vB f] permLane s

def movLane (_ : Issue) (xs : List VSrc) (i : Nat) : VElem := (srcAt xs 0).lane i

def execVmov (f : VR) (s : State) : Out := vLanes 4 (twinR f 0x18) [vA (twinR f 0x18)] movLane s
def execVmovLong (f : VL) (s : State) : Out := vLanes 8 f [vA f] movLane s
def execVbcast (f : VK) (s : State) : Out := vLanes 4 (twinK f 0x18) [kB (twinK f 0x18)] movLane s
def execVbcastLong (f : VL) (s : State) : Out := vLanes 8 f [kB f] movLane s

/-- A slide by the k register of VB: `from_` gives the lane each result lane takes, none for zero. -/
def vSlide (len : Nat) (f : VL) (from_ : Nat → Nat → Nat → Option Nat) (s : State) : Out :=
  vWord len f [vA f] (fun t xs => do
    let n ← t.kCount f.b
    .ok (t.vwrite f (vFold t f (t.count 32) 32 32 false
      (fun _ i => match from_ t.vl n i with
        | some j => (srcAt xs 0).lane j
        | none => (0, 0, false))))) s

def slideUp (_ n i : Nat) : Option Nat := if n ≤ i then some (i - n) else none
def slideDown (vl n i : Nat) : Option Nat := if i + n < vl then some (i + n) else none

def execVslup (f : VK) (s : State) : Out := vSlide 4 (twinK f 0x18) slideUp s
def execVsldn (f : VK) (s : State) : Out := vSlide 4 (twinK f 0x18) slideDown s
def execVslupLong (f : VL) (s : State) : Out := vSlide 8 f slideUp s
def execVsldnLong (f : VL) (s : State) : Out := vSlide 8 f slideDown s

/-- VIOTA: the lane's index, or how many set mask bits stand before it. -/
def execViota (f : VL) (s : State) : Out :=
  vLanes 8 f [] (fun t _ i =>
    (if f.men then popBits i ((t.getM f.msk.toNat).toNat % 2 ^ i) else i, 0, false)) s

/-- VCOMPR: active lanes packed from lane 0; the lanes from their count to VL follow MZ; kb takes the count. -/
def execVcompr (f : VL) (s : State) : Out :=
  vWord 8 f [vA f] (fun t xs =>
    let src := (List.range t.vl).filter (fun i => active t f 32 i)
    let c := src.length
    let r : VRes := src.zipIdx.foldl (fun (r : VRes) (i, j) =>
      let (x, fl, bad) := (srcAt xs 0).lane i
      r.put 32 j x bad fl) { seed := t.drawState }
    let r := if f.mz then (List.range (t.vl - c)).foldl (fun r j => r.put 32 (c + j) 0 false 0) r else r
    .ok ((t.vwrite f r).setK f.b.toNat (dw c) false)) s

def execVext (f : VL) (s : State) : Out :=
  vWord 8 f [vA f] (fun t xs => do
    let n ← t.kCount f.b
    let (x, _, bad) := if n < 2048 then (srcAt xs 0).lane n else (0, 0, false)
    .ok (t.setK f.d.toNat (dw x) bad)) s

def execVins (f : VL) (s : State) : Out :=
  vWord 8 f [] (fun t _ => do
    let n ← t.kCount f.b
    let r : VRes := { seed := t.drawState }
    .ok (if n < 2048 then t.vreg f.d.toNat (r.put 32 n (t.getK f.a.toNat).toNat (t.getKP f.a.toNat) 0) else t)) s

end Sys2Proof.Machine
end

