-- ==== Sys2Proof/Machine/VecScalar.lean ====
section
/-! DEFINITION. The k instructions, SEND.V and RECV.V (06 R162, R163). -/

namespace Sys2Proof.Machine

open Sys2Proof

/-- A one-word instruction of the V-engine on k registers. -/
def kWord (tok : BitVec 4) (recv send : Option Fifo) (body : Issue → Except Stop Issue) (s : State) : Out :=
  .next (s.issue s.cur .V 4 tok recv send false (fun s => do
    let t ← body (s.tk s.cur)
    .ok (s.onTk s.cur (fun _ => t))))

def execKli (f : VI) (s : State) : Out :=
  kWord f.tok none none (fun t => .ok (t.setK f.kd.toNat (f.imm.signExtend 64) false)) s

def execKadd (f : VR) (s : State) : Out :=
  kWord f.tok none none (fun t =>
    .ok (t.setK f.d.toNat (t.getK f.a.toNat + t.getK f.b.toNat) (t.getKP f.a.toNat || t.getKP f.b.toNat))) s

def execKmov (f : VR) (s : State) : Out :=
  kWord f.tok none none (fun t => .ok (t.setK f.d.toNat (t.getK f.a.toNat) (t.getKP f.a.toNat))) s

def vSend (f : VR) (q : Fifo) (s : State) : Out :=
  kWord f.tok none (some q) (fun t =>
    if t.getKP f.a.toNat then .error (poisonUse f.a.toNat) else .ok (t.pushFifo q (.full (t.getK f.a.toNat)))) s

def vRecv (f : VR) (q : Fifo) (s : State) : Out :=
  kWord f.tok (some q) none (fun t => .ok ((t.setK f.d.toNat (t.recvVal .V f.tok q) false).popFifo q)) s

def execSendVVc (f : VR) (s : State) : Out := vSend f .vc s
def execSendVVa (f : VR) (s : State) : Out := vSend f .va s
def execRecvVCv (f : VR) (s : State) : Out := vRecv f .cv s
def execRecvVAv (f : VR) (s : State) : Out := vRecv f .av s

end Sys2Proof.Machine
end

