-- ==== Sys2Proof/Machine/VecTable.lean ====
section
/-! DEFINITION. Table interpolation (06 R160, R161). -/

namespace Sys2Proof.Machine

open Sys2Proof

/-- A table as read: XLO, HINV, NSEG, CLAMP and the lanes it stands in (06 R160). -/
structure TluTab where
  xlo : FVal
  hinv : FVal
  nseg : Nat
  clamp : Bool
  src : VSrc

def tluTab (x : VSrc) : TluTab := ⟨fp32.decode (x.el 32 0), fp32.decode (x.el 32 1), x.el 32 2, (x.el 32 3).testBit 0, x⟩

/-- Coefficient `c` of segment `s`. -/
def TluTab.coef (t : TluTab) (s c : Nat) : FVal := fp32.decode (t.src.el 32 (4 + 4 * s + c))

/-- RoundRNE into FP32 of an exact result with its NV, and the flags; SATF chooses what an overflow gives (03 R66, R72, log 51). -/
def rne32 (satf : Bool) (r : FVal × Bool) : FVal × FlagSet :=
  let (u, fl) := fp32.put { satf := satf } r.1 false
  (fp32.decode u, fl ||| flIf r.2 flNV)

def sub32 (satf : Bool) (a b : FVal) : FVal × FlagSet := rne32 satf (a.add false b.neg)
def mul32 (satf : Bool) (a b : FVal) : FVal × FlagSet := rne32 satf (a.mul b)
def fma32 (satf : Bool) (a b c : FVal) : FVal × FlagSet := rne32 satf (a.fma false b c)

/-- Segment and offset within it of a position p that is no NaN (06 R161), with the flags of the step. DESIGN CHOICE (log 58): the rule does not
give the sign of f where p is -0, which only the sign of a zero result could show: f is +0 here. -/
def TluTab.place (t : TluTab) (satf : Bool) (p : FVal) : Nat × FVal × FlagSet :=
  let zero : FVal := .fin false 0 0
  if p.cmp zero < 0 then (0, if t.clamp then zero else p, 0)
  else if 0 ≤ p.cmp (FVal.ofInt t.nseg) then
    if t.clamp then (t.nseg - 1, .fin false 1 0, 0)
    else let (f, fl) := sub32 satf p (FVal.ofInt ((t.nseg : Int) - 1)); (t.nseg - 1, f, fl)
  else match p with
    | .fin _ m e =>
      let s := if 0 ≤ e then m <<< e.toNat else m >>> (-e).toNat
      (s, (p.add false (FVal.ofInt (-(s : Int)))).1, 0)
    | p => (0, p, 0)

/-- The result of one element as a value, its flags, and the segment read, if any (06 R161). -/
def TluTab.eval (t : TluTab) (deriv satf : Bool) (x : FVal) : FVal × FlagSet × Option Nat :=
  if t.nseg = 0 ∨ 256 < t.nseg then (.nan false, flNV, none)
  else
    let (u, f1) := sub32 satf x t.xlo
    let (p, f2) := mul32 satf u t.hinv
    if p.isNan then (.nan false, f1 ||| f2, none)
    else
      let (s, f, f3) := t.place satf p
      let outside := p.cmp (.fin false 0 0) < 0 ∨ 0 ≤ p.cmp (FVal.ofInt t.nseg)
      if deriv then
        let (c, f4) := mul32 satf (.fin false 2 0) (t.coef s 2)
        let (d, f5) := fma32 satf c f (t.coef s 1)
        if t.clamp ∧ outside then (.fin false 0 0, f1 ||| f2 ||| f3 ||| f4 ||| f5, some s)
        else
          let (y, f6) := mul32 satf d t.hinv
          (y, f1 ||| f2 ||| f3 ||| f4 ||| f5 ||| f6, some s)
      else
        let (a, f4) := fma32 satf (t.coef s 2) f (t.coef s 1)
        let (y, f5) := fma32 satf a f (t.coef s 0)
        (y, f1 ||| f2 ||| f3 ||| f4 ||| f5, some s)

/-- Whether a table lane that an element reads is poisoned: the header, and its segment's coefficients, C0 for VTLU only. -/
def tabBad (deriv : Bool) (x : VSrc) (seg : Option Nat) : Bool :=
  (x.poison % 16 != 0) || (match seg with
    | some s => if deriv then (x.poison >>> (5 + 4 * s)) % 4 != 0 else (x.poison >>> (4 + 4 * s)) % 8 != 0
    | none => false)

def vTable (deriv : Bool) (f : VL) (s : State) : Out :=
  vElem 8 32 f [vA f, vB f] (fun _ => false) (fun t xs _ i =>
    let tab := srcAt xs 1
    let satf := fcSATF t.fpctl
    let (y, fl, seg) := (tluTab tab).eval deriv satf (fp32.decodeDaz (fcDAZ t.fpctl) ((srcAt xs 0).el 32 i))
    let (u, fl') := fp32.put { ftz := fcFTZ t.fpctl, satf := satf } y false
    (u, fl ||| fl', (srcAt xs 0).bad 32 i || tabBad deriv tab seg)) s

def execVtlu (f : VL) (s : State) : Out := vTable false f s
def execVtld (f : VL) (s : State) : Out := vTable true f s

end Sys2Proof.Machine
end

