-- ==== Sys2Proof/Machine/Dispatch.lean ====
section
/-! DEFINITION. One arm per constructor of Instr: an instruction word or an event, and its meaning. -/

namespace Sys2Proof.Machine

open Sys2Proof

def exec (i : Instr) (s : State) : Host.Outcome State Fault Refusal :=
  match i with
  | .nop f => Sys2Proof.Machine.execNop f s
  | .add f => Sys2Proof.Machine.execAdd f s
  | .sub f => Sys2Proof.Machine.execSub f s
  | .mul f => Sys2Proof.Machine.execMul f s
  | .mulh f => Sys2Proof.Machine.execMulh f s
  | .mulhn f => Sys2Proof.Machine.execMulhn f s
  | .div f => Sys2Proof.Machine.execDiv f s
  | .divn f => Sys2Proof.Machine.execDivn f s
  | .rem f => Sys2Proof.Machine.execRem f s
  | .remn f => Sys2Proof.Machine.execRemn f s
  | .and f => Sys2Proof.Machine.execAnd f s
  | .or f => Sys2Proof.Machine.execOr f s
  | .xor f => Sys2Proof.Machine.execXor f s
  | .andn f => Sys2Proof.Machine.execAndn f s
  | .shl f => Sys2Proof.Machine.execShl f s
  | .shr f => Sys2Proof.Machine.execShr f s
  | .sra f => Sys2Proof.Machine.execSra f s
  | .rot f => Sys2Proof.Machine.execRot f s
  | .min f => Sys2Proof.Machine.execMin f s
  | .max f => Sys2Proof.Machine.execMax f s
  | .minn f => Sys2Proof.Machine.execMinn f s
  | .maxn f => Sys2Proof.Machine.execMaxn f s
  | .slt f => Sys2Proof.Machine.execSlt f s
  | .sltn f => Sys2Proof.Machine.execSltn f s
  | .seq f => Sys2Proof.Machine.execSeq f s
  | .sel f => Sys2Proof.Machine.execSel f s
  | .clz f => Sys2Proof.Machine.execClz f s
  | .ctz f => Sys2Proof.Machine.execCtz f s
  | .popc f => Sys2Proof.Machine.execPopc f s
  | .bfx f => Sys2Proof.Machine.execBfx f s
  | .bfi f => Sys2Proof.Machine.execBfi f s
  | .addi f => Sys2Proof.Machine.execAddi f s
  | .andi f => Sys2Proof.Machine.execAndi f s
  | .ori f => Sys2Proof.Machine.execOri f s
  | .xori f => Sys2Proof.Machine.execXori f s
  | .shli f => Sys2Proof.Machine.execShli f s
  | .shri f => Sys2Proof.Machine.execShri f s
  | .srai f => Sys2Proof.Machine.execSrai f s
  | .ldc f => Sys2Proof.Machine.execLdc f s
  | .stc f => Sys2Proof.Machine.execStc f s
  | .li f => Sys2Proof.Machine.execLi f s
  | .lih f => Sys2Proof.Machine.execLih f s
  | .addpc f => Sys2Proof.Machine.execAddpc f s
  | .srd f => Sys2Proof.Machine.execSrd f s
  | .swt f => Sys2Proof.Machine.execSwt f s
  | .sendCa f => Sys2Proof.Machine.execSendCa f s
  | .sendCv f => Sys2Proof.Machine.execSendCv f s
  | .recvAc f => Sys2Proof.Machine.execRecvAc f s
  | .recvVc f => Sys2Proof.Machine.execRecvVc f s
  | .beq f => Sys2Proof.Machine.execBeq f s
  | .bne f => Sys2Proof.Machine.execBne f s
  | .blt f => Sys2Proof.Machine.execBlt f s
  | .bge f => Sys2Proof.Machine.execBge f s
  | .bltn f => Sys2Proof.Machine.execBltn f s
  | .bgen f => Sys2Proof.Machine.execBgen f s
  | .jmp f => Sys2Proof.Machine.execJmp f s
  | .call f => Sys2Proof.Machine.execCall f s
  | .jmpLong f => Sys2Proof.Machine.execJmpLong f s
  | .callLong f => Sys2Proof.Machine.execCallLong f s
  | .callr f => Sys2Proof.Machine.execCallr f s
  | .ret f => Sys2Proof.Machine.execRet f s
  | .loop f => Sys2Proof.Machine.execLoop f s
  | .loopr f => Sys2Proof.Machine.execLoopr f s
  | .loopm f => Sys2Proof.Machine.execLoopm f s
  | .ldI8 f => Sys2Proof.Machine.execLdI8 f s
  | .ldN8 f => Sys2Proof.Machine.execLdN8 f s
  | .ldI16 f => Sys2Proof.Machine.execLdI16 f s
  | .ldN16 f => Sys2Proof.Machine.execLdN16 f s
  | .ldI32 f => Sys2Proof.Machine.execLdI32 f s
  | .ldN32 f => Sys2Proof.Machine.execLdN32 f s
  | .ld64 f => Sys2Proof.Machine.execLd64 f s
  | .st8 f => Sys2Proof.Machine.execSt8 f s
  | .st16 f => Sys2Proof.Machine.execSt16 f s
  | .st32 f => Sys2Proof.Machine.execSt32 f s
  | .st64 f => Sys2Proof.Machine.execSt64 f s
  | .ldIndexed f => Sys2Proof.Machine.execLdIndexed f s
  | .ldIndexedS f => Sys2Proof.Machine.execLdIndexedS f s
  | .stIndexed f => Sys2Proof.Machine.execStIndexed f s
  | .ldI8S f => Sys2Proof.Machine.execLdI8S f s
  | .ldN8S f => Sys2Proof.Machine.execLdN8S f s
  | .ldI16S f => Sys2Proof.Machine.execLdI16S f s
  | .ldN16S f => Sys2Proof.Machine.execLdN16S f s
  | .ldI32S f => Sys2Proof.Machine.execLdI32S f s
  | .ldN32S f => Sys2Proof.Machine.execLdN32S f s
  | .ld64S f => Sys2Proof.Machine.execLd64S f s
  | .vld f => Sys2Proof.Machine.execVld f s
  | .vldS f => Sys2Proof.Machine.execVldS f s
  | .vst f => Sys2Proof.Machine.execVst f s
  | .vlds f => Sys2Proof.Machine.execVlds f s
  | .vldsS f => Sys2Proof.Machine.execVldsS f s
  | .vldx f => Sys2Proof.Machine.execVldx f s
  | .vldxS f => Sys2Proof.Machine.execVldxS f s
  | .vsts f => Sys2Proof.Machine.execVsts f s
  | .vstx f => Sys2Proof.Machine.execVstx f s
  | .adda f => Sys2Proof.Machine.execAdda f s
  | .suba f => Sys2Proof.Machine.execSuba f s
  | .mova f => Sys2Proof.Machine.execMova f s
  | .sendAAc f => Sys2Proof.Machine.execSendAAc f s
  | .sendAAv f => Sys2Proof.Machine.execSendAAv f s
  | .recvACa f => Sys2Proof.Machine.execRecvACa f s
  | .recvAVa f => Sys2Proof.Machine.execRecvAVa f s
  | .addai f => Sys2Proof.Machine.execAddai f s
  | .shla f => Sys2Proof.Machine.execShla f s
  | .mulai f => Sys2Proof.Machine.execMulai f s
  | .lia f => Sys2Proof.Machine.execLia f s
  | .spld f => Sys2Proof.Machine.execSpld f s
  | .spldVector f => Sys2Proof.Machine.execSpldVector f s
  | .spst f => Sys2Proof.Machine.execSpst f s
  | .spstVector f => Sys2Proof.Machine.execSpstVector f s
  | .lda f => Sys2Proof.Machine.execLda f s
  | .stl f => Sys2Proof.Machine.execStl f s
  | .fence f => Sys2Proof.Machine.execFence f s
  | .aadd f => Sys2Proof.Machine.execAadd f s
  | .aand f => Sys2Proof.Machine.execAand f s
  | .aor f => Sys2Proof.Machine.execAor f s
  | .axor f => Sys2Proof.Machine.execAxor f s
  | .aswap f => Sys2Proof.Machine.execAswap f s
  | .acas f => Sys2Proof.Machine.execAcas f s
  | .amin f => Sys2Proof.Machine.execAmin f s
  | .amax f => Sys2Proof.Machine.execAmax f s
  | .aminn f => Sys2Proof.Machine.execAminn f s
  | .amaxn f => Sys2Proof.Machine.execAmaxn f s
  | .waita f => Sys2Proof.Machine.execWaita f s
  | .pfb f => Sys2Proof.Machine.execPfb f s
  | .chkp f => Sys2Proof.Machine.execChkp f s
  | .chkpQueue f => Sys2Proof.Machine.execChkpQueue f s
  | .vadd f => Sys2Proof.Machine.execVadd f s
  | .vsub f => Sys2Proof.Machine.execVsub f s
  | .vmul f => Sys2Proof.Machine.execVmul f s
  | .vmin f => Sys2Proof.Machine.execVmin f s
  | .vmax f => Sys2Proof.Machine.execVmax f s
  | .vand f => Sys2Proof.Machine.execVand f s
  | .vor f => Sys2Proof.Machine.execVor f s
  | .vxor f => Sys2Proof.Machine.execVxor f s
  | .vmov f => Sys2Proof.Machine.execVmov f s
  | .vnot f => Sys2Proof.Machine.execVnot f s
  | .vabs f => Sys2Proof.Machine.execVabs f s
  | .vneg f => Sys2Proof.Machine.execVneg f s
  | .vaddK f => Sys2Proof.Machine.execVaddK f s
  | .vsubK f => Sys2Proof.Machine.execVsubK f s
  | .vmulK f => Sys2Proof.Machine.execVmulK f s
  | .vminK f => Sys2Proof.Machine.execVminK f s
  | .vmaxK f => Sys2Proof.Machine.execVmaxK f s
  | .vshl f => Sys2Proof.Machine.execVshl f s
  | .vshr f => Sys2Proof.Machine.execVshr f s
  | .vsra f => Sys2Proof.Machine.execVsra f s
  | .vbcast f => Sys2Proof.Machine.execVbcast f s
  | .vslup f => Sys2Proof.Machine.execVslup f s
  | .vsldn f => Sys2Proof.Machine.execVsldn f s
  | .kli f => Sys2Proof.Machine.execKli f s
  | .kadd f => Sys2Proof.Machine.execKadd f s
  | .kmov f => Sys2Proof.Machine.execKmov f s
  | .sendVVc f => Sys2Proof.Machine.execSendVVc f s
  | .sendVVa f => Sys2Proof.Machine.execSendVVa f s
  | .recvVCv f => Sys2Proof.Machine.execRecvVCv f s
  | .recvVAv f => Sys2Proof.Machine.execRecvVAv f s
  | .vcfg f => Sys2Proof.Machine.execVcfg f s
  | .vaddLong f => Sys2Proof.Machine.execVaddLong f s
  | .vsubLong f => Sys2Proof.Machine.execVsubLong f s
  | .vmulLong f => Sys2Proof.Machine.execVmulLong f s
  | .vfma f => Sys2Proof.Machine.execVfma f s
  | .vfms f => Sys2Proof.Machine.execVfms f s
  | .vfnma f => Sys2Proof.Machine.execVfnma f s
  | .vdiv f => Sys2Proof.Machine.execVdiv f s
  | .vsqrt f => Sys2Proof.Machine.execVsqrt f s
  | .vrcp f => Sys2Proof.Machine.execVrcp f s
  | .vrsq f => Sys2Proof.Machine.execVrsq f s
  | .vminLong f => Sys2Proof.Machine.execVminLong f s
  | .vmaxLong f => Sys2Proof.Machine.execVmaxLong f s
  | .vabsLong f => Sys2Proof.Machine.execVabsLong f s
  | .vnegLong f => Sys2Proof.Machine.execVnegLong f s
  | .vcpys f => Sys2Proof.Machine.execVcpys f s
  | .vandLong f => Sys2Proof.Machine.execVandLong f s
  | .vorLong f => Sys2Proof.Machine.execVorLong f s
  | .vxorLong f => Sys2Proof.Machine.execVxorLong f s
  | .vnotLong f => Sys2Proof.Machine.execVnotLong f s
  | .vshlLong f => Sys2Proof.Machine.execVshlLong f s
  | .vshrLong f => Sys2Proof.Machine.execVshrLong f s
  | .vsraLong f => Sys2Proof.Machine.execVsraLong f s
  | .vadds f => Sys2Proof.Machine.execVadds f s
  | .vsubs f => Sys2Proof.Machine.execVsubs f s
  | .vcmp f => Sys2Proof.Machine.execVcmp f s
  | .vsel f => Sys2Proof.Machine.execVsel f s
  | .vmop f => Sys2Proof.Machine.execVmop f s
  | .vcvt f => Sys2Proof.Machine.execVcvt f s
  | .vqmax f => Sys2Proof.Machine.execVqmax f s
  | .vqcvt f => Sys2Proof.Machine.execVqcvt f s
  | .vqcvtx f => Sys2Proof.Machine.execVqcvtx f s
  | .vredsum f => Sys2Proof.Machine.execVredsum f s
  | .vredmax f => Sys2Proof.Machine.execVredmax f s
  | .vredmin f => Sys2Proof.Machine.execVredmin f s
  | .vredamax f => Sys2Proof.Machine.execVredamax f s
  | .vperm f => Sys2Proof.Machine.execVperm f s
  | .vslupLong f => Sys2Proof.Machine.execVslupLong f s
  | .vsldnLong f => Sys2Proof.Machine.execVsldnLong f s
  | .vbcastLong f => Sys2Proof.Machine.execVbcastLong f s
  | .viota f => Sys2Proof.Machine.execViota f s
  | .vcompr f => Sys2Proof.Machine.execVcompr f s
  | .vext f => Sys2Proof.Machine.execVext f s
  | .vins f => Sys2Proof.Machine.execVins f s
  | .vmovLong f => Sys2Proof.Machine.execVmovLong f s
  | .vtlu f => Sys2Proof.Machine.execVtlu f s
  | .vtld f => Sys2Proof.Machine.execVtld f s
  | .spawn f => Sys2Proof.Machine.execSpawn f s
  | .spawnl f => Sys2Proof.Machine.execSpawnl f s
  | .join f => Sys2Proof.Machine.execJoin f s
  | .tend f => Sys2Proof.Machine.execTend f s
  | .yield f => Sys2Proof.Machine.execYield f s
  | .galloc f => Sys2Proof.Machine.execGalloc f s
  | .gfree f => Sys2Proof.Machine.execGfree f s
  | .greshape f => Sys2Proof.Machine.execGreshape f s
  | .glease f => Sys2Proof.Machine.execGlease f s
  | .grel f => Sys2Proof.Machine.execGrel f s
  | .gfmt f => Sys2Proof.Machine.execGfmt f s
  | .gmma f => Sys2Proof.Machine.execGmma f s
  | .gdrain f => Sys2Proof.Machine.execGdrain f s
  | .gzero f => Sys2Proof.Machine.execGzero f s
  | .gsave f => Sys2Proof.Machine.execGsave f s
  | .grest f => Sys2Proof.Machine.execGrest f s
  | .gstat f => Sys2Proof.Machine.execGstat f s
  | .cpy f => Sys2Proof.Machine.execCpy f s
  | .cpyg f => Sys2Proof.Machine.execCpyg f s
  | .cpys f => Sys2Proof.Machine.execCpys f s
  | .cpyr f => Sys2Proof.Machine.execCpyr f s
  | .cwait f => Sys2Proof.Machine.execCwait f s
  | .ctest f => Sys2Proof.Machine.execCtest f s
  | .swait f => Sys2Proof.Machine.execSwait f s
  | .ssig f => Sys2Proof.Machine.execSsig f s
  | .sadd f => Sys2Proof.Machine.execSadd f s
  | .srdv f => Sys2Proof.Machine.execSrdv f s
  | .bar f => Sys2Proof.Machine.execBar f s
  | .bara f => Sys2Proof.Machine.execBara f s
  | .barw f => Sys2Proof.Machine.execBarw f s
  | .elect f => Sys2Proof.Machine.execElect f s
  | .fwrd f => Sys2Proof.Machine.execFwrd f s
  | .fwstep f => Sys2Proof.Machine.execFwstep f s
  | .fwstepFrw f => Sys2Proof.Machine.execFwstepFrw f s
  | .fwstepFwr f => Sys2Proof.Machine.execFwstepFwr f s
  | .fwseq f => Sys2Proof.Machine.execFwseq f s
  | .fwgrad f => Sys2Proof.Machine.execFwgrad f s
  | .fwfade f => Sys2Proof.Machine.execFwfade f s
  | .fwzero f => Sys2Proof.Machine.execFwzero f s
  | .fwld f => Sys2Proof.Machine.execFwld f s
  | .fwst f => Sys2Proof.Machine.execFwst f s
  | .shnew f => Sys2Proof.Machine.execShnew f s
  | .shsnap f => Sys2Proof.Machine.execShsnap f s
  | .shfork f => Sys2Proof.Machine.execShfork f s
  | .shavg f => Sys2Proof.Machine.execShavg f s
  | .shroll f => Sys2Proof.Machine.execShroll f s
  | .shmove f => Sys2Proof.Machine.execShmove f s
  | .shpin f => Sys2Proof.Machine.execShpin f s
  | .shfree f => Sys2Proof.Machine.execShfree f s
  | .shstat f => Sys2Proof.Machine.execShstat f s
  | .trap f => Sys2Proof.Machine.execTrap f s
  | .sysc f => Sys2Proof.Machine.execSysc f s
  | .brk f => Sys2Proof.Machine.execBrk f s
  | .eretResume f => Sys2Proof.Machine.execEretResume f s
  | .tlbi f => Sys2Proof.Machine.execTlbi f s
  | .cwb f => Sys2Proof.Machine.execCwb f s
  | .cinv f => Sys2Proof.Machine.execCinv f s
  | .ppt f => Sys2Proof.Machine.execPpt f s
  | .dsetMerge f => Sys2Proof.Machine.execDsetMerge f s
  | .rlogStatus f => Sys2Proof.Machine.execRlogStatus f s
  | .mcackAck f => Sys2Proof.Machine.execMcackAck f s
  | .eretEndTask f => Sys2Proof.Machine.execEretEndTask f s
  | .eretHandlerEnd f => Sys2Proof.Machine.execEretHandlerEnd f s
  | .dsetAdvance f => Sys2Proof.Machine.execDsetAdvance f s
  | .rlogRelease f => Sys2Proof.Machine.execRlogRelease f s
  | .rlogClose f => Sys2Proof.Machine.execRlogClose f s
  | .mcackRerun f => Sys2Proof.Machine.execMcackRerun f s
  | .mcackEndLaunch f => Sys2Proof.Machine.execMcackEndLaunch f s
  | .jobctlRestart f => Sys2Proof.Machine.execJobctlRestart f s
  | .jobctlAbort f => Sys2Proof.Machine.execJobctlAbort f s
  | .engineDeadlock sk => Sys2Proof.Machine.execEngineDeadlock sk s
  | .loadDataArrival sk q n => Sys2Proof.Machine.execLoadDataArrival sk q n s
  | .pageWalkComplete die asid va => Sys2Proof.Machine.execPageWalkComplete die asid va s
  | .cacheEviction die line => Sys2Proof.Machine.execCacheEviction die line s
  | .waitaWake sk => Sys2Proof.Machine.execWaitaWake sk s
  | .waitaTimeout sk => Sys2Proof.Machine.execWaitaTimeout sk s
  | .prefetchComplete sk id => Sys2Proof.Machine.execPrefetchComplete sk id s
  | .dequePop sk => Sys2Proof.Machine.execDequePop sk s
  | .stealClaim thief victim => Sys2Proof.Machine.execStealClaim thief victim s
  | .stealTake thief => Sys2Proof.Machine.execStealTake thief s
  | .taskStart sk => Sys2Proof.Machine.execTaskStart sk s
  | .completionRelease sk => Sys2Proof.Machine.execCompletionRelease sk s
  | .joinSpinExpiry sk => Sys2Proof.Machine.execJoinSpinExpiry sk s
  | .taskResume sk => Sys2Proof.Machine.execTaskResume sk s
  | .notify die slot qid => Sys2Proof.Machine.execNotify die slot qid s
  | .packetCapture die slot => Sys2Proof.Machine.execPacketCapture die slot s
  | .dispatchDecision die => Sys2Proof.Machine.execDispatchDecision die s
  | .batchDraw launch die => Sys2Proof.Machine.execBatchDraw launch die s
  | .teamSliceExpiry launch team => Sys2Proof.Machine.execTeamSliceExpiry launch team s
  | .levelChange die slot => Sys2Proof.Machine.execLevelChange die slot s
  | .launchEnd launch => Sys2Proof.Machine.execLaunchEnd launch s
  | .dieLost die => Sys2Proof.Machine.execDieLost die s
  | .preemptionRequest sk pt => Sys2Proof.Machine.execPreemptionRequest sk pt s
  | .checkpoint sk => Sys2Proof.Machine.execCheckpoint sk s
  | .drainTimeout sk => Sys2Proof.Machine.execDrainTimeout sk s
  | .trapEntry sk => Sys2Proof.Machine.execTrapEntry sk s
  | .asyncFaultDelivery sk => Sys2Proof.Machine.execAsyncFaultDelivery sk s
  | .handlerTimeout sk => Sys2Proof.Machine.execHandlerTimeout sk s
  | .leaseGrant die slab => Sys2Proof.Machine.execLeaseGrant die slab s
  | .leaseRevocation die slab => Sys2Proof.Machine.execLeaseRevocation die slab s
  | .jobWindowAccept sk => Sys2Proof.Machine.execJobWindowAccept sk s
  | .griddleJobStart die slab => Sys2Proof.Machine.execGriddleJobStart die slab s
  | .griddleJobComplete die slab => Sys2Proof.Machine.execGriddleJobComplete die slab s
  | .griddleJobHalt die slab => Sys2Proof.Machine.execGriddleJobHalt die slab s
  | .greshapeAct die slab => Sys2Proof.Machine.execGreshapeAct die slab s
  | .gfreeRelease die slab => Sys2Proof.Machine.execGfreeRelease die slab s
  | .colanderJobStart die win => Sys2Proof.Machine.execColanderJobStart die win s
  | .colanderChunkLand die win chunk => Sys2Proof.Machine.execColanderChunkLand die win chunk s
  | .colanderJobComplete die win => Sys2Proof.Machine.execColanderJobComplete die win s
  | .colanderJobHalt die win chunk => Sys2Proof.Machine.execColanderJobHalt die win chunk s
  | .phaseWaitResume sk => Sys2Proof.Machine.execPhaseWaitResume sk s
  | .whiskAccept sk => Sys2Proof.Machine.execWhiskAccept sk s
  | .whiskJobStart die => Sys2Proof.Machine.execWhiskJobStart die s
  | .whiskCommit die => Sys2Proof.Machine.execWhiskCommit die s
  | .whiskJobHalt die => Sys2Proof.Machine.execWhiskJobHalt die s
  | .ladlePageIn h => Sys2Proof.Machine.execLadlePageIn h s
  | .ladleEviction die => Sys2Proof.Machine.execLadleEviction die s
  | .handleCommandAccept sk => Sys2Proof.Machine.execHandleCommandAccept sk s
  | .shnewAction h => Sys2Proof.Machine.execShnewAction h s
  | .shsnapAction h => Sys2Proof.Machine.execShsnapAction h s
  | .shforkAction h => Sys2Proof.Machine.execShforkAction h s
  | .shavgAction h => Sys2Proof.Machine.execShavgAction h s
  | .shrollAction h => Sys2Proof.Machine.execShrollAction h s
  | .shmoveAction h => Sys2Proof.Machine.execShmoveAction h s
  | .shpinAction h => Sys2Proof.Machine.execShpinAction h s
  | .shfreeAction h => Sys2Proof.Machine.execShfreeAction h s
  | .handleMoveReceive m => Sys2Proof.Machine.execHandleMoveReceive m s
  | .handleMoveAck h => Sys2Proof.Machine.execHandleMoveAck h s
  | .roundClose launch => Sys2Proof.Machine.execRoundClose launch s
  | .sfcTick launch => Sys2Proof.Machine.execSfcTick launch s
  | .stampOverrun sk => Sys2Proof.Machine.execStampOverrun sk s
  | .replayDivergence die qid => Sys2Proof.Machine.execReplayDivergence die qid s
  | .hostCxlAccess x => Sys2Proof.Machine.execHostCxlAccess x s
  | .backInvalidateResponse line => Sys2Proof.Machine.execBackInvalidateResponse line s
  | .ingestFrameArrival port frame => Sys2Proof.Machine.execIngestFrameArrival port frame s
  | .ingestRecordWrite port stream => Sys2Proof.Machine.execIngestRecordWrite port stream s
  | .benvasPacketReceive link via flits => Sys2Proof.Machine.execBenvasPacketReceive link via flits s
  | .benvasAckReceive link seq => Sys2Proof.Machine.execBenvasAckReceive link seq s
  | .benvasNakReceive link seq => Sys2Proof.Machine.execBenvasNakReceive link seq s
  | .ackTimer link => Sys2Proof.Machine.execAckTimer link s
  | .replayTimeout link => Sys2Proof.Machine.execReplayTimeout link s
  | .laneFailure link lane => Sys2Proof.Machine.execLaneFailure link lane s
  | .linkRetrainComplete link wide => Sys2Proof.Machine.execLinkRetrainComplete link wide s
  | .fullWidthRetry link ok => Sys2Proof.Machine.execFullWidthRetry link ok s
  | .melperLaneLoss lane => Sys2Proof.Machine.execMelperLaneLoss lane s
  | .ucieLinkRetrain dieA dieB ok => Sys2Proof.Machine.execUcieLinkRetrain dieA dieB ok s
  | .machineCheck e => Sys2Proof.Machine.execMachineCheck e s
  | .mcAckTimeout die seq => Sys2Proof.Machine.execMcAckTimeout die seq s
  | .refreshRow die stack row => Sys2Proof.Machine.execRefreshRow die stack row s
  | .hbmOverTemperature die stack => Sys2Proof.Machine.execHbmOverTemperature die stack s
  | .hbmTemperatureRecovery die stack => Sys2Proof.Machine.execHbmTemperatureRecovery die stack s
  | .spinelHeartbeat die stack => Sys2Proof.Machine.execSpinelHeartbeat die stack s
  | .refreshTakeover die stack handover => Sys2Proof.Machine.execRefreshTakeover die stack handover s
  | .spinelResume die stack => Sys2Proof.Machine.execSpinelResume die stack s
  | .scrubRead die granule found => Sys2Proof.Machine.execScrubRead die granule found s
  | .scrubWriteBack die granule => Sys2Proof.Machine.execScrubWriteBack die granule s
  | .plateRepair die plate => Sys2Proof.Machine.execPlateRepair die plate s
  | .skilletSpareMap die logical => Sys2Proof.Machine.execSkilletSpareMap die logical s
  | .crockBankRemap die bank => Sys2Proof.Machine.execCrockBankRemap die bank s
  | .postPackageRepair die stack row => Sys2Proof.Machine.execPostPackageRepair die stack row s
  | .powerManagerStep down => Sys2Proof.Machine.execPowerManagerStep down s
  | .thermalThrottle => Sys2Proof.Machine.execThermalThrottle s
  | .thermalRecovery => Sys2Proof.Machine.execThermalRecovery s
  | .thermalTrip => Sys2Proof.Machine.execThermalTrip s
  | .coldReset => Sys2Proof.Machine.execColdReset s
  | .updateStartTimeout comp => Sys2Proof.Machine.execUpdateStartTimeout comp s
  | .hostTlbi die => Sys2Proof.Machine.execHostTlbi die s
  | .layinv die v => Sys2Proof.Machine.execLayinv die v s
  | .registerWrite off v => Sys2Proof.Machine.execRegisterWrite off v s
  | .mapq => Sys2Proof.Machine.execMapq s
  | .unmapq => Sys2Proof.Machine.execUnmapq s
  | .destroyq => Sys2Proof.Machine.execDestroyq s
  | .freeh => Sys2Proof.Machine.execFreeh s
  | .ttreg => Sys2Proof.Machine.execTtreg s
  | .window => Sys2Proof.Machine.execWindow s
  | .rdrep => Sys2Proof.Machine.execRdrep s
  | .mcackh => Sys2Proof.Machine.execMcackh s
  | .endl => Sys2Proof.Machine.execEndl s
  | .stream => Sys2Proof.Machine.execStream s
  | .route => Sys2Proof.Machine.execRoute s
  | .inbound => Sys2Proof.Machine.execInbound s
  | .update => Sys2Proof.Machine.execUpdate s
  | .attest => Sys2Proof.Machine.execAttest s
  | .ident => Sys2Proof.Machine.execIdent s
  | .hostSnoop die line inv => Sys2Proof.Machine.execHostSnoop die line inv s
  | .launchClassification launch die ops bytes => Sys2Proof.Machine.execLaunchClassification launch die ops bytes s
  | .componentStart comp => Sys2Proof.Machine.execComponentStart comp s
  | .powerLoss => Sys2Proof.Machine.execPowerLoss s

end Sys2Proof.Machine
end

