-- ==== Sys2Proof/Machine/Step.lean ====
section
/-! DEFINITION. One step of the machine: the next choice of the agenda, or a decode step of the current engine (01 R16), and
the state in which a given instruction is fetched next. -/

namespace Sys2Proof.Machine

open Sys2Proof

/-- The instruction a decode step of an engine found is run; without one the engine's own state moves. Words that
decode to none raise ILLEGAL-OP (02 R44). -/
noncomputable def runEngine (s : State) (k : Nat) (e : Engine) : Host.Outcome State Fault Refusal :=
  match s.fetchStep k e with
  | .moved s' => .next s'
  | .word w0 w1 s' =>
    match decodeWords w0 w1 with
    | .ok i => exec i { s' with cur := k, curEng := e }
    | .error _ =>
      if tagOf w0 == 3 && e != .C then .next (s'.stallAt k e true)
      else .next (s'.raise k e { code := Code.illegalOp })

/-- One step (log 2): the head of the agenda after its delay, else a decode step of the current engine. Without power only
COLD_RESET acts. -/
noncomputable def step (s : State) : Host.Outcome State Fault Refusal :=
  match s.agenda with
  | [] => if s.powered then runEngine s s.cur s.curEng else .fault .unpowered
  | (dt, c) :: rest =>
    let s' := { s with agenda := rest, now := s.now + dt }
    match c with
    | .engine k e => if s.powered then runEngine { s' with cur := k, curEng := e } k e else .fault .unpowered
    | .event i =>
      if i.isEvent then (if s.powered || i == .coldReset then exec i s' else .fault .unpowered)
      else .refused .notAnEvent

/-- `s` with the given instruction where the next step fetches: launch 1 of context 1 runs on Skillet 0, whose three engines
stand at 0x10000; a translation of that page stands in die 0's TLB; the engine the word's tag names acts next (log 7). -/
def State.withFetchWord (s : State) (nbits w : Nat) : State :=
  let e : Engine := match bitsN w 31 30 with
    | 1 => .A
    | 2 => .V
    | _ => .C
  fetchSetup s e (leBytes 8 (w % 2 ^ nbits))

end Sys2Proof.Machine
end

