-- ==== Sys2Proof/Safety.lean ====
section
/-! DEFINITION. What claims about steps and runs are said in: memories in canonical form, an engine that may issue, an instruction that
has retired, what an instruction leaves alone, and a run that is safe. -/

namespace Sys2Proof.Machine

open Sys2Proof

/-- Device memory and host memory stand in canonical form. -/
abbrev State.memOk (s : State) : Prop := Memory.wf s.mem = true ∧ Memory.wf s.hostMem = true

/-! ### The current engine -/

/-- The current Skillet runs a task, and engine `e` finds the entries and places its word's token field names (01 R22, R24). -/
abbrev State.mayIssue (s : State) (e : Engine) (tok : BitVec 4) (recv send : Option Fifo) : Prop :=
  (s.sk s.cur).busy = true ∧ (s.tk s.cur).tokReady e tok recv send = true

/-- Engine `e` of the current Skillet stands in no hardware loop (04 R103) and its task is not single-stepped (12 R307), so that a word's
advance is its length; the C-engine has no earlier command in hand. -/
abbrev State.straight (s : State) (e : Engine) : Prop :=
  ((s.tk s.cur).eng e).loops = [] ∧ (s.sk s.cur).info.step = none ∧ (e = .C → (s.tk s.cur).cmd = none)

/-- The current task's launch runs at D0 or D1, or its handler runs: commands have no turns and no stamps (15 R391, R395). -/
abbrev State.noTurns (s : State) : Prop := (s.sk s.cur).handler.isSome = true ∨ s.levelOf s.cur < 2

/-- `t` is `s` after engine `e` of the current Skillet has retired a word of `len` bytes: its program counter has moved past the word
and it issues on, where an exception would have left the program counter and stopped the engine (01 R16, R23, 12 R295). -/
def State.retired (s t : State) (e : Engine) (len : Nat) : Prop :=
  ((t.tk s.cur).eng e).pc = ((s.tk s.cur).eng e).pc + BitVec.ofNat 56 len ∧ ((t.tk s.cur).eng e).st = ((s.tk s.cur).eng e).st

/-- `t` is `s` after engine `e` of the current Skillet has taken the exception `code` at the instruction where it stands: the program
counter has not moved, the engine has stopped with the report, and the other engines are asked to stop (12 R295, R296). -/
def State.trapped (s t : State) (e : Engine) (code : Nat) : Prop :=
  ((t.tk s.cur).eng e).pc = ((s.tk s.cur).eng e).pc ∧ (t.sk s.cur).info.stop = some .trap ∧
    ∃ r, ((t.tk s.cur).eng e).st = .faulted r ∧ r.code = code ∧ r.eng = e.num

/-- `t` is `s` after engine `e` of the current Skillet has taken ILLEGAL-OP, which reports the address of the instruction's first word (02 R44). -/
def State.illegal (s t : State) (e : Engine) : Prop :=
  s.trapped t e Code.illegalOp ∧ ∃ r, ((t.tk s.cur).eng e).st = .faulted r ∧ r.addr = ((s.tk s.cur).eng e).pc.setWidth 64

/-- The C-engine finds what a long-form command's token field names, and may act on it at once: no loop, no single step, no command in hand,
no turn and no stamp to wait for. -/
abbrev State.mayCommand (s : State) (f : LW) : Prop := s.mayIssue .C f.tok none none ∧ s.straight .C ∧ s.noTurns

/-- The die of the current Skillet holds no remote-dirty line, and no back-invalidation is outstanding: a release has nothing to wait for or
to write (08 R187, R197). -/
abbrev State.quiet (s : State) : Prop := (s.die (dieOf s.cur)).dirty = [] ∧ s.backInv = []

/-! ### What an instruction leaves alone -/

/-- Two issue states hold the same registers of every kind: s, a with poison, k with poison, masks, v with poison, VL, the quantisation
window, the C-store, SLIPW, FPCTL, SRSEED, REMT, mailboxes, and what a V-engine word that has issued leaves at its retirement (01 R29, 03 R71, 04
R93, 06 R153). -/
abbrev Issue.sameRegs (t u : Issue) : Prop :=
  t.s = u.s ∧ t.ar = u.ar ∧ t.aP = u.aP ∧ t.k = u.k ∧ t.kP = u.kP ∧ t.m = u.m ∧ t.vr = u.vr ∧ t.vP = u.vP ∧ t.vl = u.vl ∧
    t.wp = u.wp ∧ t.qn = u.qn ∧ t.win = u.win ∧ t.cst = u.cst ∧ t.slipw = u.slipw ∧ t.fpctl = u.fpctl ∧ t.srseed = u.srseed ∧
    t.remt = u.remt ∧ t.mbox = u.mbox ∧ t.vret = u.vret

/-- Every byte of device and host memory, every die with its caches, semaphores, slabs and jobs, every handle and link, every other
Skillet, and the current Skillet's handler registers and scratchpad are as before. -/
def State.sameElse (s t : State) : Prop :=
  t.mem = s.mem ∧ t.hostMem = s.hostMem ∧ t.dies = s.dies ∧ t.handles = s.handles ∧ t.links = s.links ∧
    (∀ j, j ≠ s.cur → t.sk j = s.sk j) ∧ (t.sk s.cur).handler = (s.sk s.cur).handler ∧ (t.sk s.cur).scr = (s.sk s.cur).scr

/-- Engine `e` of Skillet `k` has its next decode step before it (01 R16): the Skillet runs a task and is not halted; the engine runs, is
not held by a single step of another engine (12 R307), has no reported fault to take first (12 R296), no back edge pending (04 R103); and
its task has had its first turn or needs none (15 R391). -/
abbrev State.fetches (s : State) (k : Nat) (e : Engine) : Prop :=
  (s.sk k).busy = true ∧ (s.sk k).halted = none ∧ ((s.tk k).eng e).st = .run ∧ ((s.tk k).eng e).edge = none ∧
    ((s.sk k).handler.isSome = true ∨ (s.sk k).info.step = none ∨ (s.sk k).info.step = some e) ∧
    (e = .C → (s.sk k).handler = none → (s.sk k).info.pend = []) ∧
    ((s.sk k).info.started = true ∨ s.levelOf k < 2)

/-- The command `i` completes at `s`: it leads to `t`, the C-engine past the command, the task's registers those of `u`, no byte of device
memory changed. -/
def State.completes (s t : State) (i : Instr) (u : Issue) : Prop :=
  exec i s = .next t ∧ s.retired t .C 8 ∧ (t.tk s.cur).sameRegs u ∧ t.mem = s.mem

/-- The command `i` waits at `s`: it leads to `t`, in which the C-engine stands where it stood with the command `c` in hand, its registers and
memory as before. -/
def State.waits (s t : State) (i : Instr) (c : PendCmd) : Prop :=
  exec i s = .next t ∧ (t.tk s.cur).c.pc = (s.tk s.cur).c.pc ∧ (t.tk s.cur).cmd = some c ∧ (t.tk s.cur).sameRegs (s.tk s.cur) ∧ t.mem = s.mem

/-! ### Runs -/

/-- A run of `n` steps that ends neither in a fault nor in a refusal. -/
def State.runsSafely (s : State) (n : Nat) : Prop := ∃ t, Sys2Proof.core.run n s = .next t

end Sys2Proof.Machine
end

