-- ==== Sys2Proof/Claims.lean ====
section
/-! DEFINITION. What rules of the spec say, written out again for the claims to compare the meanings with: results of the register
instructions, and which operands and operations an instruction names. -/

namespace Sys2Proof.Machine

open Sys2Proof

/-! ### C-engine (04 R83 to R90, R96) -/

/-- Quotient of DIV on signed operands (04 R84). -/
def quotRule (x y : Int) : Int := if y = 0 then -1 else if x = -(2 ^ 63) ∧ y = -1 then -(2 ^ 63) else Int.tdiv x y

/-- Remainder of REM on signed operands (04 R84). -/
def remRule (x y : Int) : Int := if y = 0 then x else if x = -(2 ^ 63) ∧ y = -1 then 0 else x - Int.tdiv x y * y

/-- The control word of BFX and BFI (04 R87): position and length. -/
def posRule (b : DWord) : Nat := (b.extractLsb' 0 6).toNat
def lenRule (b : DWord) : Nat := min (b.extractLsb' 8 7).toNat (64 - posRule b)

/-- BFX and BFI (04 R87): the field of `a`, its sign extended where SX says so; `d` with the low bits of `a` put into its field. -/
def bfxRule (a b : DWord) : DWord :=
  let top := (a >>> posRule b) <<< (64 - lenRule b)
  if lenRule b = 0 then 0 else if b.getLsbD 15 then top.sshiftRight (64 - lenRule b) else top >>> (64 - lenRule b)
def bfiRule (d a b : DWord) : DWord :=
  let field : DWord := (BitVec.ofNat 64 (2 ^ lenRule b - 1)) <<< posRule b
  d &&& ~~~field ||| a <<< posRule b &&& field

/-- A C-engine instruction that writes one s register from registers alone: its token field, the register, the value (04 R83 to R90). NOP
writes nothing (04 R96). -/
def scalarRule : Instr → Option (BitVec 4 × BitVec 6 × (Issue → DWord))
  | .nop f => some (f.tok, 0, fun _ => 0)
  | .add f => some (f.tok, f.d, fun t => t.getS f.a + t.getS f.b)
  | .sub f => some (f.tok, f.d, fun t => t.getS f.a - t.getS f.b)
  | .mul f => some (f.tok, f.d, fun t => t.getS f.a * t.getS f.b)
  | .mulh f => some (f.tok, f.d, fun t => BitVec.ofInt 64 ((t.getS f.a).toInt * (t.getS f.b).toInt / 2 ^ 64))
  | .mulhn f => some (f.tok, f.d, fun t => BitVec.ofNat 64 ((t.getS f.a).toNat * (t.getS f.b).toNat / 2 ^ 64))
  | .div f => some (f.tok, f.d, fun t => BitVec.ofInt 64 (quotRule (t.getS f.a).toInt (t.getS f.b).toInt))
  | .rem f => some (f.tok, f.d, fun t => BitVec.ofInt 64 (remRule (t.getS f.a).toInt (t.getS f.b).toInt))
  | .divn f => some (f.tok, f.d, fun t =>
      if t.getS f.b = 0 then BitVec.allOnes 64 else BitVec.ofNat 64 ((t.getS f.a).toNat / (t.getS f.b).toNat))
  | .remn f => some (f.tok, f.d, fun t =>
      if t.getS f.b = 0 then t.getS f.a else BitVec.ofNat 64 ((t.getS f.a).toNat % (t.getS f.b).toNat))
  | .and f => some (f.tok, f.d, fun t => t.getS f.a &&& t.getS f.b)
  | .or f => some (f.tok, f.d, fun t => t.getS f.a ||| t.getS f.b)
  | .xor f => some (f.tok, f.d, fun t => t.getS f.a ^^^ t.getS f.b)
  | .andn f => some (f.tok, f.d, fun t => t.getS f.a &&& ~~~t.getS f.b)
  | .shl f => some (f.tok, f.d, fun t => t.getS f.a <<< ((t.getS f.b).toNat % 64))
  | .shr f => some (f.tok, f.d, fun t => t.getS f.a >>> ((t.getS f.b).toNat % 64))
  | .sra f => some (f.tok, f.d, fun t => BitVec.ofInt 64 ((t.getS f.a).toInt / 2 ^ ((t.getS f.b).toNat % 64)))
  | .rot f => some (f.tok, f.d, fun t =>
      t.getS f.a >>> ((t.getS f.b).toNat % 64) ||| t.getS f.a <<< (64 - (t.getS f.b).toNat % 64))
  | .min f => some (f.tok, f.d, fun t => if (t.getS f.a).toInt ≤ (t.getS f.b).toInt then t.getS f.a else t.getS f.b)
  | .max f => some (f.tok, f.d, fun t => if (t.getS f.a).toInt ≤ (t.getS f.b).toInt then t.getS f.b else t.getS f.a)
  | .minn f => some (f.tok, f.d, fun t => if (t.getS f.a).toNat ≤ (t.getS f.b).toNat then t.getS f.a else t.getS f.b)
  | .maxn f => some (f.tok, f.d, fun t => if (t.getS f.a).toNat ≤ (t.getS f.b).toNat then t.getS f.b else t.getS f.a)
  | .slt f => some (f.tok, f.d, fun t => if (t.getS f.a).toInt < (t.getS f.b).toInt then 1 else 0)
  | .sltn f => some (f.tok, f.d, fun t => if (t.getS f.a).toNat < (t.getS f.b).toNat then 1 else 0)
  | .seq f => some (f.tok, f.d, fun t => if t.getS f.a = t.getS f.b then 1 else 0)
  | .sel f => some (f.tok, f.d, fun t => if t.getS f.d ≠ 0 then t.getS f.a else t.getS f.b)
  | .clz f => some (f.tok, f.d, fun t => clzD (t.getS f.a))
  | .ctz f => some (f.tok, f.d, fun t => ctzD (t.getS f.a))
  | .popc f => some (f.tok, f.d, fun t => popD (t.getS f.a))
  | .bfx f => some (f.tok, f.d, fun t => bfxRule (t.getS f.a) (t.getS f.b))
  | .bfi f => some (f.tok, f.d, fun t => bfiRule (t.getS f.d) (t.getS f.a) (t.getS f.b))
  | .addi f => some (f.tok, f.d, fun t => t.getS f.a + f.imm.signExtend 64)
  | .andi f => some (f.tok, f.d, fun t => t.getS f.a &&& f.imm.signExtend 64)
  | .ori f => some (f.tok, f.d, fun t => t.getS f.a ||| f.imm.signExtend 64)
  | .xori f => some (f.tok, f.d, fun t => t.getS f.a ^^^ f.imm.signExtend 64)
  | .shli f => some (f.tok, f.d, fun t => t.getS f.a <<< (f.imm.toNat % 64))
  | .shri f => some (f.tok, f.d, fun t => t.getS f.a >>> (f.imm.toNat % 64))
  | .srai f => some (f.tok, f.d, fun t => BitVec.ofInt 64 ((t.getS f.a).toInt / 2 ^ (f.imm.toNat % 64)))
  | .li f => some (f.tok, f.d, fun _ => f.imm.signExtend 64)
  | .lih f => some (f.tok, f.d, fun t => t.getS f.d <<< 14 ||| f.imm.setWidth 64)
  | .addpc f => some (f.tok, f.d, fun t => t.c.pc.setWidth 64 + 4 * f.imm.signExtend 64)
  | _ => none

/-! ### Tokens and values between engines (01 R22, R24, 04 R95, 05 R125, 06 R163) -/

/-- The FIFOs an engine pops and pushes: first and second incoming, first and second outgoing (01 R21). -/
def incoming : Engine → Fifo × Fifo
  | .C => (.ac, .vc)
  | .A => (.ca, .va)
  | .V => (.cv, .av)
def outgoing : Engine → Fifo × Fifo
  | .C => (.ca, .cv)
  | .A => (.ac, .av)
  | .V => (.vc, .va)

/-- The FIFOs a token field pops and pushes: bits 2 and 3, bits 0 and 1 of it (01 R22). -/
def popsRule (e : Engine) (tok : BitVec 4) : List Fifo :=
  (if tok.getLsbD 2 then [(incoming e).1] else []) ++ (if tok.getLsbD 3 then [(incoming e).2] else [])
def pushesRule (e : Engine) (tok : BitVec 4) : List Fifo :=
  (if tok.getLsbD 0 then [(outgoing e).1] else []) ++ (if tok.getLsbD 1 then [(outgoing e).2] else [])

/-- A FIFO after an instruction that retires: the token field's pop takes its head, then a RECV from it takes the next entry; a SEND's value
enters it, then a bare token, which reads zero (01 R22, R24). -/
def Issue.fifoRule (t : Issue) (e : Engine) (tok : BitVec 4) (recv : Option Fifo) (send : Option (Fifo × DWord)) (g : Fifo) : List FifoEnt :=
  (t.fifo g).drop ((if g ∈ popsRule e tok then 1 else 0) + (if recv = some g then 1 else 0)) ++
    (match send with
      | some (q, x) => if q = g then [.full x] else []
      | none => []) ++ (if g ∈ pushesRule e tok then [.full 0] else [])

/-- A SEND: engine, token field, FIFO, value, whether its source is poisoned. -/
def sendRule : Instr → Option (Engine × BitVec 4 × Fifo × (Issue → DWord) × (Issue → Bool))
  | .sendCa f => some (.C, f.tok, .ca, fun t => t.getS f.a, fun _ => false)
  | .sendCv f => some (.C, f.tok, .cv, fun t => t.getS f.a, fun _ => false)
  | .sendAAc f => some (.A, f.tok, .ac, fun t => t.getA f.a, fun t => t.getAP f.a)
  | .sendAAv f => some (.A, f.tok, .av, fun t => t.getA f.a, fun t => t.getAP f.a)
  | .sendVVc f => some (.V, f.tok, .vc, fun t => t.getK f.a.toNat, fun t => t.getKP f.a.toNat)
  | .sendVVa f => some (.V, f.tok, .va, fun t => t.getK f.a.toNat, fun t => t.getKP f.a.toNat)
  | _ => none

/-- A RECV: engine, token field, FIFO, how the value is written. -/
def recvRule : Instr → Option (Engine × BitVec 4 × Fifo × (Issue → DWord → Issue))
  | .recvAc f => some (.C, f.tok, .ac, fun t x => t.setS f.d x)
  | .recvVc f => some (.C, f.tok, .vc, fun t x => t.setS f.d x)
  | .recvACa f => some (.A, f.tok, .ca, fun t x => t.setA f.d x false)
  | .recvAVa f => some (.A, f.tok, .va, fun t x => t.setA f.d x false)
  | .recvVCv f => some (.V, f.tok, .cv, fun t x => t.setK f.d.toNat x false)
  | .recvVAv f => some (.V, f.tok, .av, fun t x => t.setK f.d.toNat x false)
  | _ => none

/-! ### Shared control (04 R97 to R102) -/

/-- The return address in an engine's own link register: s63, a31 with clear poison, k15 with clear poison (01 R29, 04 R98). -/
def Issue.linkRule (t : Issue) (e : Engine) (x : DWord) : Issue :=
  match e with
  | .C => t.setS 63 x
  | .A => t.setA 31 x false
  | .V => t.setK 15 x false

/-- A conditional branch and its condition (04 R97). -/
def branchRule : Instr → Option (SB × (DWord → DWord → Prop))
  | .beq f => some (f, fun a b => a = b)
  | .bne f => some (f, fun a b => a ≠ b)
  | .blt f => some (f, fun a b => a.toInt < b.toInt)
  | .bge f => some (f, fun a b => b.toInt ≤ a.toInt)
  | .bltn f => some (f, fun a b => a.toNat < b.toNat)
  | .bgen f => some (f, fun a b => b.toNat ≤ a.toNat)
  | _ => none

/-- A jump or call whose target the word gives: its length, whether it links, the target from the word's address (04 R98). -/
def jumpRule : Instr → Option (Nat × Bool × (BitVec 56 → BitVec 56))
  | .jmp f => some (4, false, fun p => p + 4 * f.off.signExtend 56)
  | .call f => some (4, true, fun p => p + 4 * f.off.signExtend 56)
  | .jmpLong f => some (8, false, fun _ => f.tgt ++ (0 : BitVec 2))
  | .callLong f => some (8, true, fun _ => f.tgt ++ (0 : BitVec 2))
  | _ => none

/-- A jump through an s register: the register and whether it links (04 R99, R100). -/
def regJumpRule : Instr → Option (BitVec 6 × Bool)
  | .callr f => some (f.a, true)
  | .ret _ => some (63, false)
  | _ => none

/-- A loop word: how many words to its last word, and its trip count (04 R102). -/
def loopRule : Instr → Option (BitVec 12 × Option (Issue → DWord) × DWord)
  | .loop f => some (f.fin, none, f.cnt.setWidth 64)
  | .loopr f => some (f.fin, some (fun t => t.getS (f.cnt.setWidth 6)), 0)
  | .loopm f => some (f.fin, some (fun t => Tbl.look 0 t.mbox (f.cnt.toNat % 16)), 0)
  | _ => none

/-! ### A-engine (05 R107 to R125) -/

/-- Address arithmetic: token field, destination, sources, value (05 R110). -/
def addressRule : Instr → Option (BitVec 4 × BitVec 5 × List (BitVec 5) × (Issue → DWord))
  | .adda f => some (f.tok, f.d, [f.a, f.b], fun t => t.getA f.a + t.getA f.b)
  | .suba f => some (f.tok, f.d, [f.a, f.b], fun t => t.getA f.a - t.getA f.b)
  | .mova f => some (f.tok, f.d, [f.a], fun t => t.getA f.a)
  | .addai f => some (f.tok, f.d, [f.a], fun t => t.getA f.a + f.imm.signExtend 64)
  | .shla f => some (f.tok, f.d, [f.a], fun t => t.getA f.a <<< (f.imm.toNat % 64))
  | .mulai f => some (f.tok, f.d, [f.a], fun t => t.getA f.a * f.imm.signExtend 64)
  | .lia f => some (f.tok, f.d, [], fun _ => f.imm.signExtend 64)
  | _ => none

/-- A scalar access: token field, data register, address registers, address, bytes, whether a load extends the sign, whether it is
speculative (05 R107, R111, R121, 02 R47). -/
structure ScalarAccess where
  tok : BitVec 4
  rt : BitVec 5
  regs : List (BitVec 5)
  ea : Issue → DWord
  n : Nat
  sg : Bool
  spec : Bool

/-- The address of an A.M form: base plus the offset in elements. -/
def eaRule (f : AM) (n : Nat) (t : Issue) : DWord := t.getA f.rb + f.off.signExtend 64 * BitVec.ofNat 64 n

/-- Bytes and sign of an indexed load's width code. -/
def codeBytes (w : BitVec 4) : Nat := if w.toNat < 2 then 1 else if w.toNat < 4 then 2 else if w.toNat < 6 then 4 else 8
def codeSigned (w : BitVec 4) : Bool := decide (w.toNat < 6) && w.toNat % 2 == 0

def loadRule : Instr → Option ScalarAccess
  | .ldI8 f => some ⟨f.tok, f.rt, [f.rb], eaRule f 1, 1, true, false⟩
  | .ldN8 f => some ⟨f.tok, f.rt, [f.rb], eaRule f 1, 1, false, false⟩
  | .ldI16 f => some ⟨f.tok, f.rt, [f.rb], eaRule f 2, 2, true, false⟩
  | .ldN16 f => some ⟨f.tok, f.rt, [f.rb], eaRule f 2, 2, false, false⟩
  | .ldI32 f => some ⟨f.tok, f.rt, [f.rb], eaRule f 4, 4, true, false⟩
  | .ldN32 f => some ⟨f.tok, f.rt, [f.rb], eaRule f 4, 4, false, false⟩
  | .ld64 f => some ⟨f.tok, f.rt, [f.rb], eaRule f 8, 8, false, false⟩
  | .ldI8S f => some ⟨f.tok, f.rt, [f.rb], eaRule f 1, 1, true, true⟩
  | .ldN8S f => some ⟨f.tok, f.rt, [f.rb], eaRule f 1, 1, false, true⟩
  | .ldI16S f => some ⟨f.tok, f.rt, [f.rb], eaRule f 2, 2, true, true⟩
  | .ldN16S f => some ⟨f.tok, f.rt, [f.rb], eaRule f 2, 2, false, true⟩
  | .ldI32S f => some ⟨f.tok, f.rt, [f.rb], eaRule f 4, 4, true, true⟩
  | .ldN32S f => some ⟨f.tok, f.rt, [f.rb], eaRule f 4, 4, false, true⟩
  | .ld64S f => some ⟨f.tok, f.rt, [f.rb], eaRule f 8, 8, false, true⟩
  | .ldIndexed f => some ⟨f.tok, f.rt, [f.rb, f.ri], fun t => t.getA f.rb + t.getA f.ri, codeBytes f.w, codeSigned f.w, false⟩
  | .ldIndexedS f => some ⟨f.tok, f.rt, [f.rb, f.ri], fun t => t.getA f.rb + t.getA f.ri, codeBytes f.w, codeSigned f.w, true⟩
  | _ => none

def storeRule : Instr → Option ScalarAccess
  | .st8 f => some ⟨f.tok, f.rt, [f.rb], eaRule f 1, 1, false, false⟩
  | .st16 f => some ⟨f.tok, f.rt, [f.rb], eaRule f 2, 2, false, false⟩
  | .st32 f => some ⟨f.tok, f.rt, [f.rb], eaRule f 4, 4, false, false⟩
  | .st64 f => some ⟨f.tok, f.rt, [f.rb], eaRule f 8, 8, false, false⟩
  | .stIndexed f => some ⟨f.tok, f.rt, [f.rb, f.ri], fun t => t.getA f.rb + t.getA f.ri, 2 ^ (f.w.toNat % 4), false, false⟩
  | _ => none

/-- A loaded number extended to a register. -/
def extRule (n : Nat) (sg : Bool) (x : Nat) : DWord :=
  if sg then (BitVec.ofNat (8 * n) x).signExtend 64 else BitVec.ofNat 64 x

/-- A vector access: token field, speculative, queue, address registers, the offset queue of an indexed one, its elements by size and count as the
model lists them, and what R115 to R117 say apart from that list: the address of element `i`, by the offsets and the element size, and whether
its offset lane lets it be active. -/
structure VectorAccess where
  tok : BitVec 4
  spec : Bool
  q : Queue
  regs : List (BitVec 5)
  offs : Option Queue
  elems : Issue → QEnt → Nat → Nat → List Elem
  addr : Issue → QEnt → Nat → Nat → DWord
  on : QEnt → Nat → Bool := fun _ _ => true

/-- Element addresses: contiguous from the base plus 64 times the offset (05 R107, R115); the base plus `i` strides (R116); the base plus the signed
offset in lane `i`, active where that lane is enabled (R117). -/
def unitAddr (f : AM) (t : Issue) (_ : QEnt) (size i : Nat) : DWord :=
  t.getA f.rb + f.off.signExtend 64 * 64 + BitVec.ofNat 64 (size * i)
def strideAddr (f : AX) (t : Issue) (_ : QEnt) (_ i : Nat) : DWord := t.getA f.rb + BitVec.ofNat 64 i * t.getA f.ri
def indexAddr (f : AX) (t : Issue) (o : QEnt) (_ i : Nat) : DWord := t.getA f.rb + (o.data.extractLsb' (32 * i) 32).signExtend 64
def indexOn (o : QEnt) (i : Nat) : Bool := o.en.getLsbD i

def unitElems (f : AM) (t : Issue) (_ : QEnt) (size n : Nat) : List Elem :=
  stridedElems (t.getA f.rb + f.off.signExtend 64 * 64) (BitVec.ofNat 64 size) n
def strideElems (f : AX) (t : Issue) (_ : QEnt) (_ n : Nat) : List Elem := stridedElems (t.getA f.rb) (t.getA f.ri) n
def indexElems (f : AX) (t : Issue) (o : QEnt) (_ n : Nat) : List Elem := indexedElems (t.getA f.rb) o n

def vectorLoadRule : Instr → Option VectorAccess
  | .vld f => some ⟨f.tok, false, if f.rt = 0 then .lq0 else .lq1, [f.rb], none, unitElems f, unitAddr f, fun _ _ => true⟩
  | .vldS f => some ⟨f.tok, true, if f.rt = 0 then .lq0 else .lq1, [f.rb], none, unitElems f, unitAddr f, fun _ _ => true⟩
  | .vlds f => some ⟨f.tok, false, if f.rt = 0 then .lq0 else .lq1, [f.rb, f.ri], none, strideElems f, strideAddr f, fun _ _ => true⟩
  | .vldsS f => some ⟨f.tok, true, if f.rt = 0 then .lq0 else .lq1, [f.rb, f.ri], none, strideElems f, strideAddr f, fun _ _ => true⟩
  | .vldx f => some ⟨f.tok, false, if f.rt = 0 then .lq0 else .lq1, [f.rb], some (if f.ri = 0 then .sq0 else .sq1), indexElems f,
      indexAddr f, indexOn⟩
  | .vldxS f => some ⟨f.tok, true, if f.rt = 0 then .lq0 else .lq1, [f.rb], some (if f.ri = 0 then .sq0 else .sq1), indexElems f,
      indexAddr f, indexOn⟩
  | _ => none

def vectorStoreRule : Instr → Option VectorAccess
  | .vst f => some ⟨f.tok, false, if f.rt = 0 then .sq0 else .sq1, [f.rb], none, unitElems f, unitAddr f, fun _ _ => true⟩
  | .vsts f => some ⟨f.tok, false, if f.rt = 0 then .sq0 else .sq1, [f.rb, f.ri], none, strideElems f, strideAddr f, fun _ _ => true⟩
  | .vstx f => some ⟨f.tok, false, if f.rt = 0 then .sq0 else .sq1, [f.rb], some (if f.ri = 0 then .sq0 else .sq1), indexElems f,
      indexAddr f, indexOn⟩
  | _ => none

/-- The offsets an access takes: the head of its offset queue; an access without one needs none. -/
def VectorAccess.offsets (a : VectorAccess) (t : Issue) : Option QEnt :=
  match a.offs with
  | some q => (t.queue q).head?
  | none => some {}

/-- The checks of one element: of an offset lane that is poisoned, POISON-USE; else the element's own (05 R109, R123). -/
def VectorAccess.chk (a : VectorAccess) (s : State) (o : QEnt) (size : Nat) (write : Bool) : ElemCheck Loc :=
  match a.offs with
  | some q => poisonLane q o id (s.elemCheck s.cur size write)
  | none => s.elemCheck s.cur size write

/-- An atomic: its word and its new value from the old, operand and replacement, both below 2^w; none where nothing is written; whether
the old value extends its sign (05 R128 to R130). -/
def atomicRule : Instr → Option (AL × Bool × (Nat → Nat → Nat → Nat → Option Nat))
  | .aadd f => some (f, false, fun w o b _ => some ((o + b) % 2 ^ w))
  | .aand f => some (f, false, fun _ o b _ => some (o &&& b))
  | .aor f => some (f, false, fun _ o b _ => some (o ||| b))
  | .axor f => some (f, false, fun _ o b _ => some (o ^^^ b))
  | .aswap f => some (f, false, fun _ _ b _ => some b)
  | .acas f => some (f, false, fun _ o b c => if o = b then some c else none)
  | .amin f => some (f, true, fun w o b _ => some (if (BitVec.ofNat w o).toInt ≤ (BitVec.ofNat w b).toInt then o else b))
  | .amax f => some (f, true, fun w o b _ => some (if (BitVec.ofNat w o).toInt ≤ (BitVec.ofNat w b).toInt then b else o))
  | .aminn f => some (f, false, fun _ o b _ => some (if o ≤ b then o else b))
  | .amaxn f => some (f, false, fun _ o b _ => some (if o ≤ b then b else o))
  | _ => none

/-- A place in the device memory of die `d` that plain accesses reach directly: no host page, no aperture, not checked, at home on the die,
populated; without poison; the task acts on memory itself and not through a snapshot (08 R187, R197, 17 R412, R414, R425, 15 R390). -/
abbrev State.plainPlace (s : State) (l : Loc) (n : Nat) : Prop :=
  l.host = false ∧ l.chk = false ∧ apertureOf l.pa = none ∧ homeOf l.pa = some (dieOf s.cur) ∧
    homeOf (l.pa + (n - 1)) = some (dieOf s.cur) ∧ (s.die (dieOf s.cur)).dirty = [] ∧
    ((s.sk s.cur).info.snap = none ∨ (s.sk s.cur).handler.isSome = true)

/-- No granule of a range is poisoned (17 R425). -/
abbrev State.clean (s : State) (pa n : Nat) : Prop := ∀ g ∈ s.poison, g < pa / 64 ∨ (pa + (n - 1)) / 64 < g

/-- A byte of a remote line as a die sees it: what it has stored there itself, else its clean copy, else the home's (08 R197). -/
def State.remoteByte (s : State) (d a : Nat) : Byte :=
  match ((s.die d).dirty.find? (fun x => x.line == a / 64)).bind (fun x => Tbl.find x.bytes (a % 64)) with
  | some b => b
  | none => ((Tbl.find (s.die d).clean (a / 64)).map (fun bs => bs.getD (a % 64) 0)).getD (rdB s.mem a)

/-- A race record in memory at `p`, as an agent of launch tag `lt` sees it: entry `i` (0 writer, 1 and 2 readers) as a doubleword without its
reserved bits, zero where another launch tag stands there; its fields; and the doubleword of a valid entry (08 R204). -/
def recEntry (m : List Host.Cell) (p lt i : Nat) : Nat :=
  let x := rdNat m (p + 8 * i) 8
  if rdNat m (p + 24) 4 = lt then x / 256 * 256 + x % 2 else 0
def entClk (x : Nat) : Nat := x / 2 ^ 32
def entTag (x : Nat) : Nat := x / 256 % 2 ^ 24
def entryRule (g c : Nat) : Nat := c * 2 ^ 32 + g * 256 + 1

/-- Whether an entry conflicts with an access of tag `g` at clock `c` (08 R206). -/
def clashRule (x g c : Nat) : Prop := x % 2 = 1 ∧ entTag x ≠ g ∧ c ≤ entClk x

/-- The two readers after a read by tag `g` at clock `c` (08 R206). -/
def readersRule (r0 r1 g c : Nat) : Nat × Nat :=
  if r0 % 2 = 1 ∧ entTag r0 = g then (entryRule g (max (entClk r0) c), r1)
  else if r1 % 2 = 1 ∧ entTag r1 = g then (r0, entryRule g (max (entClk r1) c))
  else if r0 % 2 = 0 then (entryRule g c, r1)
  else if r1 % 2 = 0 then (r0, entryRule g c)
  else if entClk r0 ≤ entClk r1 then (entryRule g c, r1) else (r0, entryRule g c)

/-- A tensor-handle table entry, by its doublewords (17 R415). -/
structure TensorRule where
  esz : Nat
  tr : Nat
  tc : Nat
  rows : Nat
  cols : Nat
  sbase : Nat
  sstr : Nat
  padv : Nat
  tiled : Bool

def tensorRule (q : Nat → Nat) : TensorRule :=
  { esz := 2 ^ (q 0 / 2 ^ 60 % 4), tr := 2 ^ (q 0 / 2 ^ 48 % 16), tc := 2 ^ (q 0 / 2 ^ 44 % 16), rows := q 2 / 2 ^ 32, cols := q 2 % 2 ^ 32
    sbase := q 1 / 64 * 64, sstr := q 3, padv := q 4, tiled := (q 0).testBit 62 }

/-- V is set, no reserved bit is, and the entry is not malformed on die `e`; its rows do not overlap in storage (17 R415). -/
def TensorRule.fits (t : TensorRule) (q : Nat → Nat) (e : Nat) : Prop :=
  let tb := t.tr * t.tc * t.esz
  let tiles := (t.rows + t.tr - 1) / t.tr * ((t.cols + t.tc - 1) / t.tc)
  (q 0).testBit 63 = true ∧ q 0 / 2 ^ 52 % 2 ^ 8 = 0 ∧ q 0 % 2 ^ 44 = 0 ∧ q 1 < 2 ^ 52 ∧ q 1 % 64 = 0 ∧ q 2 < 2 ^ 64 ∧ q 3 < 2 ^ 40 ∧ q 5 = 0 ∧ q 6 = 0 ∧
    q 7 = 0 ∧ 1 ≤ t.rows ∧ 1 ≤ t.cols ∧ tb % 64 = 0 ∧ tb ≤ 65536 ∧ tiles * tb ≤ 2 ^ 34 ∧ e * 2 ^ 37 ≤ t.sbase ∧ t.cols * t.esz ≤ t.sstr ∧
    (if t.tiled then t.sbase + tiles * tb else t.sbase + (t.rows - 1) * t.sstr + t.cols * t.esz) ≤ (e + 1) * 2 ^ 37

/-- Where byte `o` of the view lies: in storage, or nowhere, with the pad byte there (17 R416). -/
def TensorRule.place (t : TensorRule) (o : Nat) : Nat ⊕ Byte :=
  let tb := t.tr * t.tc * t.esz
  let ntc := (t.cols + t.tc - 1) / t.tc
  let ntr := (t.rows + t.tr - 1) / t.tr
  let ti := o / tb
  let w := o % tb
  let r := ti / ntc * t.tr + w / (t.tc * t.esz)
  let c := ti % ntc * t.tc + w % (t.tc * t.esz) / t.esz
  if ntr ≤ ti / ntc ∨ t.rows ≤ r ∨ t.cols ≤ c then .inr (BitVec.ofNat 8 (t.padv / 2 ^ (8 * (o % t.esz))))
  else if t.tiled then .inl (t.sbase + o) else .inl (t.sbase + r * t.sstr + c * t.esz + o % t.esz)

/-! ### V-engine (02 R49, R50, 06) -/

/-- A vector word: length, its V.L fields, its sources, and what else it needs to act: clear poison of a k register used as a count, room or
an entry in the quantisation window, clear poison of compared elements (06 R144, R148, R149, R154, R156, R159); the v registers it may write
(VD, unless that is a store queue), the masks, the k registers, and whether it moves the quantisation window, or VL. -/
structure VectorWord where
  len : Nat
  f : VL
  os : List VOpnd
  ok : Issue → List VSrc → Bool := fun _ _ => true
  vs : Issue → List Nat := fun _ => if f.qsel.getLsbD 3 then [] else [f.d.toNat]
  ms : List Nat := []
  ks : List Nat := []
  window : Bool := false
  length : Bool := false

def countOk (r : BitVec 6) (t : Issue) (_ : List VSrc) : Bool := !t.getKP r.toNat

/-- The entry a VQCVT takes: the oldest, of its type (06 R156). -/
def quantOk (f : VL) (t : Issue) (_ : List VSrc) : Bool :=
  t.qn != 0 && (Tbl.look {} t.win ((t.wp + 16 - t.qn) % 8)).ty == f.ty.toNat

/-- No active element a VCMP compares is poisoned (06 R149). -/
def compareOk (f : VL) (t : Issue) (xs : List VSrc) : Bool :=
  (List.range (t.count (elemBits f.ty.toNat))).all (fun i =>
    !(active t f (elemBits f.ty.toNat) i && xs.any (fun x => x.bad (elemBits f.ty.toNat) i)))

def shortRR (f : VR) (ty : BitVec 5) : VectorWord := { len := 4, f := twinR f ty, os := [vA (twinR f ty), vB (twinR f ty)] }
def shortR (f : VR) (ty : BitVec 5) : VectorWord := { len := 4, f := twinR f ty, os := [vA (twinR f ty)] }
def shortK (f : VK) : VectorWord := { len := 4, f := twinK f 0, os := [vA (twinK f 0), kB (twinK f 0)] }
def shortCount (f : VK) : VectorWord :=
  { len := 4, f := twinK f 0x18, os := [vA (twinK f 0x18)], ok := countOk (f.ks.setWidth 6) }
def long1 (f : VL) : VectorWord := { len := 8, f := f, os := [vA f] }
def long2 (f : VL) : VectorWord := { len := 8, f := f, os := [vA f, vB f] }
def longK (f : VL) : VectorWord := { len := 8, f := f, os := [vA f, kB f] }
def longCount (f : VL) : VectorWord := { len := 8, f := f, os := [vA f], ok := countOk f.b }
/-- A word whose result goes to the k register its VD field names. -/
def toScalar (r : VectorWord) : VectorWord := { r with vs := fun _ => [], ks := [r.f.d.toNat] }
/-- VQCVT and VQCVTX write their codes to VD and their scales to VB (06 R156). -/
def quantWord (f : VL) : VectorWord :=
  { len := 8, f := f, os := [], ok := quantOk f, vs := fun _ => (if f.qsel.getLsbD 3 then [] else [f.d.toNat]) ++ [f.b.toNat], window := true }

def vectorRule : Instr → Option VectorWord
  | .vadd f => some (shortRR f 0) | .vsub f => some (shortRR f 0) | .vmul f => some (shortRR f 0)
  | .vmin f => some (shortRR f 0) | .vmax f => some (shortRR f 0)
  | .vand f => some (shortRR f 0x18) | .vor f => some (shortRR f 0x18) | .vxor f => some (shortRR f 0x18)
  | .vmov f => some (shortR f 0x18) | .vnot f => some (shortR f 0x18) | .vabs f => some (shortR f 0) | .vneg f => some (shortR f 0)
  | .vaddK f => some (shortK f) | .vsubK f => some (shortK f) | .vmulK f => some (shortK f) | .vminK f => some (shortK f)
  | .vmaxK f => some (shortK f)
  | .vshl f => some (shortCount f) | .vshr f => some (shortCount f) | .vsra f => some (shortCount f)
  | .vbcast f => some { len := 4, f := twinK f 0x18, os := [kB (twinK f 0x18)] }
  | .vslup f => some (shortCount f) | .vsldn f => some (shortCount f)
  | .vcfg f => some { len := 8, f := f, os := [], ok := countOk f.a, vs := fun _ => [], ks := [f.d.toNat], length := true }
  | .vaddLong f => some (longK f) | .vsubLong f => some (longK f) | .vmulLong f => some (longK f)
  | .vminLong f => some (longK f) | .vmaxLong f => some (longK f)
  | .vfma f => some { len := 8, f := f, os := [vA f, vB f, vC f] }
  | .vfms f => some { len := 8, f := f, os := [vA f, vB f, vC f] }
  | .vfnma f => some { len := 8, f := f, os := [vA f, vB f, vC f] }
  | .vdiv f => some (long2 f) | .vsqrt f => some (long1 f) | .vrcp f => some (long1 f) | .vrsq f => some (long1 f)
  | .vabsLong f => some (long1 f) | .vnegLong f => some (long1 f) | .vcpys f => some (long2 f)
  | .vandLong f => some (long2 f) | .vorLong f => some (long2 f) | .vxorLong f => some (long2 f) | .vnotLong f => some (long1 f)
  | .vshlLong f => some (longCount f) | .vshrLong f => some (longCount f) | .vsraLong f => some (longCount f)
  | .vadds f => some (long2 f) | .vsubs f => some (long2 f)
  | .vcmp f => some { long2 f with ok := compareOk f, vs := fun _ => [], ms := [f.d.toNat] }
  | .vsel f => some (long2 f)
  | .vmop f => some { len := 8, f := f, os := [], vs := fun _ => [], ms := [f.d.toNat] }
  | .vcvt f => some (long1 f)
  | .vqmax f => some { long1 f with ok := fun t _ => decide (t.qn < 8), vs := fun t => [56 + t.wp, f.d.toNat], window := true }
  | .vqcvt f => some (quantWord f) | .vqcvtx f => some (quantWord f)
  | .vredsum f => some (toScalar (long1 f)) | .vredmax f => some (toScalar (long1 f)) | .vredmin f => some (toScalar (long1 f))
  | .vredamax f => some (toScalar (long1 f))
  | .vperm f => some (long2 f)
  | .vslupLong f => some (longCount f) | .vsldnLong f => some (longCount f)
  | .vbcastLong f => some { len := 8, f := f, os := [kB f] }
  | .viota f => some { len := 8, f := f, os := [] }
  | .vcompr f => some { long1 f with ks := [f.b.toNat] }
  | .vext f => some (toScalar (longCount f))
  | .vins f => some { len := 8, f := f, os := [], ok := countOk f.b, vs := fun _ => [f.d.toNat] }
  | .vmovLong f => some (long1 f)
  | .vtlu f => some (long2 f) | .vtld f => some (long2 f)
  | _ => none

/-- Lane `i` of vector register `r` (01 R29). -/
def Issue.lane (t : Issue) (r i : Nat) : BitVec 32 := (t.getV r).extractLsb' (32 * i) 32

/-- A word on k registers alone: its token field, its destination, value and poison (06 R162). -/
def kRule : Instr → Option (BitVec 4 × Nat × (Issue → DWord) × (Issue → Bool))
  | .kli f => some (f.tok, f.kd.toNat, fun _ => f.imm.signExtend 64, fun _ => false)
  | .kadd f => some (f.tok, f.d.toNat, fun t => t.getK f.a.toNat + t.getK f.b.toNat, fun t => t.getKP f.a.toNat || t.getKP f.b.toNat)
  | .kmov f => some (f.tok, f.d.toNat, fun t => t.getK f.a.toNat, fun t => t.getKP f.a.toNat)
  | _ => none

/-- A lanewise instruction on the bits of one or two registers and its operation; a V.R VABS or VNEG is of FP32 (06 R147, R148). -/
def logicRule : Instr → Option (VR × (BitVec 32 → BitVec 32 → BitVec 32))
  | .vabs f => some (f, fun x _ => x &&& 0x7FFFFFFF)
  | .vneg f => some (f, fun x _ => x ^^^ 0x80000000)
  | .vand f => some (f, (· &&& ·))
  | .vor f => some (f, (· ||| ·))
  | .vxor f => some (f, (· ^^^ ·))
  | .vnot f => some (f, fun x _ => ~~~x)
  | .vmov f => some (f, fun x _ => x)
  | _ => none

/-- An integer instruction on a register and a k register, and its operation modulo 2^32, which may depend on whether the type is signed (06
R147). -/
def wrapRule : Instr → Option (VL × (Bool → BitVec 32 → BitVec 32 → BitVec 32))
  | .vaddLong f => some (f, fun _ x y => x + y)
  | .vsubLong f => some (f, fun _ x y => x - y)
  | .vmulLong f => some (f, fun _ x y => x * y)
  | .vminLong f => some (f, fun sg x y => if (if sg then x.toInt ≤ y.toInt else x.toNat ≤ y.toNat) then x else y)
  | .vmaxLong f => some (f, fun sg x y => if (if sg then x.toInt ≤ y.toInt else x.toNat ≤ y.toNat) then y else x)
  | .vabsLong f => some (f, fun sg x _ => if sg ∧ x.toInt < 0 then -x else x)
  | .vnegLong f => some (f, fun _ x _ => -x)
  | _ => none

/-- A shift by a k register, its count no more than 32 (06 R148). -/
def shiftRule : Instr → Option (VectorWord × (BitVec 32 → Nat → BitVec 32))
  | .vshl f => some (shortCount f, fun x n => x <<< n)
  | .vshr f => some (shortCount f, fun x n => x >>> n)
  | .vsra f => some (shortCount f, fun x n => x.sshiftRight n)
  | .vshlLong f => some (longCount f, fun x n => x <<< n)
  | .vshrLong f => some (longCount f, fun x n => x >>> n)
  | .vsraLong f => some (longCount f, fun x n => x.sshiftRight n)
  | _ => none

/-- A word that moves 32-bit lanes: lane `i` of its result (06 R150, R159). The count of a slide is its k register. -/
def moveRule : Instr → Option (VectorWord × (Issue → Nat → BitVec 32))
  | .vperm f => some (long2 f, fun t i => if (t.lane f.b.toNat i).toNat < t.vl then t.lane f.a.toNat (t.lane f.b.toNat i).toNat else 0)
  | .vslup f => some (shortCount f, fun t i => let n := (t.getK f.ks.toNat).toNat; if n ≤ i then t.lane f.a.toNat (i - n) else 0)
  | .vsldn f => some (shortCount f, fun t i => let n := (t.getK f.ks.toNat).toNat; if i + n < t.vl then t.lane f.a.toNat (i + n) else 0)
  | .vslupLong f => some (longCount f, fun t i => let n := (t.getK f.b.toNat).toNat; if n ≤ i then t.lane f.a.toNat (i - n) else 0)
  | .vsldnLong f => some (longCount f, fun t i => let n := (t.getK f.b.toNat).toNat; if i + n < t.vl then t.lane f.a.toNat (i + n) else 0)
  | .vbcast f => some ({ len := 4, f := twinK f 0x18, os := [] }, fun t _ => (t.getK f.ks.toNat).setWidth 32)
  | .vbcastLong f => some ({ len := 8, f := f, os := [] }, fun t _ => (t.getK f.b.toNat).setWidth 32)
  | .vmovLong f => some (long1 f, fun t i => t.lane f.a.toNat i)
  | .viota f => some ({ len := 8, f := f, os := [] }, fun t i =>
      BitVec.ofNat 32 (if f.men then ((List.range i).filter (fun j => (t.getM f.msk.toNat).getLsbD j)).length else i))
  | _ => none

/-- The lanes a masked word acts on: below VL, and set in its mask where it has one (06 R140). -/
def Issue.acts (t : Issue) (f : VL) (i : Nat) : Prop := i < t.vl ∧ (f.men = false ∨ (t.getM f.msk.toNat).getLsbD i = true)

/-- `r` is the register `d` after a word of 32-bit elements whose active lanes are as `p` says: the rest below VL are kept, or zeroed by MZ, and the
lanes from VL on are kept (06 R140). -/
def Issue.lanesAfter (t u : Issue) (f : VL) (p : Nat → BitVec 32 → Prop) : Prop :=
  ∀ i, i < 2048 → (t.acts f i → p i (u.lane f.d.toNat i)) ∧
    (¬ t.acts f i → u.lane f.d.toNat i = (if i < t.vl ∧ f.mz = true then 0 else t.lane f.d.toNat i))

/-- Element `i` of width `w` of a vector register (06 R138). -/
def Issue.elt (t : Issue) (w r i : Nat) : BitVec w := (t.getV r).extractLsb' (w * i) w

/-- The types VADDS and VSUBS saturate in: width and sign (03 R57, 06 R148). -/
def satType : Nat → Option (Nat × Bool)
  | 0x09 => some (8, true) | 0x0A => some (8, false) | 0x1A => some (16, true) | 0x1B => some (16, false)
  | 0x18 => some (32, true) | 0x19 => some (32, false) | _ => none

/-- Their exact result. -/
def satRule : Instr → Option (VL × (Int → Int → Int))
  | .vadds f => some (f, fun x y => x + y)
  | .vsubs f => some (f, fun x y => x - y)
  | _ => none

/-- A number of an integer type, and the ends of the type's range (03 R57). -/
def intOf {w : Nat} (sg : Bool) (x : BitVec w) : Int := if sg then x.toInt else x.toNat
def intMin (w : Nat) (sg : Bool) : Int := if sg then -(2 ^ (w - 1)) else 0
def intMax (w : Nat) (sg : Bool) : Int := if sg then 2 ^ (w - 1) - 1 else 2 ^ w - 1

/-! ### FP32 numbers (03 R55, R66, R72) -/

abbrev f32Finite (x : BitVec 32) : Prop := x.extractLsb' 23 8 ≠ 0xFF
abbrev f32NaN (x : BitVec 32) : Prop := 0x7F800000 < (x.extractLsb' 0 31).toNat

/-- The value of a finite code, in units of 2^-149. -/
def f32Val (x : BitVec 32) : Int :=
  let e := (x.extractLsb' 23 8).toNat
  let m := (x.extractLsb' 0 23).toNat
  let k : Nat := if e = 0 then m else (2 ^ 23 + m) * 2 ^ (e - 1)
  if x.getLsbD 31 then -k else k

/-- A key by which codes that are no NaN are ordered: infinities beyond all numbers, -0 with +0. -/
def f32Key (x : BitVec 32) : Int := if x.getLsbD 31 then -(x.extractLsb' 0 31).toNat else (x.extractLsb' 0 31).toNat

/-- `z` is p / q (in units of 2^-149) rounded to the nearest FP32 number, of two equally near the one with an even significand; beyond the largest number
an infinity; a result that is exactly zero has the sign `zero`, a number rounded to zero keeps its own. -/
def f32Round (p : Int) (q : Nat) (zero : Bool) (z : BitVec 32) : Prop :=
  if p = 0 then z = (if zero then 0x80000000 else 0)
  else if (2 ^ 25 - 1) * 2 ^ 252 * q ≤ p.natAbs then z = (if p < 0 then 0xFF800000 else 0x7F800000)
  else f32Finite z ∧ z.getLsbD 31 = decide (p < 0) ∧ ∀ y, f32Finite y →
    (f32Val z * q - p).natAbs ≤ (f32Val y * q - p).natAbs ∧
    ((f32Val z * q - p).natAbs = (f32Val y * q - p).natAbs → f32Val y ≠ f32Val z → z.getLsbD 0 = false)

/-- `z` is the positive FP32 number nearest to the square root of n / d (both positive, in units of 2^-298): no number lies nearer on either side. -/
def f32Root (n d : Int) (z : BitVec 32) : Prop :=
  f32Finite z ∧ z.getLsbD 31 = false ∧ ∀ y, f32Finite y → y.getLsbD 31 = false →
    (f32Val z < f32Val y → 4 * n ≤ (f32Val z + f32Val y) ^ 2 * d) ∧ (f32Val y < f32Val z → (f32Val z + f32Val y) ^ 2 * d ≤ 4 * n)

/-- A word of FP32 arithmetic: how many sources it has, and the result of finite ones, rounded to nearest even (06 R147). -/
def floatRule : Instr → Option (VectorWord × Nat × (BitVec 32 → BitVec 32 → BitVec 32 → BitVec 32 → Prop))
  | .vadd f => some (shortRR f 0, 2, fun a b _ z => f32Round (f32Val a + f32Val b) 1 (a.getLsbD 31 && b.getLsbD 31) z)
  | .vsub f => some (shortRR f 0, 2, fun a b _ z => f32Round (f32Val a - f32Val b) 1 (a.getLsbD 31 && !b.getLsbD 31) z)
  | .vmul f => some (shortRR f 0, 2, fun a b _ z => f32Round (f32Val a * f32Val b) (2 ^ 149) (a.getLsbD 31 ^^ b.getLsbD 31) z)
  | .vfma f => some ({ len := 8, f := f, os := [] }, 3, fun a b c z =>
      f32Round (f32Val a * f32Val b + f32Val c * 2 ^ 149) (2 ^ 149) ((a.getLsbD 31 ^^ b.getLsbD 31) && c.getLsbD 31) z)
  | .vfms f => some ({ len := 8, f := f, os := [] }, 3, fun a b c z =>
      f32Round (f32Val a * f32Val b - f32Val c * 2 ^ 149) (2 ^ 149) ((a.getLsbD 31 ^^ b.getLsbD 31) && !c.getLsbD 31) z)
  | .vfnma f => some ({ len := 8, f := f, os := [] }, 3, fun a b c z =>
      f32Round (f32Val c * 2 ^ 149 - f32Val a * f32Val b) (2 ^ 149) (!(a.getLsbD 31 ^^ b.getLsbD 31) && c.getLsbD 31) z)
  | .vdiv f => some (long2 f, 2, fun a b _ z =>
      if f32Val b = 0 then z = (if f32Val a = 0 then 0x7FC00000 else if a.getLsbD 31 ^^ b.getLsbD 31 then 0xFF800000 else 0x7F800000)
      else f32Round (f32Val a * 2 ^ 149 * (f32Val b).sign) (f32Val b).natAbs (a.getLsbD 31 ^^ b.getLsbD 31) z)
  | .vrcp f => some (long1 f, 1, fun a _ _ z =>
      if f32Val a = 0 then z = (if a.getLsbD 31 then 0xFF800000 else 0x7F800000)
      else f32Round (2 ^ 298 * (f32Val a).sign) (f32Val a).natAbs false z)
  | .vsqrt f => some (long1 f, 1, fun a _ _ z =>
      if f32Val a = 0 then z = a else if a.getLsbD 31 then z = 0x7FC00000 else f32Root (f32Val a * 2 ^ 149) 1 z)
  | .vrsq f => some (long1 f, 1, fun a _ _ z =>
      if f32Val a = 0 then z = (if a.getLsbD 31 then 0xFF800000 else 0x7F800000)
      else if a.getLsbD 31 then z = 0x7FC00000 else f32Root (2 ^ 447) (f32Val a) z)
  | _ => none

/-- A reduction: neighbours combined level by level, left operand first, an absent node giving way to the other (06 R158). Levels above the smallest power
of two that holds every element meet absent nodes only. -/
def treeRule {α : Type} (op : α → α → α) : Nat → (Nat → Option α) → Option α
  | 0, g => g 0
  | n + 1, g => treeRule op n (fun j =>
      match g (2 * j), g (2 * j + 1) with
      | some x, some y => some (op x y)
      | some x, none => some x
      | none, y => y)

/-- The value of a finite E4M3 code in units of 2^-9, and which codes are finite (03 R56). -/
def e4m3Val (x : BitVec 8) : Int :=
  let e := (x.extractLsb' 3 4).toNat
  let m := (x.extractLsb' 0 3).toNat
  let k : Nat := if e = 0 then m else (8 + m) * 2 ^ (e - 1)
  if x.getLsbD 7 then -k else k
def e4m3Finite (x : BitVec 8) : Prop := x.extractLsb' 0 7 ≠ 0x7F

/-! ### The save record (07 R165, 12 R298, R299) -/

/-- Doubleword `j` of a wide value, of a frame, of a loop stack's section, of an outcome queue's, of a FIFO's. -/
def wideDw {w : Nat} (x : BitVec w) (j : Nat) : DWord := x.extractLsb' (64 * j) 64
def frameDw (f : Frame) : Nat → DWord
  | 0 => BitVec.ofNat 64 (f.entry / 4 % 2 ^ 54 * 4 + f.rscope % 4)
  | 1 => f.taskId
  | 2 => f.jctr
  | 3 => f.arg0
  | 4 => f.arg1
  | 5 => f.arg2
  | 6 => f.arg3
  | _ => BitVec.ofNat 64 (f.count % 2 ^ 32 + f.wscope % 4 * 2 ^ 32 + f.wide.toNat * 2 ^ 34 + f.idem.toNat * 2 ^ 35 + f.stolen.toNat * 2 ^ 36
      + (match f.state with
        | .ready => 0
        | .claimed => 1
        | .taken => 2
        | .invalid => 3) * 2 ^ 37
      + f.claimer % 128 * 2 ^ 39 + f.owner % 128 * 2 ^ 46 + f.range.toNat * 2 ^ 53)
def loopDw (l : List LoopEnt) (j : Nat) : DWord :=
  if j = 0 then BitVec.ofNat 64 l.length
  else match l.reverse[(j - 1) / 3]? with
    | some e => if (j - 1) % 3 = 0 then BitVec.ofNat 64 e.start else if (j - 1) % 3 = 1 then BitVec.ofNat 64 e.last else e.left
    | none => 0
def outDw (l : List OutEnt) (j : Nat) : DWord :=
  match l[j / 2]? with
  | some e => if j % 2 = 0 then BitVec.ofNat 64 (e.addr + e.taken.toNat * 2 ^ 63) else e.val
  | none => 0
def fifoDw (l : List FifoEnt) (j : Nat) : DWord :=
  match l[j]? with
  | some (.full x) => x
  | _ => 0

/-- Doubleword `j` of a window entry, of a saved lease, of a queue entry's metadata. -/
def winDw (w : WinEnt) (j : Nat) : DWord :=
  if j = 0 then BitVec.ofNat 64 (w.ty + w.n * 2 ^ 16 + w.valid.toNat * 2 ^ 31)
  else if 8 ≤ j ∧ j < 40 then wideDw w.scales (j - 8) else if 48 ≤ j ∧ j < 52 then wideDw w.poison (j - 48) else 0
def leaseDw (l : SavedLease) (j : Nat) : DWord :=
  if j = 0 then l.sref
  else if j = 1 then BitVec.ofNat 64 (l.set + l.budget * 2 ^ 8 + l.fmts.length * 2 ^ 16 + 2 ^ 31) else l.fmts.getD (j - 2) 0
def metaDw (e : QEnt) (j : Nat) : DWord :=
  if j < 32 then wideDw e.en j else if j < 64 then wideDw e.poison (j - 32) else if j = 64 then e.paddr else 0

/-- The cause word (12 R299). -/
def causeRule (r : Report) : DWord :=
  BitVec.ofNat 64 (r.code % 2 ^ 16 + r.eng % 4 * 2 ^ 16 + r.async.toNat * 2 ^ 18 + r.shadow.toNat * 2 ^ 19 + r.fetch.toNat * 2 ^ 20
    + r.write.toNat * 2 ^ 21 + r.entry % 4 * 2 ^ 22 + r.level % 4 * 2 ^ 24 + r.elem % 2 ^ 13 * 2 ^ 32)

/-- The FIFOs and the load and store queues in a record's order. -/
def Issue.fifos (t : Issue) : List (List FifoEnt) := [t.ca, t.cv, t.av, t.va, t.ac, t.vc]
def Issue.queues (t : Issue) : List (List QEnt) := [t.lq0, t.lq1, t.sq0, t.sq1]

/-- Special register `i` in a record (04 R93). -/
def State.sprDw (s : State) (k i : Nat) : DWord :=
  let x := s.sk k
  if 16 ≤ i then Tbl.look 0 x.t.mbox (i - 16)
  else [BitVec.ofNat 64 x.t.slipw, x.info.frame.taskId, x.info.teamId, BitVec.ofNat 64 x.info.teamSlot, BitVec.ofNat 64 k, s.chipId.setWidth 64,
    x.t.fpctl, x.t.srseed, BitVec.ofNat 64 x.info.sclk, x.t.remt, BitVec.ofNat 64 (s.levelOf k), s.sfcOf k].getD i 0

/-- The doubleword at offset `o`, a multiple of 8 below the scratchpad's section, of the record of Skillet `k`'s task: its KIND and SPIN, what it reports,
its saved leases (12 R298, R299). -/
def State.recordDw (s : State) (k kind : Nat) (spin : Bool) (r : Report) (ls : List SavedLease) (o : Nat) : DWord :=
  let x := s.sk k
  let t := x.t
  if o < 0x40 then
    [BitVec.ofNat 64 (1 + kind * 2 ^ 8 + x.info.killOk.toNat * 2 ^ 11 + spin.toNat * 2 ^ 12), t.c.pc.setWidth 64, t.a.pc.setWidth 64, t.v.pc.setWidth 64,
      causeRule r, r.addr, r.info,
      BitVec.ofNat 64 (t.oqa.length + t.oqv.length * 2 ^ 8 + ((t.fifos.zipIdx.map (fun e => e.1.length * 2 ^ (16 + 5 * e.2))).sum
        + (t.queues.zipIdx.map (fun e => e.1.length * 2 ^ (46 + 3 * e.2))).sum))].getD (o / 8) 0
  else if o < 0x80 then frameDw x.info.frame ((o - 0x40) / 8)
  else if o < 0x180 then s.sprDw k ((o - 0x80) / 8)
  else if o < 0x380 then t.getS (BitVec.ofNat 6 ((o - 0x180) / 8))
  else if o < 0x480 then t.getA (BitVec.ofNat 5 ((o - 0x380) / 8))
  else if o < 0x500 then t.getK ((o - 0x480) / 8)
  else if o < 0x540 then (if o = 0x500 then t.aP.setWidth 64 else if o = 0x508 then t.kP.setWidth 64 else 0)
  else if o < 0x6C0 then loopDw ([t.c.loops, t.a.loops, t.v.loops].getD ((o - 0x540) / 0x80) []) ((o - 0x540) % 0x80 / 8)
  else if o < 0x800 then
    [BitVec.ofNat 64 (t.vl + t.wp * 2 ^ 16 + t.qn * 2 ^ 24), BitVec.ofInt 64 t.dA, BitVec.ofInt 64 t.dV,
      match x.info.arr with
      | some a => BitVec.ofNat 64 (1 + a.elect.toNat * 2 + a.group * 2 ^ 8 + a.phase * 2 ^ 32)
      | none => 0].getD ((o - 0x6C0) / 8) 0
  else if o < 0xC00 then outDw t.oqa ((o - 0x800) / 8)
  else if o < 0x1000 then outDw t.oqv ((o - 0xC00) / 8)
  else if o < 0x1300 then fifoDw (t.fifos.getD ((o - 0x1000) / 0x80) []) ((o - 0x1000) % 0x80 / 8)
  else if o < 0x1B00 then wideDw (t.getM ((o - 0x1300) / 0x100)) ((o - 0x1300) % 0x100 / 8)
  else if o < 0x2000 then 0
  else if o < 0x3000 then winDw (Tbl.look {} t.win ((o - 0x2000) / 0x200)) ((o - 0x2000) % 0x200 / 8)
  else if o < 0x4000 then Tbl.look 0 t.cst ((o - 0x3000) / 8)
  else if o < 0x8000 then ((ls[(o - 0x4000) / 0x100]?).map (fun l => leaseDw l ((o - 0x4000) % 0x100 / 8))).getD 0
  else if o < 0xC000 then wideDw (t.getVP ((o - 0x8000) / 0x100)) ((o - 0x8000) % 0x100 / 8)
  else if o < 0x10000 then
    (((t.queues.getD ((o - 0xC000) / 0x1000) [])[(o - 0xC000) % 0x1000 / 0x400]?).map (fun e => metaDw e ((o - 0xC000) % 0x400 / 8))).getD 0
  else if o < 0x90000 then wideDw (t.getV ((o - 0x10000) / 0x2000)) ((o - 0x10000) % 0x2000 / 8)
  else (((t.queues.getD ((o - 0x90000) / 0x8000) [])[(o - 0x90000) % 0x8000 / 0x2000]?).map (fun e => wideDw e.data ((o - 0x90000) % 0x2000 / 8))).getD 0

/-- Each store lists its numbers once, in order, all below `n`. -/
def Tbl.within {α : Type} (n : Nat) (t : Tbl α) : Prop := Tbl.rising 0 t = true ∧ ∀ e ∈ t, e.1 < n

/-- A task's state and saved leases in the ranges the hardware's own stores have. -/
def Skillet.bounded (x : Skillet) (ls : List SavedLease) : Prop :=
  let t := x.t
  (Tbl.within 64 t.s ∧ Tbl.find t.s 0 = none ∧ Tbl.within 32 t.ar ∧ Tbl.find t.ar 0 = none ∧ Tbl.within 16 t.k ∧ Tbl.within 8 t.m ∧ Tbl.within 64 t.vr ∧ Tbl.within 64 t.vP ∧
    Tbl.within 8 t.win ∧ Tbl.within 512 t.cst ∧ Tbl.within 16 t.mbox ∧ Tbl.within (2 ^ 21) x.scr) ∧
  (∀ e ∈ t.win, e.2.ty < 32 ∧ e.2.n < 4096) ∧
  t.vl ≤ 2048 ∧ t.wp < 8 ∧ t.qn ≤ 8 ∧ t.slipw < 2 ^ 64 ∧ x.info.sclk < 2 ^ 64 ∧
  (∀ e : Engine, (t.eng e).pc.toNat % 4 = 0 ∧ (t.eng e).loops.length ≤ 4 ∧ ∀ l ∈ (t.eng e).loops, l.start < 2 ^ 64 ∧ l.last < 2 ^ 64) ∧
  -(2 ^ 63) ≤ t.dA ∧ t.dA ≤ 64 ∧ -(2 ^ 63) ≤ t.dV ∧ t.dV ≤ 64 ∧
  (∀ q ∈ [t.oqa, t.oqv], q.length ≤ 64 ∧ ∀ e ∈ q, e.addr < 2 ^ 56) ∧ (∀ q ∈ t.fifos, q.length ≤ 16) ∧ (∀ q ∈ t.queues, q.length ≤ 4) ∧
  t.fpctl &&& 0x7F3F = t.fpctl ∧
  (∀ a, x.info.arr = some a → a.group < 256 ∧ a.phase < 2 ^ 32) ∧
  ls.length ≤ 4 ∧ (∀ l ∈ ls, l.set < 4 ∧ l.budget < 128 ∧ l.fmts.length ≤ 16)

/-- A record's pages, in order: device memory of its own, that die `d` holds no dirty line of. -/
def State.recordPages (s : State) (d asid base : Nat) (need : Need) (loc : Nat → Loc) : Prop :=
  s.memOk ∧ (s.die d).dirty = [] ∧ s.recOf = [] ∧
  ∀ j, j < 43 → s.xlate (s.dTlbs d) asid (base + 65536 * j) need = .ok (loc j) ∧ (loc j).host = false ∧ apertureOf (loc j).pa = none ∧
    (homeOf (loc j).pa).isSome = true ∧ (loc j).pa % 65536 = 0 ∧ ∀ i, i < j → (loc i).pa ≠ (loc j).pa

/-- The place of a record's byte, and what memory holds there: the doublewords `f` and the scratchpad `scr`. -/
def recordPlace (loc : Nat → Loc) (o : Nat) : Nat := (loc (o / 65536)).pa + o % 65536
def State.holdsRecord (s : State) (loc : Nat → Loc) (f : Nat → DWord) (scr : Tbl Byte) : Prop :=
  (∀ j, 8 * j < 0xB0000 → BitVec.ofNat 64 (rdNat s.mem (recordPlace loc (8 * j)) 8) = f (8 * j)) ∧
    ∀ a, a < 2 ^ 21 → rdB s.mem (recordPlace loc (0xB0000 + a)) = Tbl.look 0 scr a

/-- `u` is the issue state `t` restored from a record: no value is held for a prefetch, and all data has arrived. -/
def Issue.restored (t u : Issue) : Prop :=
  (∀ e : Engine, (u.eng e).pc = (t.eng e).pc ∧ (u.eng e).loops = (t.eng e).loops) ∧
  (∀ r, u.getS r = t.getS r) ∧ (∀ r, u.getA r = t.getA r) ∧ u.aP = t.aP ∧ (∀ r, u.getK r = t.getK r) ∧ u.kP = t.kP ∧
  (∀ r, u.getM r = t.getM r) ∧ (∀ r, u.getV r = t.getV r ∧ u.getVP r = t.getVP r) ∧ u.vl = t.vl ∧ u.wp = t.wp ∧ u.qn = t.qn ∧
  (∀ j, Tbl.look {} u.win j = Tbl.look {} t.win j) ∧ (∀ j, Tbl.look 0 u.cst j = Tbl.look 0 t.cst j) ∧
  (∀ j, Tbl.look 0 u.mbox j = Tbl.look 0 t.mbox j) ∧ u.dA = t.dA ∧ u.dV = t.dV ∧ u.oqa = t.oqa ∧ u.oqv = t.oqv ∧
  u.fifos = t.fifos.map (fun q => q.map (fun e => FifoEnt.full (match e with
    | .full x => x
    | .held _ => 0))) ∧
  u.queues = t.queues.map (fun q => q.map (fun e => { e with arrived := true })) ∧
  u.slipw = t.slipw ∧ u.fpctl = t.fpctl ∧ u.srseed = t.srseed ∧ u.remt = t.remt

/-! ### Commands (07, 09, 10, 14, 18) -/

/-- SPAWN and SPAWNL: the word and whether it spawns a range (07 R180). -/
def spawnRule : Instr → Option (LW × Bool)
  | .spawn f => some (f, false)
  | .spawnl f => some (f, true)
  | _ => none

/-- A copy command and the kind of job it makes (10 R262 to R266). -/
def copyRule : Instr → Option (LW × JobKind)
  | .cpy f => some (f, .cpy)
  | .cpyg f => some (f, .cpyg)
  | .cpys f => some (f, .cpys)
  | .cpyr f => some (f, .cpyr)
  | _ => none

/-- A Whisk command and the kind of job it makes (14 R353). -/
def whiskRule : Instr → Option (LW × JobKind)
  | .fwrd f => some (f, .fwrd)
  | .fwstep f => some (f, .fwstep 0)
  | .fwstepFrw f => some (f, .fwstep 1)
  | .fwstepFwr f => some (f, .fwstep 2)
  | .fwseq f => some (f, .fwseq)
  | .fwgrad f => some (f, .fwgrad)
  | .fwfade f => some (f, .fwfade)
  | .fwzero f => some (f, .fwzero)
  | .fwld f => some (f, .fwld)
  | .fwst f => some (f, .fwst)
  | _ => none

/-- A handle command that puts one item into its handle's order and answers nothing, with the item (14 R379, R380). -/
def itemRule (b : DWord) (w : Issuer) : Instr → Option (LW × ShOp × HItem)
  | .shpin f => some (f, .pin, .pin (b.getLsbD 0) w)
  | .shfree f => some (f, .free, .free)
  | _ => none

/-- SHSNAP and SHFORK: whether the handle they make may be written (14 R374, R375). -/
def twinRule : Instr → Option (LW × ShOp × Bool)
  | .shsnap f => some (f, .snap, false)
  | .shfork f => some (f, .fork, true)
  | _ => none

/-- A management command that ends at once: its code and what it does, a result that is not 0 or the state after (18 R439). -/
def mgmtRule : Instr → Option (Nat × (State → Cmd State))
  | .mapq => some (0x01, State.mapq)
  | .unmapq => some (0x02, State.unmapq)
  | .destroyq => some (0x03, State.destroyq)
  | .freeh => some (0x04, State.freeh)
  | .ttreg => some (0x05, State.ttreg)
  | .window => some (0x06, State.windowCmd)
  | .rdrep => some (0x07, State.rdrep)
  | .mcackh => some (0x08, State.mcackh)
  | .endl => some (0x09, State.endl)
  | .stream => some (0x0A, State.streamCmd)
  | .route => some (0x0B, State.routeCmd)
  | .inbound => some (0x0C, State.inboundCmd)
  | .attest => some (0x0E, State.attest)
  | .ident => some (0x0F, State.ident)
  | _ => none

/-! ### What jobs compute (03 R77, R78, 09 R230, R235, 10 R254, 14 R359 to R363) -/

/-- The bytes from `a` on, `n` of them, as an agent's plain reads find them: unchecked bytes of device memory at the places `p`, in runs of 64, none of
them poisoned, whose translation stands in a TLB, so that it does not change with what is written; and as its plain writes find them. -/
def State.seesAt (s : State) (ag : Agent) (need : Need) (p : Nat → Nat) (a n : Nat) : Prop :=
  a + n ≤ 2 ^ 56 ∧ ∀ va, a ≤ va → va < a + n →
    (∃ l, (∀ m, ({ s with mem := m } : State).xlate ag.tlbs ag.asid va need = .ok l) ∧ l.host = false ∧ l.chk = false ∧ apertureOf l.pa = none ∧ (homeOf l.pa).isSome = true ∧ l.pa = p va) ∧
    (va % 64 ≠ 0 → a < va → p va = p (va - 1) + 1)
def State.mayRead (s : State) (ag : Agent) (p : Nat → Nat) (a n : Nat) : Prop :=
  s.seesAt ag .rd p a n ∧ ∀ va, a ≤ va → va < a + n → p va / 64 ∉ s.poison
abbrev State.mayWrite (s : State) (ag : Agent) (p : Nat → Nat) (a n : Nat) : Prop := s.seesAt ag .wr p a n

/-- The number in `n` bytes from `va` on, little-endian. -/
def State.leAt (s : State) (p : Nat → Nat) (va n : Nat) : Nat := ofLe ((List.range n).map (fun i => rdB s.mem (p (va + i))))

/-- No byte of memory stands anywhere but at its home, and no race record shadows one. -/
def State.allHome (s : State) : Prop := s.memOk ∧ (∀ d, (s.die d).dirty = []) ∧ s.recOf = []

/-- A job's signal finds nobody waiting. -/
def State.quietSignal (s : State) (j : Job) : Prop := ∀ e i, sigSem j.card j.srcDie = some (e, i) → (s.sem e i).q = []

/-- FP32 operations on finite operands, rounded to nearest even. -/
def addRule (a b z : BitVec 32) : Prop := f32Finite a → f32Finite b → f32Round (f32Val a + f32Val b) 1 (a.getLsbD 31 && b.getLsbD 31) z
def subRule (a b z : BitVec 32) : Prop := f32Finite a → f32Finite b → f32Round (f32Val a - f32Val b) 1 (a.getLsbD 31 && !b.getLsbD 31) z
def mulRule (a b z : BitVec 32) : Prop := f32Finite a → f32Finite b → f32Round (f32Val a * f32Val b) (2 ^ 149) (a.getLsbD 31 ^^ b.getLsbD 31) z
def fmaRule (a b c z : BitVec 32) : Prop := f32Finite a → f32Finite b → f32Finite c →
  f32Round (f32Val a * f32Val b + f32Val c * 2 ^ 149) (2 ^ 149) ((a.getLsbD 31 ^^ b.getLsbD 31) && c.getLsbD 31) z

/-- The ascending chain of FMAs of `n` elements from `z0`. -/
def chainRule (n : Nat) (row x : Nat → BitVec 32) (z0 z : BitVec 32) : Prop :=
  ∃ p : Nat → BitVec 32, p 0 = z0 ∧ (∀ j, j < n → fmaRule (row j) (x j) (p j) (p (j + 1))) ∧ p n = z

/-- A finite FP32 number rounded to BF16, to nearest even. -/
def b16Round (x : BitVec 32) (z : BitVec 16) : Prop :=
  let wide (y : BitVec 16) : BitVec 32 := y ++ (0 : BitVec 16)
  if 0x7F7F8000 ≤ (x.extractLsb' 0 31).toNat then z = (if x.getLsbD 31 then 0xFF80 else 0x7F80)
  else f32Finite (wide z) ∧ z.getLsbD 15 = x.getLsbD 31 ∧ ∀ y, f32Finite (wide y) →
    (f32Val (wide z) - f32Val x).natAbs ≤ (f32Val (wide y) - f32Val x).natAbs ∧
    ((f32Val (wide z) - f32Val x).natAbs = (f32Val (wide y) - f32Val x).natAbs → f32Val (wide y) ≠ f32Val (wide z) → z.getLsbD 0 = false)

/-- Element `j` of a vector of FP32 (or, widened, BF16) numbers at `va`. -/
def State.operand (s : State) (p : Nat → Nat) (bf : Bool) (va j : Nat) : BitVec 32 :=
  if bf then BitVec.ofNat 32 (s.leAt p (va + 2 * j) 2 * 65536) else BitVec.ofNat 32 (s.leAt p (va + 4 * j) 4)

/-- Element `k` of a packed row of integers of a Griddle type: INT8, UINT8, INT4, UINT4 (03 R53, R59). -/
def State.packed (s : State) (p : Nat → Nat) (ty va k : Nat) : Int :=
  match ty with
  | 0x09 => (BitVec.ofNat 8 (s.leAt p (va + k) 1)).toInt
  | 0x0A => s.leAt p (va + k) 1
  | 0x0B => (BitVec.ofNat 4 (s.leAt p (va + k / 2) 1 / 16 ^ (k % 2))).toInt
  | _ => (s.leAt p (va + k / 2) 1 / 16 ^ (k % 2) % 16 : Nat)

/-- Bytes of an element of a type of whole bytes (03 R53). -/
def tyBytes (ty : Nat) : Nat :=
  if ty = 1 then 8 else if ty = 0 ∨ ty = 0x18 ∨ ty = 0x19 then 4 else if ty = 2 ∨ ty = 3 ∨ ty = 0x1A ∨ ty = 0x1B then 2
  else if ty = 4 ∨ ty = 5 ∨ ty = 9 ∨ ty = 0xA then 1 else 0

/-- Element (i, j) of head `hd` of a handle's image (14 R343). -/
def headElem (im : Tbl Byte) (dv dk hd i j : Nat) : BitVec 32 :=
  BitVec.ofNat 32 (ofLe ((List.range 4).map (fun b => Tbl.look 0 im (4 * ((hd * dv + i) * dk + j) + b))))

/-- The correction u of one row: v less the prediction, times β (14 R359). -/
def corrRule (dk : Nat) (F k : Nat → BitVec 32) (v b u : BitVec 32) : Prop :=
  ∃ p d, chainRule dk F k 0 p ∧ subRule v p d ∧ mulRule b d u

/-- A value written as an output, FP32 or rounded to BF16 (14 R354). -/
def State.outAt (t : State) (p : Nat → Nat) (bf : Bool) (va i : Nat) (x : BitVec 32) : Prop :=
  if bf then f32Finite x → b16Round x (BitVec.ofNat 16 (t.leAt p (va + 2 * i) 2)) else BitVec.ofNat 32 (t.leAt p (va + 4 * i) 4) = x

/-- A queue descriptor that MAPQ takes, by its doublewords (13 R319). -/
def queueRule (q : Nat → DWord) : Prop :=
  fld (q 0) 63 56 = 0 ∧ fld (q 0) 5 5 = 0 ∧ 1 ≤ fld (q 0) 4 0 ∧ fld (q 0) 4 0 ≤ 16 ∧ fld (q 1) 63 32 = 0 ∧ fld (q 2) 63 32 = 0 ∧
    fld (q 3) 63 48 = 0 ∧ fld (q 3) 39 35 = 0 ∧ fld (q 3) 15 0 ≠ 0 ∧ fld (q 4) 63 16 = 0 ∧ fld (q 4) 7 2 = 0 ∧ q 5 = 0 ∧ q 6 = 0 ∧ q 7 = 0

/-- A stream descriptor that STREAM takes, by its doublewords: no reserved bit, and an enabled one names a ring of 2^12 to 2^34 bytes, aligned to its
size (18 R446). -/
def streamRule (q : Nat → DWord) : Prop :=
  fld (q 0) 5 0 = 0 ∧ fld (q 1) 63 56 = 0 ∧ fld (q 1) 2 0 = 0 ∧ fld (q 2) 63 56 = 0 ∧ fld (q 2) 2 0 = 0 ∧ fld (q 3) 63 16 = 0 ∧
    q 5 = 0 ∧ q 6 = 0 ∧ q 7 = 0 ∧ ((q 0).getLsbD 63 = true → 12 ≤ fld (q 0) 61 56 ∧ fld (q 0) 61 56 ≤ 34 ∧
      fld (q 0) 55 6 * 64 % 2 ^ fld (q 0) 61 56 = 0)

/-- A management command waits for Garnet of die 0, which runs (18 R439). -/
abbrev State.mayManage (s : State) : Prop := s.cmdBusy = true ∧ s.updating = none ∧ (s.die 0).alive = true

/-- The machine after a command has ended with result `r`: BUSY clear, and nothing else changed but the heartbeat of die 0's Garnet. -/
abbrev State.endsWith (s : State) (r : DWord) : State := ({ s with mstat := r } : State).garnetRan 0

/-- As `sameElse`, but that the Garnet of a die has acted. -/
def State.sameButBeat (s t : State) : Prop :=
  s.sameElse { t with dies := s.dies } ∧ ∀ d, t.die d = { s.die d with garnetAt := (t.die d).garnetAt }

/-- `n` bytes of device memory at `a`, which a command reads: they exist and hold no poison. -/
abbrev State.readable (s : State) (a n : Nat) : Prop := (homeOf a).isSome = true ∧ (homeOf (a + (n - 1))).isSome = true ∧ s.clean a n

/-- A request word of GALLOC and GRESHAPE: log2 of height and width, whether only one origin is tried, that origin; and whether it is well-formed (09
R215). -/
structure PlaceReq where
  lh : Nat
  lw : Nat
  fix : Bool
  y : Nat
  x : Nat

def placeReq (a : DWord) : PlaceReq := ⟨fld a 2 0, fld a 5 3, a.getLsbD 6, fld a 10 7, fld a 14 11⟩
def placeOk (a : DWord) : Prop :=
  let q := placeReq a
  fld a 63 15 = 0 ∧ q.lh ≤ 4 ∧ q.lw ≤ 4 ∧ (q.fix = true → q.y % 2 ^ q.lh = 0 ∧ q.x % 2 ^ q.lw = 0)

/-- Plate `p` lies in the rectangle of 2^lh rows and 2^lw columns at (y, x) (09 R212). -/
def inRect (lh lw y x p : Nat) : Prop := ∃ i j, i < 2 ^ lh ∧ j < 2 ^ lw ∧ p = 16 * (y + i) + (x + j)
abbrev Slab.has (b : Slab) (p : Nat) : Prop := inRect b.lh b.lw b.y0 b.x0 p

/-- A plate that is available, under no test and in no slab (09 R214, R215, 17 R432). -/
def Die.plateFree (D : Die) (p : Nat) : Prop :=
  D.retired.getLsbD p = false ∧ D.pendRet.getLsbD p = false ∧ D.underTest.getLsbD p = false ∧ ∀ e ∈ D.slabs, ¬ e.2.has p

/-- The places a request allows (09 R215), and their order: ascending rows, then columns. -/
def PlaceReq.allows (q : PlaceReq) (y x : Nat) : Prop :=
  if q.fix then y = q.y ∧ x = q.x else y % 2 ^ q.lh = 0 ∧ x % 2 ^ q.lw = 0 ∧ y < 16 ∧ x < 16
def sooner (y x y' x' : Nat) : Prop := y < y' ∨ y = y' ∧ x < x'

/-- Plates the slabs of a launch hold on a die (09 R215). -/
def Die.heldBy (D : Die) (l : Nat) : Nat := ((D.slabs.filter (fun e => e.2.launch == l)).map (fun e => 2 ^ (e.2.lh + e.2.lw))).sum

/-- A slab reference (09 R215). -/
def srefRule (gen lh lw y x d i : Nat) : DWord :=
  BitVec.ofNat 64 (gen * 2 ^ 22 + lw * 2 ^ 19 + lh * 2 ^ 16 + x * 2 ^ 12 + y * 2 ^ 8 + d * 2 ^ 6 + i)
def failRule (code lmask : Nat) : DWord := BitVec.ofNat 64 (2 ^ 63 + lmask * 2 ^ 8 + code)

/-- A Griddle job as its command leaves it: in window entry `win` of the current die and last in the queue of slab `i`, which was `b`. -/
def State.queuedJob (s t : State) (i : Nat) (b : Slab) (win : Nat) (kind : JobKind) (set : Nat) (c : List DWord) (j : Job) : Prop :=
  t.job? (dieOf s.cur) win = some j ∧ j.kind = kind ∧ j.slab = i ∧ j.set = set ∧ j.card = c ∧ j.st = .queued ∧
    (Tbl.find (t.die (dieOf s.cur)).slabs i).map (fun x => x.queue) = some (b.queue ++ [win])

/-- The task of the current Skillet holds lease `l` on slab `i`, which is `b`, and the slab's queue and the die's window, whose lowest free
entry is `win`, have room (09 R218, R226, 10 R247). -/
abbrev State.mayQueue (s : State) (sref : DWord) (i : Nat) (b : Slab) (l : Lease) (win : Nat) : Prop :=
  s.needSlab s.cur sref = .ok (i, b) ∧ b.lease = some l ∧ l.sk = s.cur ∧ b.queue.length < 32 ∧ s.freeWin (dieOf s.cur) = some win

/-- No handle's order holds a mark, so that taking the marks whose turn has come changes nothing (14 R376, R377). -/
def State.noMarks (s : State) : Prop := ∀ e ∈ s.handles, ∀ x ∈ e.2.ord, ∀ dst tok m, x ≠ .mark dst tok m

/-- Handle `h` of the directory is `x`, and `i` heads its order (14 R347). -/
def State.atHead (s : State) (h : Nat) (x : Handle) (i : HItem) (rest : List HItem) : Prop :=
  s.noMarks ∧ Tbl.find s.handles h = some x ∧ x.value.toNat = h ∧ x.ord = i :: rest

end Sys2Proof.Machine
end

