-- ==== Sys2Proof/Certificates/Slice0/Obligations.lean ====
section
/-! DEFINITION. The statements for the provers. -/

open Sys2Proof Sys2Proof.Machine

/-! ### The C-engine -/

/-- 04 R83 to R90, R96: every register instruction of the C-engine retires with the result of its rule in its destination (none in s0), and changes no
other register, no memory, no unit. -/
def Obligations.ScalarResults : Prop :=
  ∀ (i : Instr) (tok : BitVec 4) (d : BitVec 6) (v : Issue → DWord) (s : State), scalarRule i = some (tok, d, v) →
    s.mayIssue .C tok none none → s.straight .C →
    ∃ t, exec i s = .next t ∧ (t.tk s.cur).sameRegs ((s.tk s.cur).setS d (v (s.tk s.cur))) ∧ s.sameElse t ∧ s.retired t .C 4

/-- 04 R85, R86, R87: SEL writes sa where sd is not zero and sb where it is. CLZ counts the zero bits above the highest 1 of sa, CTZ those below the
lowest, POPC the 1 bits; SB must be zero. BFX moves the len bits of sa from pos on to the bottom of sd, zeros or, with SX, copies of their top bit
above them, and writes zero where len is 0; BFI replaces the len bits of sd from pos on by the lowest of sa. Each retires with its result in sd (s0
discards it) and changes nothing else. -/
def Obligations.SelectAndBitCounts : Prop :=
  ∀ (f : CR) (s : State), s.mayIssue .C f.tok none none → s.straight .C →
    let x := (s.tk s.cur).getS f.a
    let gives (i : Instr) (v : DWord) : Prop :=
      ∃ t, exec i s = .next t ∧ (t.tk s.cur).sameRegs ((s.tk s.cur).setS f.d v) ∧ s.sameElse t ∧ s.retired t .C 4
    ((s.tk s.cur).getS f.d ≠ 0 → gives (.sel f) x) ∧
    ((s.tk s.cur).getS f.d = 0 → gives (.sel f) ((s.tk s.cur).getS f.b)) ∧
    (f.d = 0 → (s.tk s.cur).getS f.d = 0 ∧ ∀ v, (s.tk s.cur).setS f.d v = s.tk s.cur) ∧
    (∀ n, n < 64 → x.getLsbD n = true → (∀ j, n < j → j < 64 → x.getLsbD j = false) → gives (.clz f) (BitVec.ofNat 64 (63 - n))) ∧
    (∀ n, n < 64 → x.getLsbD n = true → (∀ j, j < n → x.getLsbD j = false) → gives (.ctz f) (BitVec.ofNat 64 n)) ∧
    (x = 0 → gives (.clz f) 64 ∧ gives (.ctz f) 64 ∧ gives (.popc f) 0) ∧
    gives (.popc f) (BitVec.ofNat 64 ((List.range 64).filter x.getLsbD).length) ∧
    (let b := (s.tk s.cur).getS f.b
     let pos := (b.extractLsb' 0 6).toNat
     let len := min (b.extractLsb' 8 7).toNat (64 - pos)
     ∃ y z, gives (.bfx f) y ∧ gives (.bfi f) z ∧ ∀ n, n < 64 →
       y.getLsbD n = (if n < len then x.getLsbD (pos + n) else decide (len ≠ 0) && b.getLsbD 15 && x.getLsbD (pos + len - 1)) ∧
       z.getLsbD n = (if pos ≤ n ∧ n < pos + len then x.getLsbD (n - pos) else ((s.tk s.cur).getS f.d).getLsbD n)) ∧
    encode (.bfx f) = [packCR 0x09 0 f] ∧ encode (.bfi f) = [packCR 0x09 1 f] ∧
    encode (.sel f) = [packCR 0x08 0 f] ∧ encode (.clz f) = [packCR 0x08 1 f] ∧ encode (.ctz f) = [packCR 0x08 2 f] ∧
    encode (.popc f) = [packCR 0x08 3 f] ∧
    ((Instr.clz f).wellFormed = true ↔ f.b = 0) ∧ ((Instr.ctz f).wellFormed = true ↔ f.b = 0) ∧ ((Instr.popc f).wellFormed = true ↔ f.b = 0)

/-- 04 R89: LI writes its immediate, sign-extended; LIH moves sd up by 14 bits and puts its immediate below. One LI and four LIH build any constant,
the LI supplying its upper eight bits. -/
def Obligations.ConstantsLoaded : Prop :=
  (∀ (f : CU) (s : State), s.mayIssue .C f.tok none none → s.straight .C →
    let gives (i : Instr) (v : DWord) : Prop :=
      ∃ t, exec i s = .next t ∧ (t.tk s.cur).sameRegs ((s.tk s.cur).setS f.d v) ∧ s.sameElse t ∧ s.retired t .C 4
    gives (.li f) (f.imm.signExtend 64) ∧ gives (.lih f) ((s.tk s.cur).getS f.d <<< 14 ||| f.imm.setWidth 64) ∧
    encode (.li f) = [packCU 0x19 f] ∧ encode (.lih f) = [packCU 0x1A f]) ∧
  (∀ (x : DWord) (top : BitVec 14), top.extractLsb' 0 8 = x.extractLsb' 56 8 →
    let lih (v : DWord) (i : BitVec 14) : DWord := v <<< 14 ||| i.setWidth 64
    lih (lih (lih (lih (top.signExtend 64) (x.extractLsb' 42 14)) (x.extractLsb' 28 14)) (x.extractLsb' 14 14)) (x.extractLsb' 0 14) = x)

/-- 04 R91: LDC and STC reach the C-store doubleword at sa plus the signed immediate, computed without wrapping; outside 0 to 511 they raise
CSTORE-BOUND and store nothing. -/
def Obligations.CStoreAccess : Prop :=
  ∀ (f : CI) (s : State), s.mayIssue .C f.tok none none → s.straight .C → (s.sk s.cur).handler = none →
    let ix : Int := (((s.tk s.cur).getS f.a).toNat : Int) + f.imm.toInt
    (0 ≤ ix ∧ ix < 512 →
      (∃ t, exec (.ldc f) s = .next t ∧ (t.tk s.cur).sameRegs ((s.tk s.cur).setS f.d (Tbl.look 0 (s.tk s.cur).cst ix.toNat)) ∧
        s.sameElse t ∧ s.retired t .C 4) ∧
      (∃ t, exec (.stc f) s = .next t ∧
        (t.tk s.cur).sameRegs { s.tk s.cur with cst := Tbl.set 0 (s.tk s.cur).cst ix.toNat ((s.tk s.cur).getS f.d) } ∧
        s.sameElse t ∧ s.retired t .C 4)) ∧
    (¬ (0 ≤ ix ∧ ix < 512) →
      (∃ t, exec (.ldc f) s = .next t ∧ s.trapped t .C Code.cstoreBound ∧ (t.tk s.cur).sameRegs (s.tk s.cur)) ∧
      (∃ t, exec (.stc f) s = .next t ∧ s.trapped t .C Code.cstoreBound ∧ (t.tk s.cur).sameRegs (s.tk s.cur)))

/-- 04 R92, R93, 02 R44: SRD copies the special register it names to an s register; an index R93 does not list, and outside a handler every index of
the system space, raises ILLEGAL-OP at the word's address. -/
def Obligations.SpecialRegisterReads : Prop :=
  ∀ (f : CK) (s : State), s.mayIssue .C f.tok none none → s.straight .C →
    let t0 := s.tk s.cur
    let i := (s.sk s.cur).info
    let gives (x : DWord) : Prop :=
      ∃ t, exec (.srd f) s = .next t ∧ (t.tk s.cur).sameRegs (t0.setS f.r x) ∧ s.sameElse t ∧ s.retired t .C 4
    (f.idx = 0x000 → gives (BitVec.ofNat 64 t0.slipw)) ∧ (f.idx = 0x001 → gives i.frame.taskId) ∧ (f.idx = 0x002 → gives i.teamId) ∧
    (f.idx = 0x003 → gives (BitVec.ofNat 64 i.teamSlot)) ∧ (f.idx = 0x004 → gives (BitVec.ofNat 64 s.cur)) ∧
    (f.idx = 0x005 → gives (s.chipId.setWidth 64)) ∧ (f.idx = 0x006 → gives t0.fpctl) ∧ (f.idx = 0x007 → gives t0.srseed) ∧
    (f.idx = 0x008 → gives (BitVec.ofNat 64 i.sclk)) ∧ (f.idx = 0x009 → gives t0.remt) ∧
    (f.idx = 0x00A → gives (BitVec.ofNat 64 (s.levelOf s.cur))) ∧ (f.idx = 0x00B → gives (s.sfcOf s.cur)) ∧
    (∀ j, j < 16 → f.idx.toNat = 0x10 + j → gives (Tbl.look 0 t0.mbox j)) ∧
    (∀ h, (s.sk s.cur).handler = some h →
      (f.idx = 0x800 → gives h.cause) ∧ (f.idx = 0x801 → gives h.taddr) ∧ (f.idx = 0x802 → gives h.tinfo) ∧
      (f.idx = 0x803 → gives (BitVec.ofNat 64 h.base)) ∧ (f.idx = 0x804 → gives h.jobctl) ∧
      (f.idx = 0x805 → gives (BitVec.ofNat 64 (s.asidOf s.cur)))) ∧
    ((s.sk s.cur).handler = none → (0x00C ≤ f.idx.toNat ∧ f.idx.toNat < 0x010 ∨ 0x020 ≤ f.idx.toNat) →
      ∃ t, exec (.srd f) s = .next t ∧ s.illegal t .C ∧ (t.tk s.cur).sameRegs t0)

/-- 04 R92, R93, 01 R19, 02 R44, 03 R70, R71: SWT writes SLIPW with 1 to 64, FPCTL (flags cleared by ones), SRSEED (and the draw state a V-engine word
that has issued will leave), REMT and the mailboxes; a value a register does not accept, an RO or unlisted register, and the system space outside a
handler raise ILLEGAL-OP at the word's address and change nothing. -/
def Obligations.SpecialRegisterWrites : Prop :=
  ∀ (f : CK) (s : State), s.mayIssue .C f.tok none none → s.straight .C → (s.sk s.cur).handler = none →
    let t0 := s.tk s.cur
    let x := t0.getS f.r
    let leaves (u : Issue) : Prop :=
      ∃ t, exec (.swt f) s = .next t ∧ (t.tk s.cur).sameRegs u ∧ s.sameElse t ∧ s.retired t .C 4
    let refuses : Prop := ∃ t, exec (.swt f) s = .next t ∧ s.illegal t .C ∧ (t.tk s.cur).sameRegs t0
    (f.idx = 0x000 → if 1 ≤ x.toNat ∧ x.toNat ≤ 64 then leaves { t0 with slipw := x.toNat } else refuses) ∧
    (f.idx = 0x006 → if (x.extractLsb' 0 3).toNat < 6 then
        leaves { t0 with fpctl := x &&& 0x3F ||| t0.fpctl &&& 0x7F00 &&& ~~~x } else refuses) ∧
    (f.idx = 0x007 → leaves { t0 with srseed := x, vret := t0.vret.map (fun v => { v with seed := x }) }) ∧ (f.idx = 0x009 → leaves { t0 with remt := x }) ∧
    (∀ j, j < 16 → f.idx.toNat = 0x10 + j → leaves { t0 with mbox := Tbl.set 0 t0.mbox j x }) ∧
    (f.idx.toNat ∈ [1, 2, 3, 4, 5, 8, 10, 11, 12, 13, 14, 15] ∨ 0x020 ≤ f.idx.toNat → refuses)

/-- 01 R21, R22, R24, 04 R95, 05 R125, 06 R163: a SEND puts its source into its FIFO, before the bare token its token field may push there, and the
token field acts besides; a poisoned source raises POISON-USE. -/
def Obligations.Sends : Prop :=
  ∀ (i : Instr) (e : Engine) (tok : BitVec 4) (q : Fifo) (v : Issue → DWord) (p : Issue → Bool) (s : State),
    sendRule i = some (e, tok, q, v, p) → s.mayIssue e tok none (some q) → s.straight e →
    (p (s.tk s.cur) = false →
      ∃ t, exec i s = .next t ∧ (t.tk s.cur).sameRegs (s.tk s.cur) ∧ s.sameElse t ∧ s.retired t e 4 ∧
        ∀ g, (t.tk s.cur).fifo g = (s.tk s.cur).fifoRule e tok none (some (q, v (s.tk s.cur))) g) ∧
    (p (s.tk s.cur) = true → (s.sk s.cur).handler = none → ∃ t, exec i s = .next t ∧ s.trapped t e Code.poisonUse)

/-- 01 R21, R22, R24, 04 R95, 05 R125, 06 R163: a RECV pops the head of its FIFO, or the entry after it where its token field pops the head, and
writes that entry's value, zero of a bare token, to its destination; the token field acts besides. -/
def Obligations.Receives : Prop :=
  ∀ (i : Instr) (e : Engine) (tok : BitVec 4) (q : Fifo) (w : Issue → DWord → Issue) (s : State),
    recvRule i = some (e, tok, q, w) → s.mayIssue e tok (some q) none → s.straight e →
    ∃ t x, exec i s = .next t ∧ ((s.tk s.cur).fifo q)[if q ∈ popsRule e tok then 1 else 0]? = some (.full x) ∧
      (t.tk s.cur).sameRegs (w (s.tk s.cur) x) ∧ s.sameElse t ∧ s.retired t e 4 ∧
      ∀ g, (t.tk s.cur).fifo g = (s.tk s.cur).fifoRule e tok (some q) none g

/-- 01 R21, R22: an instruction, here NOP of the C-engine, MOVA of the A-engine and KMOV of the V-engine, whose token field finds its entries and
places pops the head of each FIFO it pops and adds a bare token to each it pushes; one that does not find them stays, and only its stall is noted. -/
def Obligations.TokenField : Prop :=
  ∀ (i : Instr) (e : Engine) (tok : BitVec 4) (s : State),
    (∃ f, i = .nop f ∧ e = .C ∧ tok = f.tok) ∨ (∃ f, i = .mova f ∧ e = .A ∧ tok = f.tok) ∨ (∃ f, i = .kmov f ∧ e = .V ∧ tok = f.tok) →
    (s.sk s.cur).busy = true → s.straight e → (∀ g, ((s.tk s.cur).fifo g).length ≤ 16) →
    let found := (∀ g ∈ popsRule e tok, ∃ x, ((s.tk s.cur).fifo g).head? = some (.full x)) ∧
      ∀ g ∈ pushesRule e tok, ((s.tk s.cur).fifo g).length < 16
    (found → ∃ t, exec i s = .next t ∧ s.retired t e 4 ∧ ∀ g, (t.tk s.cur).fifo g = (s.tk s.cur).fifoRule e tok none none g) ∧
    (¬ found → (s.sk s.cur).info.stop = none →
      ∃ t, exec i s = .next t ∧ ((t.tk s.cur).eng e).pc = ((s.tk s.cur).eng e).pc ∧ ((t.tk s.cur).eng e).stall.isSome = true ∧
        (∀ g, (t.tk s.cur).fifo g = (s.tk s.cur).fifo g) ∧ (t.tk s.cur).sameRegs (s.tk s.cur) ∧ s.sameElse t)

/-! ### Shared control -/

/-- 01 R17, R18, 04 R97, R104, R106: on the C-engine a branch is taken where its condition holds, leaves the hardware loops that do not hold its
target, and pushes its outcome to both other engines; these take the outcome from their queues and do the same; an outcome of another word raises
SHARED-CONTROL-MISMATCH; without one they wait. -/
def Obligations.Branches : Prop :=
  (∀ (i : Instr) (f : SB) (c : DWord → DWord → Prop) (s : State), branchRule i = some (f, c) → s.curEng = .C →
    (s.tk s.cur).slipOk = true → (s.sk s.cur).info.step = none →
    let pc := (s.tk s.cur).c.pc
    let dest := pc + 4 * f.off.signExtend 56
    let outside (l : LoopEnt) : Bool := decide (dest.toNat < l.start ∨ l.last < dest.toNat)
    (c ((s.tk s.cur).getS f.a) ((s.tk s.cur).getS f.b) ∨ (s.tk s.cur).c.loops = []) →
    ∃ (t : State) (taken : Bool), exec i s = .next t ∧ (taken = true ↔ c ((s.tk s.cur).getS f.a) ((s.tk s.cur).getS f.b)) ∧
      (t.tk s.cur).c.pc = (if taken then dest else pc + 4) ∧
      (t.tk s.cur).c.loops = (if taken then (s.tk s.cur).c.loops.dropWhile outside else []) ∧
      (t.tk s.cur).oqa = (s.tk s.cur).oqa ++ [⟨(s.tk s.cur).c.pc.toNat, taken, 0⟩] ∧
      (t.tk s.cur).oqv = (s.tk s.cur).oqv ++ [⟨(s.tk s.cur).c.pc.toNat, taken, 0⟩] ∧
      (t.tk s.cur).sameRegs (s.tk s.cur) ∧ s.sameElse t) ∧
  (∀ (i : Instr) (f : SB) (c : DWord → DWord → Prop) (s : State), branchRule i = some (f, c) → s.curEng ≠ .C →
    (s.sk s.cur).info.step = none → (s.sk s.cur).handler = none → (s.sk s.cur).info.stop = none →
    let pc := ((s.tk s.cur).eng s.curEng).pc
    let dest := pc + 4 * f.off.signExtend 56
    let loops := ((s.tk s.cur).eng s.curEng).loops
    let outside (l : LoopEnt) : Bool := decide (dest.toNat < l.start ∨ l.last < dest.toNat)
    let q (u : Issue) : List OutEnt := if s.curEng = .A then u.oqa else u.oqv
    (∀ taken v rest, q (s.tk s.cur) = ⟨pc.toNat, taken, v⟩ :: rest → taken = true ∨ loops = [] →
      ∃ t, exec i s = .next t ∧ q (t.tk s.cur) = rest ∧ (t.tk s.cur).sameRegs (s.tk s.cur) ∧ s.sameElse t ∧
        ((t.tk s.cur).eng s.curEng).pc = (if taken then dest else pc + 4) ∧
        ((t.tk s.cur).eng s.curEng).loops = (if taken then loops.dropWhile outside else [])) ∧
    (∀ a taken v rest, q (s.tk s.cur) = ⟨a, taken, v⟩ :: rest → a ≠ pc.toNat →
      ∃ t, exec i s = .next t ∧ s.trapped t s.curEng Code.sharedControlMismatch) ∧
    (q (s.tk s.cur) = [] →
      ∃ t, exec i s = .next t ∧ ((t.tk s.cur).eng s.curEng).pc = pc ∧ ((t.tk s.cur).eng s.curEng).stall.isSome = true))

/-- 04 R98: jumps and calls go to the target the word gives, on each engine alike; a call leaves the address after it in that engine's link register
(s63, a31, k15). A JMP leaves the hardware loops that do not hold its target (R104), a call none. R99, R100, R106: CALLR and RET go where their s
register says, which must be a multiple of 4 below 2^56; any other value raises BAD-TARGET on the C-engine. The A- and V-engine go where the outcome
they take says, and wait without one; CALLR leaves the address after it in each engine's link register. -/
def Obligations.JumpsAndCalls : Prop :=
  (∀ (i : Instr) (n : Nat) (link : Bool) (target : BitVec 56 → BitVec 56) (s : State), jumpRule i = some (n, link, target) →
    (s.curEng = .C → (s.tk s.cur).slipOk = true) → (s.sk s.cur).info.step = none →
    let pc := ((s.tk s.cur).eng s.curEng).pc
    let loops := ((s.tk s.cur).eng s.curEng).loops
    let outside (l : LoopEnt) : Bool := decide ((target pc).toNat < l.start ∨ l.last < (target pc).toNat)
    ∃ t, exec i s = .next t ∧ ((t.tk s.cur).eng s.curEng).pc = target pc ∧ s.sameElse t ∧
      ((t.tk s.cur).eng s.curEng).loops = (if link then loops else loops.dropWhile outside) ∧
      (t.tk s.cur).sameRegs
        (if link then (s.tk s.cur).linkRule s.curEng ((pc + BitVec.ofNat 56 n).setWidth 64) else s.tk s.cur)) ∧
  ((∀ (i : Instr) (r : BitVec 6) (link : Bool) (s : State), regJumpRule i = some (r, link) → s.curEng = .C →
    (s.tk s.cur).slipOk = true → s.straight .C → (s.sk s.cur).handler = none →
    let x := (s.tk s.cur).getS r
    let pc := (s.tk s.cur).c.pc
    (x.toNat % 4 = 0 ∧ x.toNat < 2 ^ 56 →
      ∃ t, exec i s = .next t ∧ (t.tk s.cur).c.pc = x.setWidth 56 ∧ s.sameElse t ∧
        (t.tk s.cur).sameRegs (if link then (s.tk s.cur).setS 63 ((pc + 4).setWidth 64) else s.tk s.cur) ∧
        (t.tk s.cur).oqa = (s.tk s.cur).oqa ++ [⟨pc.toNat, true, x⟩] ∧ (t.tk s.cur).oqv = (s.tk s.cur).oqv ++ [⟨pc.toNat, true, x⟩]) ∧
    (¬ (x.toNat % 4 = 0 ∧ x.toNat < 2 ^ 56) → ∃ t, exec i s = .next t ∧ s.trapped t .C Code.badTarget)) ∧
  (∀ (i : Instr) (r : BitVec 6) (link : Bool) (s : State), regJumpRule i = some (r, link) → s.curEng ≠ .C →
    (s.sk s.cur).info.step = none → (s.sk s.cur).info.stop = none →
    let pc := ((s.tk s.cur).eng s.curEng).pc
    let q (u : Issue) : List OutEnt := if s.curEng = .A then u.oqa else u.oqv
    (∀ taken v rest, q (s.tk s.cur) = ⟨pc.toNat, taken, v⟩ :: rest →
      ∃ t, exec i s = .next t ∧ ((t.tk s.cur).eng s.curEng).pc = v.setWidth 56 ∧ q (t.tk s.cur) = rest ∧ s.sameElse t ∧
        ((t.tk s.cur).eng s.curEng).loops = ((s.tk s.cur).eng s.curEng).loops ∧
        (t.tk s.cur).sameRegs (if link then (s.tk s.cur).linkRule s.curEng ((pc + 4).setWidth 64) else s.tk s.cur)) ∧
    (q (s.tk s.cur) = [] →
      ∃ t, exec i s = .next t ∧ ((t.tk s.cur).eng s.curEng).pc = pc ∧ ((t.tk s.cur).eng s.curEng).stall.isSome = true)))

/-- 04 R102, R105, R106: a loop word with trip count 0 goes past its last word; otherwise it enters the loop, unless four stand already, which raises
LOOP-DEPTH on the C-engine, and stops the others where they stand. LOOP has its count in the word on every engine; the A- and V-engine take that of
LOOPR and LOOPM from their outcome queue, into which the C-engine has pushed it with the taken bit of a count that is not 0; LOOP pushes none. R103,
01 R19: the last word of a loop's body, here a NOP, a MOV of the A-engine or a KMOV of the V-engine, goes back to its first word and counts the trip
down while more than one trip is left, and leaves the loop after the last; the C-engine holds before the back edge while it is SLIPW points ahead. -/
def Obligations.HardwareLoops : Prop :=
  ((∀ (i : Instr) (fin : BitVec 12) (o : Option (Issue → DWord)) (c : DWord) (s : State), loopRule i = some (fin, o, c) → s.curEng = .C →
    fin ≠ 0 → (s.tk s.cur).slipOk = true → (s.sk s.cur).info.step = none → (s.sk s.cur).handler = none →
    (s.tk s.cur).c.pc.toNat + 4 * fin.toNat + 4 < 2 ^ 56 →
    let n := (o.map (fun g => g (s.tk s.cur))).getD c
    let pc := (s.tk s.cur).c.pc.toNat
    let last := pc + 4 * fin.toNat
    let pushed (t : State) : Prop := let out := if o.isSome then [⟨pc, decide (n ≠ 0), n⟩] else []
      (t.tk s.cur).oqa = (s.tk s.cur).oqa ++ out ∧ (t.tk s.cur).oqv = (s.tk s.cur).oqv ++ out
    (n = 0 → ∃ t, exec i s = .next t ∧ (t.tk s.cur).c.pc.toNat = last + 4 ∧ (t.tk s.cur).c.loops = (s.tk s.cur).c.loops ∧
      pushed t ∧ (t.tk s.cur).sameRegs (s.tk s.cur) ∧ s.sameElse t) ∧
    (n ≠ 0 → (s.tk s.cur).c.loops.length < 4 →
      ∃ t, exec i s = .next t ∧ (t.tk s.cur).c.pc.toNat = pc + 4 ∧
        (t.tk s.cur).c.loops = ⟨pc + 4, last, n⟩ :: (s.tk s.cur).c.loops ∧ pushed t ∧ (t.tk s.cur).sameRegs (s.tk s.cur) ∧ s.sameElse t) ∧
    (n ≠ 0 → 4 ≤ (s.tk s.cur).c.loops.length → ∃ t, exec i s = .next t ∧ s.trapped t .C Code.loopDepth ∧
      (t.tk s.cur).oqa = (s.tk s.cur).oqa ∧ (t.tk s.cur).oqv = (s.tk s.cur).oqv)) ∧
  (∀ (i : Instr) (fin : BitVec 12) (o : Option (Issue → DWord)) (c : DWord) (s : State), loopRule i = some (fin, o, c) → s.curEng ≠ .C →
    fin ≠ 0 → (s.sk s.cur).info.step = none → (s.sk s.cur).info.stop = none →
    let e := s.curEng
    let q (u : Issue) : List OutEnt := if e = .A then u.oqa else u.oqv
    let pc := ((s.tk s.cur).eng e).pc.toNat
    let last := pc + 4 * fin.toNat
    last + 4 < 2 ^ 56 →
    (∀ (taken : Bool) (n : DWord) (rest : List OutEnt),
      (if o.isSome = true then q (s.tk s.cur) = ⟨pc, taken, n⟩ :: rest else n = c ∧ rest = q (s.tk s.cur)) →
      (n = 0 → ∃ t, exec i s = .next t ∧ ((t.tk s.cur).eng e).pc.toNat = last + 4 ∧ q (t.tk s.cur) = rest ∧
        ((t.tk s.cur).eng e).loops = ((s.tk s.cur).eng e).loops ∧ (t.tk s.cur).sameRegs (s.tk s.cur) ∧ s.sameElse t) ∧
      (n ≠ 0 → ((s.tk s.cur).eng e).loops.length < 4 →
        ∃ t, exec i s = .next t ∧ ((t.tk s.cur).eng e).pc.toNat = pc + 4 ∧ q (t.tk s.cur) = rest ∧
          ((t.tk s.cur).eng e).loops = ⟨pc + 4, last, n⟩ :: ((s.tk s.cur).eng e).loops ∧ (t.tk s.cur).sameRegs (s.tk s.cur) ∧ s.sameElse t) ∧
      (n ≠ 0 → 4 ≤ ((s.tk s.cur).eng e).loops.length →
        ∃ t, exec i s = .next t ∧ ((t.tk s.cur).eng e).pc.toNat = pc ∧ ((t.tk s.cur).eng e).stall.isSome = true ∧
          (t.tk s.cur).sameRegs (s.tk s.cur) ∧ s.sameElse t)) ∧
    (o.isSome = true → q (s.tk s.cur) = [] →
      ∃ t, exec i s = .next t ∧ ((t.tk s.cur).eng e).pc.toNat = pc ∧ ((t.tk s.cur).eng e).stall.isSome = true))) ∧
  ((∀ (f : CU) (s : State) (top : LoopEnt) (rest : List LoopEnt), s.mayIssue .C f.tok none none → (s.sk s.cur).info.step = none →
    (s.tk s.cur).c.loops = top :: rest → top.last = (s.tk s.cur).c.pc.toNat → (s.tk s.cur).c.pc.toNat + 4 < 2 ^ 56 → top.start < 2 ^ 56 →
    (1 < top.left.toNat → (s.sk s.cur).info.stop = none → (s.tk s.cur).slipOk = true →
      ∃ t, exec (.nop f) s = .next t ∧ (t.tk s.cur).c.pc.toNat = top.start ∧
        (t.tk s.cur).c.loops = { top with left := top.left - 1 } :: rest ∧ (t.tk s.cur).dA = (s.tk s.cur).dA + 1) ∧
    (top.left.toNat ≤ 1 → rest = [] →
      ∃ t, exec (.nop f) s = .next t ∧ (t.tk s.cur).c.pc.toNat = top.last + 4 ∧ (t.tk s.cur).c.loops = []) ∧
    (1 < top.left.toNat → (s.tk s.cur).slipOk = false →
      ∃ t, exec (.nop f) s = .next t ∧ (t.tk s.cur).c.loops = top :: rest ∧ (t.tk s.cur).dA = (s.tk s.cur).dA ∧
        (t.tk s.cur).c.edge = some ((s.tk s.cur).c.pc.toNat, (s.tk s.cur).c.pc.toNat + 4))) ∧
  (∀ (i : Instr) (e : Engine) (tok : BitVec 4) (s : State) (top : LoopEnt) (rest : List LoopEnt),
    (∃ f, i = .mova f ∧ e = .A ∧ tok = f.tok) ∨ (∃ f, i = .kmov f ∧ e = .V ∧ tok = f.tok) → s.mayIssue e tok none none →
    (s.sk s.cur).info.step = none → ((s.tk s.cur).eng e).loops = top :: rest → top.last = ((s.tk s.cur).eng e).pc.toNat →
    ((s.tk s.cur).eng e).pc.toNat + 4 < 2 ^ 56 → top.start < 2 ^ 56 →
    (1 < top.left.toNat → (s.sk s.cur).info.stop = none →
      ∃ t, exec i s = .next t ∧ ((t.tk s.cur).eng e).pc.toNat = top.start ∧
        ((t.tk s.cur).eng e).loops = { top with left := top.left - 1 } :: rest) ∧
    (top.left.toNat ≤ 1 → rest = [] →
      ∃ t, exec i s = .next t ∧ ((t.tk s.cur).eng e).pc.toNat = top.last + 4 ∧ ((t.tk s.cur).eng e).loops = [])))

/-! ### The A-engine -/

/-- 05 R110, R122: address arithmetic writes its result with clear poison, or, from a poisoned source, that source's value with its poison. -/
def Obligations.AddressResults : Prop :=
  ∀ (i : Instr) (tok : BitVec 4) (d : BitVec 5) (srcs : List (BitVec 5)) (v : Issue → DWord) (s : State),
    addressRule i = some (tok, d, srcs, v) → s.mayIssue .A tok none none → s.straight .A →
    ∃ t, exec i s = .next t ∧ s.sameElse t ∧ s.retired t .A 4 ∧
      (t.tk s.cur).sameRegs (match srcs.find? (fun r => (s.tk s.cur).getAP r) with
        | some r => (s.tk s.cur).setA d ((s.tk s.cur).getA r) true
        | none => (s.tk s.cur).setA d (v (s.tk s.cur)) false)

/-- 05 R111, R121, R122: a scalar load whose checks pass writes the extended value and clear poison. A speculative load raises nothing: where its
address is poisoned or a check of its address fails, its destination takes the address, poisoned; an uncorrectable error is not deferred, and is no
such check. -/
def Obligations.ScalarLoads : Prop :=
  (∀ (i : Instr) (a : ScalarAccess) (s s1 : State) (l : Loc) (x : Nat), loadRule i = some a → i.wellFormed = true →
     s.mayIssue .A a.tok none none → s.straight .A → (∀ r ∈ a.regs, (s.tk s.cur).getAP r = false) →
     s.plainCheck s.cur (a.ea (s.tk s.cur)) a.n false = .ok l → s.load s.cur l a.n = .ok (x, s1) →
     ∃ t, exec i s = .next t ∧ s.retired t .A 4 ∧ t.mem = s1.mem ∧
       (t.tk s.cur).sameRegs ((s.tk s.cur).setA a.rt (extLoad a.n a.sg x) false)) ∧
  (∀ (i : Instr) (a : ScalarAccess) (s : State), loadRule i = some a → i.wellFormed = true → a.spec = true →
     s.mayIssue .A a.tok none none → s.straight .A →
     (∃ r ∈ a.regs, (s.tk s.cur).getAP r = true) ∨ (∃ e, s.plainCheck s.cur (a.ea (s.tk s.cur)) a.n false = .error e ∧ e.mc = none) →
     ∃ t, exec i s = .next t ∧ s.sameElse t ∧ s.retired t .A 4 ∧
       (t.tk s.cur).sameRegs ((s.tk s.cur).setA a.rt (a.ea (s.tk s.cur)) true))

/-- 05 R108, R109, R113: an address of 2^56 or more raises ADDRESS-RANGE, and one that is no multiple of the access size MISALIGNED, at every scalar
load that is not speculative and every scalar store. A vector access, of memory or of the scratchpad, whose a30 names element size code 3, more than
8,192 bytes, or, indexed, more than 2,048 elements raises ACCESS-SHAPE, and one that finds a30 poisoned POISON-USE that names a30, the speculative
forms too; no queue changes then. -/
def Obligations.AddressChecks : Prop :=
  (∀ (i : Instr) (a : ScalarAccess) (s : State), (loadRule i = some a ∨ storeRule i = some a) → i.wellFormed = true → a.spec = false →
     s.mayIssue .A a.tok none none → (s.sk s.cur).handler = none → (∀ r ∈ a.regs, (s.tk s.cur).getAP r = false) →
     (storeRule i = some a → (s.tk s.cur).getAP a.rt = false) →
     (2 ^ 56 ≤ (a.ea (s.tk s.cur)).toNat → ∃ t, exec i s = .next t ∧ s.trapped t .A Code.addressRange ∧ t.mem = s.mem) ∧
     ((a.ea (s.tk s.cur)).toNat < 2 ^ 56 → (a.ea (s.tk s.cur)).toNat % a.n ≠ 0 →
       ∃ t, exec i s = .next t ∧ s.trapped t .A Code.misaligned ∧ t.mem = s.mem)) ∧
  (∀ (i : Instr) (tok : BitVec 4) (indexed : Bool) (s : State),
     (∃ a, (vectorLoadRule i = some a ∨ vectorStoreRule i = some a) ∧ tok = a.tok ∧ indexed = a.offs.isSome) ∨
       (∃ f, (i = .spldVector f ∨ i = .spstVector f) ∧ tok = f.tok ∧ indexed = false) →
     s.mayIssue .A tok none none → (s.sk s.cur).handler = none →
     let z := (((s.tk s.cur).getA 30).extractLsb' 14 2).toNat
     let n := (((s.tk s.cur).getA 30).extractLsb' 0 14).toNat
     let raises (code : Nat) : Prop := ∃ t, exec i s = .next t ∧ s.trapped t .A code ∧ t.mem = s.mem ∧
       (∀ q, (t.tk s.cur).queue q = (s.tk s.cur).queue q) ∧ (code = Code.poisonUse → ∃ r, (t.tk s.cur).a.st = .faulted r ∧ r.info = 30)
     ((s.tk s.cur).getAP 30 = false → (z = 3 ∨ 8192 < n * 2 ^ z ∨ (indexed = true ∧ 2048 < n)) → raises Code.accessShape) ∧
     ((s.tk s.cur).getAP 30 = true → raises Code.poisonUse))

/-- 05 R111, R123: a scalar store whose checks pass performs the store of its register's low bytes; a poisoned register raises POISON-USE. -/
def Obligations.ScalarStores : Prop :=
  ∀ (i : Instr) (a : ScalarAccess) (s : State), storeRule i = some a → i.wellFormed = true → s.mayIssue .A a.tok none none → s.straight .A →
    (∀ l s1, (∀ r ∈ a.regs ++ [a.rt], (s.tk s.cur).getAP r = false) → s.plainCheck s.cur (a.ea (s.tk s.cur)) a.n true = .ok l →
      s.store s.cur l a.n (((s.tk s.cur).getA a.rt).toNat % 2 ^ (8 * a.n)) = .ok s1 →
      ∃ t, exec i s = .next t ∧ s.retired t .A 4 ∧ t.mem = s1.mem ∧ (t.tk s.cur).sameRegs (s.tk s.cur)) ∧
    ((∃ r ∈ a.regs ++ [a.rt], (s.tk s.cur).getAP r = true) → (s.sk s.cur).handler = none →
      ∃ t, exec i s = .next t ∧ s.trapped t .A Code.poisonUse ∧ t.mem = s.mem)

/-- 05 R111, 08 R187, 00 R6: a scalar load from the memory of its own die reads the bytes there, little-endian, and changes no byte; a store leaves
its bytes there, little-endian, and every byte outside them as before. 08 R197: from and to another die's memory they act on the die's own copy of the
line, and no byte at the home changes. R198: a host line is read and written in the die's cache. R203, R204, R206, R207: on a checked page the access
is made where no entry of the granule's record conflicts, and enters itself there; else it is MEMORY-MODEL. 17 R414 to R417: through a layout aperture
each byte is that of its place in storage, or its pad byte, to which a store does nothing. -/
def Obligations.MemoryBytes : Prop :=
  (∀ (s : State) (l : Loc) (n : Nat), 1 ≤ n → n ≤ 8 → s.plainPlace l n → s.clean l.pa n →
    ∃ t, s.load s.cur l n = .ok (rdNat s.mem l.pa n, t) ∧ t.mem = s.mem ∧
      ∀ sg, n ∈ [1, 2, 4, 8] → extLoad n sg (rdNat s.mem l.pa n) = extRule n sg (rdNat s.mem l.pa n)) ∧
  (∀ (s : State) (l : Loc) (n x : Nat), 1 ≤ n → n ≤ 8 → x < 2 ^ (8 * n) → s.plainPlace l n →
    ∃ t, s.store s.cur l n x = .ok t ∧ rdNat t.mem l.pa n = x ∧ ∀ a, a < l.pa ∨ l.pa + n ≤ a → rdB t.mem a = rdB s.mem a) ∧
  (∀ (s : State) (l : Loc) (n x h : Nat), 1 ≤ n → l.pa % 64 + n ≤ 64 → x < 2 ^ (8 * n) → l.host = false → l.chk = false → l.homeOnly = false →
    apertureOf l.pa = none → homeOf l.pa = some h → h ≠ dieOf s.cur → ((s.sk s.cur).info.snap = none ∨ (s.sk s.cur).handler.isSome = true) →
    let d := dieOf s.cur
    (s.clean l.pa n → ∃ t, s.load s.cur l n = .ok (ofLe ((List.range n).map (fun i => s.remoteByte d (l.pa + i))), t) ∧ t.mem = s.mem ∧
      (Tbl.find (t.die d).clean (l.pa / 64)).isSome = true ∧ ∀ a, t.remoteByte d a = s.remoteByte d a) ∧
    ((s.die d).dirty.length < 1024 ∨ (∃ y ∈ (s.die d).dirty, y.line = l.pa / 64) →
      ∃ t, s.store s.cur l n x = .ok t ∧ t.mem = s.mem ∧ (∃ y ∈ (t.die d).dirty, y.line = l.pa / 64) ∧
        (∀ i, i < n → t.remoteByte d (l.pa + i) = BitVec.ofNat 8 (x / 256 ^ i)) ∧
        ∀ a, a < l.pa ∨ l.pa + n ≤ a → t.remoteByte d a = s.remoteByte d a)) ∧
  (∀ (s : State) (l : Loc) (n x : Nat), 1 ≤ n → l.pa % 64 + n ≤ 64 → x < 2 ^ (8 * n) → l.host = true → l.chk = false → s.melperUp = true →
    ((s.sk s.cur).info.snap = none ∨ (s.sk s.cur).handler.isSome = true) → (∀ d, Tbl.find (s.die d).hostLines (l.pa / 64) = none) →
    (∃ t, s.load s.cur l n = .ok (rdNat s.hostMem l.pa n, t) ∧ t.mem = s.mem ∧ t.hostMem = s.hostMem) ∧
    ∃ t h, s.store s.cur l n x = .ok t ∧ t.mem = s.mem ∧ t.hostMem = s.hostMem ∧
      Tbl.find (t.die (dieOf s.cur)).hostLines (l.pa / 64) = some h ∧ h.dirty = true ∧
      (∀ d, d ∈ allDies → d ≠ dieOf s.cur → Tbl.find (t.die d).hostLines (l.pa / 64) = none) ∧ ∀ i, i < 64 →
        h.data.getD i 0 = if l.pa % 64 ≤ i ∧ i < l.pa % 64 + n then BitVec.ofNat 8 (x / 256 ^ (i - l.pa % 64)) else
          rdB s.hostMem (64 * (l.pa / 64) + i)) ∧
  (∀ (s : State) (L : Launch) (l p : Loc) (n x : Nat), 1 ≤ n → l.pa % 64 + n ≤ 64 → x < 2 ^ (8 * n) → l.host = false → l.chk = true →
    apertureOf l.pa = none → (homeOf l.pa).isSome = true → (homeOf (l.pa + (n - 1))).isSome = true → (s.die (dieOf s.cur)).dirty = [] →
    ((s.sk s.cur).info.snap = none ∨ (s.sk s.cur).handler.isSome = true) → s.launch? (s.sk s.cur).info.launch = some L → L.tag < 2 ^ 32 →
    (s.sk s.cur).info.sclk < 2 ^ 32 → (∀ w, s.recordLoc (s.agentOf s.cur) l.va w = .ok p) → p.host = false →
    (l.pa + n ≤ p.pa ∨ p.pa + 32 ≤ l.pa) →
    let tid := (s.sk s.cur).info.frame.taskId.toNat
    let g := tid / 2 ^ 32 % 256 * 2 ^ 16 + tid % 2 ^ 16
    let c := (s.sk s.cur).info.sclk
    let e := recEntry s.mem p.pa L.tag
    let holds (m : List Host.Cell) (w r0 r1 : Nat) : Prop := rdNat m p.pa 8 = w ∧ rdNat m (p.pa + 8) 8 = r0 ∧ rdNat m (p.pa + 16) 8 = r1 ∧
      rdNat m (p.pa + 24) 8 = L.tag ∧ ∀ a, (a < p.pa ∨ p.pa + 32 ≤ a) → (a < l.pa ∨ l.pa + n ≤ a) → rdB m a = rdB s.mem a
    (∀ write, (clashRule (e 0) g c ∨ write = true ∧ (clashRule (e 1) g c ∨ clashRule (e 2) g c) ↔
      ∃ r, s.raceCheck (s.agentOf s.cur) l write = .error r ∧ r.code = Code.memoryModel)) ∧
    (∀ write, ¬ (clashRule (e 0) g c ∨ write = true ∧ (clashRule (e 1) g c ∨ clashRule (e 2) g c)) →
      s.raceCheck (s.agentOf s.cur) l write = .ok ()) ∧
    (∀ write k r, s.raceCheck (s.agentOf s.cur) l write = .error r → (k < 3 ∧ clashRule (e k) g c ∧ (∀ j, j < k → ¬ clashRule (e j) g c)) →
      r.addr = BitVec.ofNat 64 l.va ∧ r.entry = k ∧ r.info = BitVec.ofNat 64 (entClk (e k) * 2 ^ 32 + entTag (e k) * 256)) ∧
    (s.clean l.pa n → ∃ t, s.load s.cur l n = .ok (rdNat s.mem l.pa n, t) ∧
      holds t.mem (e 0) (readersRule (e 1) (e 2) g c).1 (readersRule (e 1) (e 2) g c).2 ∧ rdNat t.mem l.pa n = rdNat s.mem l.pa n) ∧
    (∃ t, s.store s.cur l n x = .ok t ∧ rdNat t.mem l.pa n = x ∧
      holds t.mem (entryRule g (if e 0 % 2 = 1 then max c (entClk (e 0)) else c)) (e 1 / 2 * 2) (e 2 / 2 * 2))) ∧
  (∀ (s : State) (l : Loc) (n x die g o : Nat), 1 ≤ n → n ≤ 8 → x < 2 ^ (8 * n) → l.host = false → l.chk = false →
    apertureOf l.pa = some (die, g, o) → l.pa % 2 ^ 34 + n ≤ 2 ^ 34 → ((s.sk s.cur).info.snap = none ∨ (s.sk s.cur).handler.isSome = true) →
    (s.die (dieOf s.cur)).dirty = [] → s.poison = [] → ∀ ws, s.tensorDws die (s.asidOf s.cur) g = .ok ws →
    let q := fun i => ws.getD i 0
    let t := tensorRule q
    (t.fits q die →
      (∃ u, s.load s.cur l n = .ok (ofLe ((List.range n).map (fun i => match t.place (o + i) with
          | .inl a => rdB s.mem a
          | .inr b => b)), u) ∧ u.mem = s.mem) ∧
      ∃ u, s.store s.cur l n x = .ok u ∧
        (∀ i a, i < n → t.place (o + i) = .inl a → rdB u.mem a = BitVec.ofNat 8 (x / 256 ^ i)) ∧
        ∀ a, (∀ i, i < n → t.place (o + i) ≠ .inl a) → rdB u.mem a = rdB s.mem a) ∧
    ((q 0).testBit 63 = false → ∃ u, s.load s.cur l n = .ok (0, u)))

/-- 01 R26, 05 R107, R109, R114 to R117, R121, R122: a vector load whose elements all pass their checks takes a new entry of its load queue, its lanes
enabled and none poisoned; an indexed one also pops its offsets. No other queue changes, and no byte of memory where its elements lie in the memory of
its die. There, element i, at the address R115, R116 or R117 gives it, stands in bytes size·i on of the entry, and bytes that no element fills are
zero; an element of a speculative load whose check fails, or whose offset lane is poisoned, reads as zero with its lane poisoned, PADDR being the
address of the lowest such, and from a poisoned base or stride register all of them do, PADDR being the first such register. -/
def Obligations.VectorLoads : Prop :=
  (∀ (i : Instr) (a : VectorAccess) (s s1 : State) (size n x : Nat) (o : QEnt) (oks : List (Nat × Loc)), vectorLoadRule i = some a →
    s.mayIssue .A a.tok none none → s.straight .A → vecShape (s.tk s.cur) a.offs.isSome = .ok (size, n) →
    a.offsets (s.tk s.cur) = some o → (∀ r ∈ a.regs, (s.tk s.cur).getAP r = false) → (s.tk s.cur).qFull a.q = false →
    checkAll (a.chk s o size false) (a.elems (s.tk s.cur) o size n) = .ok oks →
    gather (fun s l => s.load s.cur l size) size oks s 0 = .ok (x, s1) → s1.cur = s.cur →
    ∃ t, exec i s = .next t ∧ s.retired t .A 4 ∧ (t.tk s.cur).sameRegs (s.tk s.cur) ∧
      (∃ e, (t.tk s.cur).queue a.q = (s.tk s.cur).queue a.q ++ [e] ∧ e.data = BitVec.ofNat 65536 x ∧
        e.en = laneMask size (oks.map (·.1)) ∧ e.poison = 0) ∧
      (∀ q, a.offs = some q → (t.tk s.cur).queue q = ((s.tk s.cur).queue q).tail) ∧
      (∀ q, q ≠ a.q → a.offs ≠ some q → (t.tk s.cur).queue q = (s.tk s.cur).queue q) ∧ t.mem = s1.mem ∧
      ((∀ e ∈ oks, s.plainPlace e.2 size ∧ s.clean e.2.pa size) → t.mem = s.mem)) ∧
  (∀ (i : Instr) (a : VectorAccess) (s : State) (o : QEnt) (loc : Nat → Loc), vectorLoadRule i = some a →
    s.mayIssue .A a.tok none none → s.straight .A → a.offsets (s.tk s.cur) = some o → (s.tk s.cur).qFull a.q = false →
    (s.tk s.cur).getAP 30 = false →
    let z := (((s.tk s.cur).getA 30).extractLsb' 14 2).toNat
    let n := (((s.tk s.cur).getA 30).extractLsb' 0 14).toNat
    let size := 2 ^ z
    z < 3 → n * size ≤ 8192 → (a.offs.isSome = true → n ≤ 2048) →
    let ea := a.addr (s.tk s.cur) o size
    let act (j : Nat) : Prop := j < n ∧ a.on o j = true
    let badLane (j : Nat) : Prop := a.offs.isSome = true ∧ o.poison.getLsbD j = true
    let pass (j : Nat) : Prop := ¬ badLane j ∧ s.plainCheck s.cur (ea j) size false = .ok (loc j)
    let fails (j : Nat) : Prop := badLane j ∨ ∃ r, s.plainCheck s.cur (ea j) size false = .error r ∧ r.mc = none
    let leaves (ok : Nat → Prop) (padr : DWord → Prop) : Prop :=
      ∃ t e, exec i s = .next t ∧ s.retired t .A 4 ∧ (t.tk s.cur).sameRegs (s.tk s.cur) ∧ t.mem = s.mem ∧
        (t.tk s.cur).queue a.q = (s.tk s.cur).queue a.q ++ [e] ∧ padr e.paddr ∧
        (∀ q, a.offs = some q → (t.tk s.cur).queue q = ((s.tk s.cur).queue q).tail) ∧
        (∀ j, act j → ok j → (e.data.extractLsb' (8 * (size * j)) (8 * size)).toNat = rdNat s.mem (loc j).pa size) ∧
        (∀ b, b < 8192 → (∀ j, act j → ok j → b < size * j ∨ size * j + size ≤ b) → e.data.extractLsb' (8 * b) 8 = 0) ∧
        ∀ m, m < 2048 → (e.en.getLsbD m = true ↔ ∃ j, act j ∧ size * j / 4 = m) ∧
          (e.poison.getLsbD m = true ↔ ∃ j, act j ∧ ¬ ok j ∧ size * j / 4 = m)
    ((∀ r ∈ a.regs, (s.tk s.cur).getAP r = false) → (∀ j, act j → pass j ∨ a.spec = true ∧ fails j) →
      (∀ j, act j → pass j → s.plainPlace (loc j) size ∧ s.clean (loc j).pa size) →
      leaves pass (fun p => ∀ j, act j → ¬ pass j → (∀ m, m < j → act m → pass m) → p = ea j)) ∧
    (∀ r, a.spec = true → a.regs.find? (fun r => (s.tk s.cur).getAP r) = some r →
      leaves (fun _ => False) (fun p => p = (s.tk s.cur).getA r)))

/-- 05 R107, R109, R114 to R118: a vector store whose enabled elements all pass their checks writes them in ascending order and pops its data, and its
offsets. No other queue changes; where the elements lie in the memory of its die, no byte outside them changes. There, element i is taken from bytes
size·i on of the entry and stands at the address R115, R116 or R117 gives it, the highest of several that share a byte prevailing; an element whose
data or offset lane is not enabled is not written. -/
def Obligations.VectorStores : Prop :=
  (∀ (i : Instr) (a : VectorAccess) (s s1 : State) (size n : Nat) (o x : QEnt) (oks : List (Nat × Loc)), vectorStoreRule i = some a →
    i.wellFormed = true → s.mayIssue .A a.tok none none → s.straight .A → vecShape (s.tk s.cur) a.offs.isSome = .ok (size, n) →
    a.offsets (s.tk s.cur) = some o → ((s.tk s.cur).queue a.q).head? = some x → (∀ r ∈ a.regs, (s.tk s.cur).getAP r = false) →
    checkAll (poisonLane a.q x (elemLane size) (a.chk s o size true)) (enabledElems x size (a.elems (s.tk s.cur) o size n)) = .ok oks →
    scatter (fun u l v => u.store s.cur l size v) size x.data oks s = .ok s1 →
    ∃ t, exec i s = .next t ∧ s.retired t .A 4 ∧ (t.tk s.cur).sameRegs (s.tk s.cur) ∧ t.mem = s1.mem ∧
      (t.tk s.cur).queue a.q = ((s.tk s.cur).queue a.q).tail ∧
      (∀ q, a.offs = some q → (t.tk s.cur).queue q = ((s.tk s.cur).queue q).tail) ∧
      (∀ q, q ≠ a.q → a.offs ≠ some q → (t.tk s.cur).queue q = (s.tk s.cur).queue q) ∧
      ((∀ e ∈ oks, s.plainPlace e.2 size) →
        ∀ b, (∀ e ∈ oks, b < e.2.pa ∨ e.2.pa + size ≤ b) → rdB t.mem b = rdB s.mem b)) ∧
  (∀ (i : Instr) (a : VectorAccess) (s : State) (o x : QEnt) (loc : Nat → Loc), vectorStoreRule i = some a → i.wellFormed = true →
    s.mayIssue .A a.tok none none → s.straight .A → a.offsets (s.tk s.cur) = some o → ((s.tk s.cur).queue a.q).head? = some x →
    (s.tk s.cur).getAP 30 = false → (∀ r ∈ a.regs, (s.tk s.cur).getAP r = false) →
    let z := (((s.tk s.cur).getA 30).extractLsb' 14 2).toNat
    let n := (((s.tk s.cur).getA 30).extractLsb' 0 14).toNat
    let size := 2 ^ z
    z < 3 → n * size ≤ 8192 → (a.offs.isSome = true → n ≤ 2048) →
    let act (j : Nat) : Prop := j < n ∧ a.on o j = true ∧ x.en.getLsbD (size * j / 4) = true
    (∀ j, act j → (a.offs.isSome = true → o.poison.getLsbD j = false) ∧ x.poison.getLsbD (size * j / 4) = false ∧
      s.plainCheck s.cur (a.addr (s.tk s.cur) o size j) size true = .ok (loc j) ∧ s.plainPlace (loc j) size) →
    ∃ t, exec i s = .next t ∧ s.retired t .A 4 ∧ (t.tk s.cur).sameRegs (s.tk s.cur) ∧
      (∀ b, (∀ j, act j → b < (loc j).pa ∨ (loc j).pa + size ≤ b) → rdB t.mem b = rdB s.mem b) ∧
      ∀ j b, act j → b < size → (∀ m, act m → j < m → (loc j).pa + b < (loc m).pa ∨ (loc m).pa + size ≤ (loc j).pa + b) →
        rdB t.mem ((loc j).pa + b) = x.data.extractLsb' (8 * (size * j + b)) 8)

/-- 05 R119, R120: the scalar scratchpad accesses read and write eight bytes of the task's scratchpad at base plus offset, which must lie within 2
MiB, else SCRATCH-BOUND, and be a multiple of 8, else MISALIGNED. -/
def Obligations.ScratchpadScalars : Prop :=
  ∀ (f : AL) (s : State), s.mayIssue .A f.tok none none → s.straight .A → (s.sk s.cur).handler = none →
    (s.tk s.cur).getAP f.a = false → (s.tk s.cur).getAP f.b = false →
    let o : Int := (((s.tk s.cur).getA f.a).toNat : Int) + f.imm.toInt
    (0 ≤ o ∧ o + 8 ≤ 2097152 ∧ o % 8 = 0 →
      (∃ t, exec (.spld f) s = .next t ∧ s.sameElse t ∧ s.retired t .A 8 ∧
        (t.tk s.cur).sameRegs ((s.tk s.cur).setA f.d (BitVec.ofNat 64 (rdScr (s.sk s.cur).scr o.toNat 8)) false)) ∧
      (∃ t, exec (.spst f) s = .next t ∧ s.retired t .A 8 ∧ (t.tk s.cur).sameRegs (s.tk s.cur) ∧ t.mem = s.mem ∧
        rdScr (t.sk s.cur).scr o.toNat 8 = ((s.tk s.cur).getA f.b).toNat ∧
        ∀ b, b < o.toNat ∨ o.toNat + 8 ≤ b → Tbl.look 0 (t.sk s.cur).scr b = Tbl.look 0 (s.sk s.cur).scr b)) ∧
    (o < 0 ∨ 2097152 < o + 8 →
      (∃ t, exec (.spld f) s = .next t ∧ s.trapped t .A Code.scratchBound) ∧
      (∃ t, exec (.spst f) s = .next t ∧ s.trapped t .A Code.scratchBound ∧ (t.sk s.cur).scr = (s.sk s.cur).scr)) ∧
    (0 ≤ o → o + 8 ≤ 2097152 → o % 8 ≠ 0 →
      (∃ t, exec (.spld f) s = .next t ∧ s.trapped t .A Code.misaligned) ∧
      (∃ t, exec (.spst f) s = .next t ∧ s.trapped t .A Code.misaligned ∧ (t.sk s.cur).scr = (s.sk s.cur).scr))

/-- 05 R109, R114, R120, R123: the vector scratchpad accesses move the contiguous elements a30 names, which start at base plus offset: SPLD appends
one queue entry that holds them, its lanes enabled and none poisoned; SPST pops the queue head and writes its enabled elements, and no other byte. A
poisoned base register or, of a store, a poisoned enabled lane raises POISON-USE; else an element outside the 2 MiB SCRATCH-BOUND; else a misaligned
one MISALIGNED; nothing is moved then. That an element outside is reported before a misaligned one of a lower number is the model's reading of R109
and R136 (log 52). -/
def Obligations.ScratchpadVectors : Prop :=
  ∀ (f : AL) (s : State) (size n : Nat), s.mayIssue .A f.tok none none → s.straight .A → vecShape (s.tk s.cur) false = .ok (size, n) →
    let o : Int := (((s.tk s.cur).getA f.a).toNat : Int) + f.imm.toInt
    let q := qsQueue f.qs
    let at_ (i : Nat) : Nat := (o + size * i).toNat
    let inside (i : Nat) : Prop := 0 ≤ o + size * i ∧ o + size * i + size ≤ 2097152
    let kept (t : State) : Prop := (t.sk s.cur).scr = (s.sk s.cur).scr ∧ t.mem = s.mem ∧ (t.tk s.cur).queue q = (s.tk s.cur).queue q
    ((s.tk s.cur).getAP f.a = false →
      ((s.tk s.cur).qFull q = false → (∀ i, i < n → inside i ∧ at_ i % size = 0) →
        ∃ t e, exec (.spldVector f) s = .next t ∧ s.sameElse t ∧ s.retired t .A 8 ∧ (t.tk s.cur).sameRegs (s.tk s.cur) ∧
          (t.tk s.cur).queue q = (s.tk s.cur).queue q ++ [e] ∧ e.en = laneMask size (List.range n) ∧ e.poison = 0 ∧
          ∀ i, i < n → elemOf e.data size i = rdScr (s.sk s.cur).scr (at_ i) size) ∧
      ((s.sk s.cur).handler = none → (∃ i, i < n ∧ ¬ inside i) →
        ∃ t, exec (.spldVector f) s = .next t ∧ s.trapped t .A Code.scratchBound ∧ kept t) ∧
      ((s.sk s.cur).handler = none → (∀ i, i < n → inside i) → (∃ i, i < n ∧ at_ i % size ≠ 0) →
        ∃ t, exec (.spldVector f) s = .next t ∧ s.trapped t .A Code.misaligned ∧ kept t) ∧
      (∀ x, ((s.tk s.cur).queue q).head? = some x →
        let on (i : Nat) : Prop := i < n ∧ x.en.getLsbD (elemLane size i) = true
        let bad (i : Nat) : Prop := x.poison.getLsbD (elemLane size i) = true
        ((∀ i, on i → ¬ bad i ∧ inside i ∧ at_ i % size = 0) →
          ∃ t, exec (.spstVector f) s = .next t ∧ s.retired t .A 8 ∧ (t.tk s.cur).sameRegs (s.tk s.cur) ∧ t.mem = s.mem ∧
            (t.tk s.cur).queue q = ((s.tk s.cur).queue q).tail ∧
            (∀ i, on i → rdScr (t.sk s.cur).scr (at_ i) size = elemOf x.data size i) ∧
            (∀ b, (∀ i, on i → b < at_ i ∨ at_ i + size ≤ b) → Tbl.look 0 (t.sk s.cur).scr b = Tbl.look 0 (s.sk s.cur).scr b)) ∧
        ((s.sk s.cur).handler = none → (∃ i, on i ∧ bad i) →
          ∃ t, exec (.spstVector f) s = .next t ∧ s.trapped t .A Code.poisonUse ∧ kept t) ∧
        ((s.sk s.cur).handler = none → (∀ i, on i → ¬ bad i) → (∃ i, on i ∧ ¬ inside i) →
          ∃ t, exec (.spstVector f) s = .next t ∧ s.trapped t .A Code.scratchBound ∧ kept t) ∧
        ((s.sk s.cur).handler = none → (∀ i, on i → ¬ bad i ∧ inside i) → (∃ i, on i ∧ at_ i % size ≠ 0) →
          ∃ t, exec (.spstVector f) s = .next t ∧ s.trapped t .A Code.misaligned ∧ kept t))) ∧
    ((s.tk s.cur).getAP f.a = true → (s.sk s.cur).handler = none →
      (∃ t, exec (.spldVector f) s = .next t ∧ s.trapped t .A Code.poisonUse ∧ kept t) ∧
      ((s.tk s.cur).queue q ≠ [] → ∃ t, exec (.spstVector f) s = .next t ∧ s.trapped t .A Code.poisonUse ∧ kept t))

/-- 05 R124: CHKP retires and changes nothing where the register, or every enabled lane of the queue head, is clean; a poisoned one raises
DEFERRED-FAULT. -/
def Obligations.DeferredFaults : Prop :=
  ∀ (f : AL) (s : State), s.mayIssue .A f.tok none none → s.straight .A → (s.sk s.cur).handler = none →
    ((s.tk s.cur).getAP f.a = false →
      ∃ t, exec (.chkp f) s = .next t ∧ s.sameElse t ∧ s.retired t .A 8 ∧ (t.tk s.cur).sameRegs (s.tk s.cur)) ∧
    ((s.tk s.cur).getAP f.a = true → ∃ t, exec (.chkp f) s = .next t ∧ s.trapped t .A Code.deferredFault) ∧
    (∀ x, ((s.tk s.cur).queue (qsQueue f.qs)).head? = some x → x.arrived = true →
      (x.en &&& x.poison = 0 →
        ∃ t, exec (.chkpQueue f) s = .next t ∧ s.sameElse t ∧ s.retired t .A 8 ∧ (t.tk s.cur).sameRegs (s.tk s.cur)) ∧
      (x.en &&& x.poison ≠ 0 → ∃ t, exec (.chkpQueue f) s = .next t ∧ s.trapped t .A Code.deferredFault))

/-- 05 R126, R127, 08 R187: an acquire load reads, a release store writes, the word at its address in the memory of its die, at every scope; the fence
changes no register and no byte. A store with sc ordering at system scope to a line the host caches waits for the host first: that it stays at its
word and writes nothing until then is the model's reading of R127 and 08 R198 (log 40). -/
def Obligations.OrderedAccesses : Prop :=
  ∀ (f : AL) (s : State) (l : Loc), s.mayIssue .A f.tok none none → s.straight .A → s.noTurns → s.backInv = [] →
    (s.tk s.cur).getAP f.a = false → (s.tk s.cur).getAP f.b = false →
    let n := if f.w64 then 8 else 4
    let ea := (s.tk s.cur).getA f.a + f.imm.signExtend 64
    s.plainPlace l n →
    (s.syncCheck s.cur ea n .rd false = .ok l → s.clean l.pa n →
      ∃ t, exec (.lda f) s = .next t ∧ s.retired t .A 8 ∧ t.mem = s.mem ∧
        (t.tk s.cur).sameRegs ((s.tk s.cur).setA f.d (BitVec.ofNat 64 (rdNat s.mem l.pa n)) false)) ∧
    (s.syncCheck s.cur ea n .wr false = .ok l → (f.ord = true → f.scope = 3 → l.pa / 64 ∉ s.hostCopies) →
      ∃ t, exec (.stl f) s = .next t ∧ s.retired t .A 8 ∧ (t.tk s.cur).sameRegs (s.tk s.cur) ∧
        rdNat t.mem l.pa n = ((s.tk s.cur).getA f.b).toNat % 2 ^ (8 * n) ∧
        ∀ a, a < l.pa ∨ l.pa + n ≤ a → rdB t.mem a = rdB s.mem a) ∧
    (s.syncCheck s.cur ea n .wr false = .ok l → f.ord = true → f.scope = 3 → l.pa / 64 ∈ s.hostCopies →
      ∃ t, exec (.stl f) s = .next t ∧ (t.tk s.cur).a.pc = (s.tk s.cur).a.pc ∧ t.mem = s.mem ∧ l.pa / 64 ∈ t.backInv) ∧
    (∃ t, exec (.fence f) s = .next t ∧ s.retired t .A 8 ∧ (t.tk s.cur).sameRegs (s.tk s.cur) ∧ t.mem = s.mem)

/-- 05 R127, R128 to R130, 08 R198: an atomic on the memory of its die returns the old value and leaves the new one, and no other byte changes; one
with ORD = 0 at system scope to a line the host caches waits for the host first, so that it is performed at that scope before what follows it (the
model's reading, log 40). -/
def Obligations.AtomicResults : Prop :=
  ∀ (i : Instr) (f : AL) (sg : Bool) (op : Nat → Nat → Nat → Nat → Option Nat) (s : State) (l : Loc), atomicRule i = some (f, sg, op) →
    s.mayIssue .A f.tok none none → s.straight .A → s.noTurns → s.backInv = [] →
    (∀ r ∈ [f.a, f.b, f.c], (s.tk s.cur).getAP r = false) →
    let n := if f.w64 then 8 else 4
    let old := rdNat s.mem l.pa n
    let new := (op (8 * n) old (((s.tk s.cur).getA f.b).toNat % 2 ^ (8 * n)) (((s.tk s.cur).getA f.c).toNat % 2 ^ (8 * n))).getD old
    s.plainPlace l n → s.clean l.pa n → s.syncCheck s.cur ((s.tk s.cur).getA f.a + f.imm.signExtend 64) n .rw true = .ok l →
    s.decideLow s.cur (dieOf s.cur) (decAtomic l.va (s.sk s.cur).info.frame.taskId) = .ok s →
    let cached := f.ord = false ∧ f.scope = 3 ∧ l.pa / 64 ∈ s.hostCopies
    (¬ cached → ∃ t, exec i s = .next t ∧ s.retired t .A 8 ∧ (t.tk s.cur).sameRegs ((s.tk s.cur).setA f.d (extRule n sg old) false) ∧
      rdNat t.mem l.pa n = new ∧ ∀ a, a < l.pa ∨ l.pa + n ≤ a → rdB t.mem a = rdB s.mem a) ∧
    (cached → ∃ t, exec i s = .next t ∧ (t.tk s.cur).a.pc = (s.tk s.cur).a.pc ∧ t.mem = s.mem ∧ l.pa / 64 ∈ t.backInv)

/-- 05 R131, R132, R134, R135: WAITA returns at once with the doubleword where it differs from the expected value; where it does not, the A-engine
waits at it with its watch armed. PFB retires when its prefetch is accepted and changes no register and no byte; each of its pushes is a place the
prefetch holds, and with a poisoned operand or a count of zero the prefetch completes at once. When a prefetch completes, the places it holds become
bare tokens and its semaphore, if it has one, rises by one. -/
def Obligations.WatchedWaits : Prop :=
  (∀ (f : AL) (s : State) (l : Loc), s.mayIssue .A f.tok none none → s.straight .A → s.noTurns → (s.sk s.cur).info.stop = none →
     (s.tk s.cur).watch = none → (s.sk s.cur).info.granted = false → (∀ r ∈ [f.a, f.b, f.c], (s.tk s.cur).getAP r = false) →
     s.plainPlace l 8 → s.clean l.pa 8 → s.syncCheck s.cur ((s.tk s.cur).getA f.a + f.imm.signExtend 64) 8 .rd true = .ok l →
     (BitVec.ofNat 64 (rdNat s.mem l.pa 8) ≠ (s.tk s.cur).getA f.b →
       ∃ t, exec (.waita f) s = .next t ∧ s.retired t .A 8 ∧ t.mem = s.mem ∧
         (t.tk s.cur).sameRegs ((s.tk s.cur).setA f.d (BitVec.ofNat 64 (rdNat s.mem l.pa 8)) false)) ∧
     (BitVec.ofNat 64 (rdNat s.mem l.pa 8) = (s.tk s.cur).getA f.b → (s.die (dieOf s.cur)).watches.length < 1024 →
       ∃ t, exec (.waita f) s = .next t ∧ (t.tk s.cur).a.pc = (s.tk s.cur).a.pc ∧ (t.tk s.cur).a.stall.isSome = true ∧
         (t.tk s.cur).sameRegs (s.tk s.cur) ∧ t.mem = s.mem ∧
         (t.tk s.cur).watch.map (fun w => (w.granule, w.woken)) = some (l.pa / 64, false) ∧ s.cur ∈ (t.die (dieOf s.cur)).watches)) ∧
  (∀ (f : AL) (s : State), s.mayIssue .A f.tok none none → s.straight .A →
     let t0 := s.tk s.cur
     let id := freshPf t0.pfs
     let now := t0.getAP f.a = true ∨ t0.getAP f.b = true ∨ t0.getA f.b = 0
     ∃ u : State, s.sameElse u ∧ s.retired u .A 8 ∧ (u.tk s.cur).sameRegs t0 ∧
       (u.tk s.cur).pfs = t0.pfs ++ [⟨id, s.pfbSem s.cur f t0⟩] ∧
       (∀ g, (u.tk s.cur).fifo g = ((t0.tokPop .A f.tok).tokPush .A f.tok (.held id)).fifo g) ∧
       (¬ now → exec (.pfb f) s = .next u) ∧ (now → exec (.pfb f) s = .next (u.prefetchDone s.cur id))) ∧
  (∀ (sk id : Nat) (p : Prefetch) (s : State), (s.tk sk).pfs.find? (fun p => p.id == id) = some p →
     let tokens (l : List FifoEnt) : List FifoEnt := l.map (fun e => if e = .held id then .full 0 else e)
     let done (t : State) : Prop :=
       exec (.prefetchComplete sk id) s = .next t ∧ t = s.prefetchDone sk id ∧ t.mem = s.mem ∧ (t.tk sk).sameRegs (s.tk sk) ∧
         (t.tk sk).pfs = (s.tk sk).pfs.filter (fun p => p.id != id) ∧ ∀ g, (t.tk sk).fifo g = tokens ((s.tk sk).fifo g)
     (p.sem = none → ∃ t, done t ∧ t.dies = s.dies) ∧
     (∀ d i, p.sem = some (d, i) → (s.sem d i).q = [] → ∃ t, done t ∧ (t.sem d i).value = min ((s.sem d i).value + 1) 4294967295))

/-! ### The V-engine -/

/-- 06 R137 to R163, 03 R70, R71: every vector word whose sources have arrived, whose destination queue has room and whose own condition holds
retires; it changes no byte, no s and no a register, no v, mask or k register but those it writes, not VL, the quantisation window or the draw state
unless it is one that moves them, and clears no floating-point flag. One that pushes nothing leaves FPCTL and SRSEED as they are until it retires with
the V-engine's next decode step. -/
def Obligations.VectorWords : Prop :=
  ∀ (i : Instr) (r : VectorWord) (s : State) (xs : List VSrc), vectorRule i = some r → s.mayIssue .V r.f.tok none none → s.straight .V →
    (s.tk s.cur).vsrcs r.os = .ok xs → (r.f.qsel.getLsbD 3 = true → (s.tk s.cur).qFull (if r.f.d.getLsbD 0 then .sq1 else .sq0) = false) →
    r.ok (s.tk s.cur) xs = true →
    ∃ t, exec i s = .next t ∧ s.sameElse t ∧ s.retired t .V r.len ∧ (t.tk s.cur).s = (s.tk s.cur).s ∧ (t.tk s.cur).ar = (s.tk s.cur).ar ∧
      (t.tk s.cur).aP = (s.tk s.cur).aP ∧ (t.tk s.cur).cst = (s.tk s.cur).cst ∧ (t.tk s.cur).mbox = (s.tk s.cur).mbox ∧
      (t.tk s.cur).slipw = (s.tk s.cur).slipw ∧ (t.tk s.cur).remt = (s.tk s.cur).remt ∧
      (s.tk s.cur).fpctl &&& (t.tk s.cur).fpctl = (s.tk s.cur).fpctl ∧
      (∀ n, n ∉ r.vs (s.tk s.cur) → (t.tk s.cur).getV n = (s.tk s.cur).getV n ∧ (t.tk s.cur).getVP n = (s.tk s.cur).getVP n) ∧
      (∀ n, n ∉ r.ms → (t.tk s.cur).getM n = (s.tk s.cur).getM n) ∧
      (∀ n, n ∉ r.ks → (t.tk s.cur).getK n = (s.tk s.cur).getK n ∧ (t.tk s.cur).getKP n = (s.tk s.cur).getKP n) ∧
      (r.length = false → (t.tk s.cur).vl = (s.tk s.cur).vl) ∧
      (r.window = false → (t.tk s.cur).wp = (s.tk s.cur).wp ∧ (t.tk s.cur).qn = (s.tk s.cur).qn ∧ (t.tk s.cur).win = (s.tk s.cur).win) ∧
      ((s.tk s.cur).rmode r.f ≠ .sr → (t.tk s.cur).drawState = (s.tk s.cur).drawState) ∧
      (pushesRule .V r.f.tok = [] → r.f.qsel.getLsbD 3 = false →
        (t.tk s.cur).fpctl = (s.tk s.cur).fpctl ∧ (t.tk s.cur).srseed = (s.tk s.cur).srseed)

/-- 06 R138, R140, R147 to R150, R159: the short logic and sign instructions act on each lane below VL and leave every other lane, register and flag.
Integer arithmetic with a k register is modulo 2^32, shifts are by no more than 32, VADDS and VSUBS clamp to the range of their type; VSEL, VPERM,
slides, VBCAST, VIOTA, VMOV, VCOMPR, VEXT and VINS move lanes; VCMP compares. A masked-off lane is kept, or zero where MZ says so, and lanes from VL
on are kept. R153 to R155: VQMAX copies its source to the window, finds each block's largest magnitude, and adds an entry, whose scales for MXE4M3
follow from it. -/
def Obligations.LaneResults : Prop :=
  (∀ (i : Instr) (f : VR) (op : BitVec 32 → BitVec 32 → BitVec 32) (s : State), logicRule i = some (f, op) →
    s.mayIssue .V f.tok none none → s.straight .V → (s.tk s.cur).vl ≤ 2048 →
    ∃ t, exec i s = .next t ∧ s.retired t .V 4 ∧ ((s.tk s.cur).vret = none → (t.tk s.cur).fpctl = (s.tk s.cur).fpctl) ∧
      (∀ j, j < (s.tk s.cur).vl →
        (t.tk s.cur).lane f.d.toNat j = op ((s.tk s.cur).lane f.a.toNat j) ((s.tk s.cur).lane f.b.toNat j)) ∧
      (∀ j, (s.tk s.cur).vl ≤ j → j < 2048 → (t.tk s.cur).lane f.d.toNat j = (s.tk s.cur).lane f.d.toNat j) ∧
      (∀ r, r ≠ f.d.toNat → (t.tk s.cur).getV r = (s.tk s.cur).getV r)) ∧
  (∀ (s : State), s.straight .V → (s.tk s.cur).vl ≤ 2048 →
    let t0 := s.tk s.cur
    let does (i : Instr) (len : Nat) (p : Issue → Prop) : Prop := ∃ t, exec i s = .next t ∧ s.retired t .V len ∧ p (t.tk s.cur)
    (∀ i f op, wrapRule i = some (f, op) → f.ty = 0x18 ∨ f.ty = 0x19 → f.qsel = 0 → s.mayIssue .V f.tok none none →
      does i 8 (fun u => t0.lanesAfter u f (fun j x => x = op (f.ty == 0x18) (t0.lane f.a.toNat j) ((t0.getK f.b.toNat).setWidth 32)))) ∧
    (∀ i r op, shiftRule i = some (r, op) → r.f.qsel = 0 → s.mayIssue .V r.f.tok none none → t0.getKP r.f.b.toNat = false →
      does i r.len (fun u => t0.lanesAfter u r.f (fun j x => x = op (t0.lane r.f.a.toNat j) (Nat.min (t0.getK r.f.b.toNat).toNat 32)))) ∧
    (∀ i r g, moveRule i = some (r, g) → r.f.qsel = 0 → s.mayIssue .V r.f.tok none none → r.ok t0 [] = true →
      does i r.len (fun u => t0.lanesAfter u r.f (fun j x => x = g t0 j))) ∧
    (∀ i f op w sg, satRule i = some (f, op) → satType f.ty.toNat = some (w, sg) → f.qsel = 0 → s.mayIssue .V f.tok none none →
      does i 8 (fun u => ∀ j, j < 2048 * 32 / w → (j < 32 * t0.vl / w ∧ t0.acts f (w * j / 32) →
          intOf sg (u.elt w f.d.toNat j) = max (intMin w sg) (min (intMax w sg)
            (op (intOf sg (t0.elt w f.a.toNat j)) (intOf sg (t0.elt w f.b.toNat j))))) ∧
        (¬ t0.acts f (w * j / 32) → u.elt w f.d.toNat j = (if w * j / 32 < t0.vl ∧ f.mz = true then 0 else t0.elt w f.d.toNat j)))) ∧
    (∀ f : VL, f.qsel = 0 → s.mayIssue .V f.tok none none →
      (f.ty = 0 ∨ f.ty = 0x18 ∨ f.ty = 0x19 →
        does (.vsel f) 8 (fun u => ∀ j, j < 2048 → u.lane f.d.toNat j = (if t0.vl ≤ j then t0.lane f.d.toNat j
          else if (t0.getM f.msk.toNat).getLsbD j = true ∨ f.men = false then t0.lane f.a.toNat j else t0.lane f.b.toNat j))) ∧
      (let act := (List.range t0.vl).filter (fun j => !f.men || (t0.getM f.msk.toNat).getLsbD j)
       does (.vcompr f) 8 (fun u => u.getK f.b.toNat = BitVec.ofNat 64 act.length ∧ ∀ j, j < 2048 → u.lane f.d.toNat j =
         (match act[j]? with
           | some i => t0.lane f.a.toNat i
           | none => if j < t0.vl ∧ f.mz = true then 0 else t0.lane f.d.toNat j))) ∧
      (t0.getKP f.b.toNat = false →
        let n := (t0.getK f.b.toNat).toNat
        does (.vext f) 8 (fun u => u.getK f.d.toNat = (if n < 2048 then (t0.lane f.a.toNat n).setWidth 64 else 0)) ∧
        does (.vins f) 8 (fun u => ∀ j, j < 2048 → u.lane f.d.toNat j = (if j = n then (t0.getK f.a.toNat).setWidth 32 else t0.lane f.d.toNat j))) ∧
      ((∀ j, t0.acts f j → (t0.getVP f.a.toNat).getLsbD j = false ∧ (t0.getVP f.b.toNat).getLsbD j = false) →
        let x (j : Nat) := t0.lane f.a.toNat j
        let y (j : Nat) := t0.lane f.b.toNat j
        let sets (c : Nat → Prop) : Prop := does (.vcmp f) 8 (fun u => ∀ j, j < 2048 → ((u.getM f.d.toNat).getLsbD j = true ↔
          t0.acts f j ∧ c j ∨ j < t0.vl ∧ ¬ t0.acts f j ∧ f.mz = false ∧ (t0.getM f.d.toNat).getLsbD j = true))
        let on (key : BitVec 32 → Int) (nan : Nat → Prop) : Prop :=
          (f.aux.toNat = 0 → sets (fun j => ¬ nan j ∧ key (x j) = key (y j))) ∧ (f.aux.toNat = 1 → sets (fun j => nan j ∨ key (x j) ≠ key (y j))) ∧
          (f.aux.toNat = 2 → sets (fun j => ¬ nan j ∧ key (x j) < key (y j))) ∧ (f.aux.toNat = 3 → sets (fun j => ¬ nan j ∧ key (x j) ≤ key (y j))) ∧
          (f.aux.toNat = 4 → sets (fun j => ¬ nan j ∧ key (y j) < key (x j))) ∧ (f.aux.toNat = 5 → sets (fun j => ¬ nan j ∧ key (y j) ≤ key (x j)))
        (f.ty = 0x18 → on BitVec.toInt (fun _ => False)) ∧ (f.ty = 0x19 → on (fun z => z.toNat) (fun _ => False)) ∧
        (f.ty = 0 → t0.fpctl = 0 → on f32Key (fun j => f32NaN (x j) ∨ f32NaN (y j)) ∧
          (f.aux.toNat = 6 → sets (fun j => f32NaN (x j) ∨ f32NaN (y j))))) ∧
      (f.ty = 0x0D → f.men = false → t0.qn < 8 → t0.wp < 8 → t0.fpctl = 0 → (∀ j, j < t0.vl → ¬ f32NaN (t0.lane f.a.toNat j)) →
        let mag (j : Nat) : Nat := ((t0.lane f.a.toNat j).extractLsb' 0 31).toNat
        does (.vqmax f) 8 (fun u => u.qn = t0.qn + 1 ∧ u.wp = (t0.wp + 1) % 8 ∧ (Tbl.look {} u.win t0.wp).ty = 0x0D ∧ (Tbl.look {} u.win t0.wp).n = t0.vl ∧
          (f.d.toNat ≠ 56 + t0.wp → ∀ j, j < t0.vl → u.lane (56 + t0.wp) j = t0.lane f.a.toNat j) ∧
          ∀ b, 32 * b < t0.vl →
            let m := u.lane f.d.toNat b
            let sc := ((Tbl.look {} u.win t0.wp).scales.extractLsb' (8 * b) 8).toNat
            (∀ j, j < t0.vl → j / 32 = b → mag j ≤ m.toNat) ∧ (∃ j, j < t0.vl ∧ j / 32 = b ∧ mag j = m.toNat) ∧
            (m.toNat = 0x7F800000 → sc = 0xFF) ∧ (m = 0 → sc = 0) ∧
            (m ≠ 0 → f32Finite m → sc ≤ 254 ∧ (0 < sc → (2 : Int) ^ (sc + 30) ≤ f32Val m) ∧ (sc < 254 → f32Val m < (2 : Int) ^ (sc + 31)))))))

/-- 03 R55, R66, R72 to R74, 06 R147: VADD, VSUB, VMUL, VFMA, VFMS, VFNMA, VDIV, VRCP, VSQRT and VRSQ of FP32 round the exact result once, to nearest
even under FPCTL = 0; of a NaN they make the default NaN. R152: VCVT from 32-bit integers and BF16 to FP32, and from FP32 to 32-bit integers. R158: a
reduction combines the active lanes in its fixed tree. R160, R161: VTLU and VTLD round each step of their polynomials. R156: VQCVT to MXE4M3 takes the
oldest window entry, divides by its scales and rounds. -/
def Obligations.FloatResults : Prop :=
  ∀ (s : State), s.straight .V → (s.tk s.cur).vl ≤ 2048 → (s.tk s.cur).fpctl = 0 →
    let t0 := s.tk s.cur
    let does (i : Instr) (len : Nat) (p : Issue → Prop) : Prop := ∃ t, exec i s = .next t ∧ s.retired t .V len ∧ p (t.tk s.cur)
    (∀ i r n R, floatRule i = some (r, n, R) → r.f.ty = 0 → r.f.rm = 0 → r.f.qsel = 0 → s.mayIssue .V r.f.tok none none →
      does i r.len (fun u => t0.lanesAfter u r.f (fun j z =>
        let a := t0.lane r.f.a.toNat j
        let b := t0.lane r.f.b.toNat j
        let c := t0.lane r.f.c.toNat j
        ((∀ x ∈ [a, b, c].take n, f32Finite x) → R a b c z) ∧ ((∃ x ∈ [a, b, c].take n, f32NaN x) → z = 0x7FC00000)))) ∧
    (∀ f : VL, f.rm = 0 → f.qsel = 0 → s.mayIssue .V f.tok none none →
      (f.ty = 0 → f.c = 0x18 ∨ f.c = 0x19 →
        does (.vcvt f) 8 (fun u => t0.lanesAfter u f (fun j z => f32Round (intOf (f.c == 0x18) (t0.lane f.a.toNat j) * 2 ^ 149) 1 false z))) ∧
      (f.ty = 0 → f.c = 2 → does (.vcvt f) 8 (fun u => t0.lanesAfter u f (fun j z =>
        let x := (t0.elt 16 f.a.toNat j).setWidth 32 <<< 16
        z = (if f32NaN x then 0x7FC00000 else x)))) ∧
      (f.ty = 0x18 ∨ f.ty = 0x19 → f.c = 0 → does (.vcvt f) 8 (fun u => t0.lanesAfter u f (fun j z =>
        let x := t0.lane f.a.toNat j
        (f32NaN x → z = 0) ∧
        (f32Finite x → ∃ k : Int, (k * 2 ^ 150 - 2 * f32Val x).natAbs ≤ 2 ^ 149 ∧ ((k * 2 ^ 150 - 2 * f32Val x).natAbs = 2 ^ 149 → k % 2 = 0) ∧
          intOf (f.ty == 0x18) z = max (intMin 32 (f.ty == 0x18)) (min (intMax 32 (f.ty == 0x18)) k))))) ∧
      (let act (j : Nat) : Option (BitVec 32) :=
        if decide (j < t0.vl) && (!f.men || (t0.getM f.msk.toNat).getLsbD j) then some (t0.lane f.a.toNat j) else none
       let wide (sg : Bool) (x : BitVec 32) : DWord := if sg then x.signExtend 64 else x.setWidth 64
       let least (sg : Bool) (x y : BitVec 32) : BitVec 32 := if intOf sg x ≤ intOf sg y then x else y
       let most (sg : Bool) (x y : BitVec 32) : BitVec 32 := if intOf sg x ≤ intOf sg y then y else x
       let mag (sg : Bool) (x : BitVec 32) : BitVec 32 := if sg ∧ x.toInt < 0 then -x else x
       (∀ sg, f.ty = (if sg then 0x18 else 0x19) →
         does (.vredsum f) 8 (fun u => u.getK f.d.toNat = wide sg ((treeRule (· + ·) 11 act).getD 0)) ∧
         does (.vredmin f) 8 (fun u => u.getK f.d.toNat = wide sg ((treeRule (least sg) 11 act).getD (if sg then 0x7FFFFFFF else 0xFFFFFFFF))) ∧
         does (.vredmax f) 8 (fun u => u.getK f.d.toNat = wide sg ((treeRule (most sg) 11 act).getD (if sg then 0x80000000 else 0))) ∧
         does (.vredamax f) 8 (fun u => u.getK f.d.toNat =
           wide false ((treeRule (most false) 11 (fun j => (act j).map (mag sg))).getD 0))) ∧
       (f.ty = 0 → (∀ j x, act j = some x → f32Finite x) →
         does (.vredsum f) 8 (fun u => ∃ add : BitVec 32 → BitVec 32 → BitVec 32,
           (∀ x y, f32Finite x → f32Finite y → f32Round (f32Val x + f32Val y) 1 (x.getLsbD 31 && y.getLsbD 31) (add x y)) ∧
           u.getK f.d.toNat = wide false ((treeRule add 11 act).getD 0)))) ∧
      (f.ty = 0 → 
        let tab (n : Nat) := t0.lane f.b.toNat n
        let good (z : BitVec 32) : Prop := f32Finite z
        let piece (j : Nat) (p g : BitVec 32) (n : Nat) : Prop := ∃ u, f32Finite u ∧ f32Round (f32Val (t0.lane f.a.toNat j) - f32Val (tab 0)) 1
            ((t0.lane f.a.toNat j).getLsbD 31 && !(tab 0).getLsbD 31) u ∧
          f32Round (f32Val u * f32Val (tab 1)) (2 ^ 149) (u.getLsbD 31 ^^ (tab 1).getLsbD 31) p ∧ f32Finite p ∧ f32Finite g ∧
          0 ≤ f32Val p ∧ f32Val p < (tab 2).toNat * 2 ^ 149 ∧ n = (f32Val p).toNat / 2 ^ 149 ∧ f32Val g = f32Val p - n * 2 ^ 149 ∧ g.getLsbD 31 = false
        let fma (x y c z : BitVec 32) : Prop :=
          f32Round (f32Val x * f32Val y + f32Val c * 2 ^ 149) (2 ^ 149) ((x.getLsbD 31 ^^ y.getLsbD 31) && c.getLsbD 31) z
        1 ≤ (tab 2).toNat → (tab 2).toNat ≤ 256 → good (tab 0) → good (tab 1) →
        does (.vtlu f) 8 (fun u => t0.lanesAfter u f (fun j z => ∀ p g n a, good (t0.lane f.a.toNat j) → piece j p g n →
          good (tab (4 + 4 * n)) → good (tab (5 + 4 * n)) → good (tab (6 + 4 * n)) → fma (tab (6 + 4 * n)) g (tab (5 + 4 * n)) a → good a →
          fma a g (tab (4 + 4 * n)) z)) ∧
        does (.vtld f) 8 (fun u => t0.lanesAfter u f (fun j z => ∀ p g n c d, good (t0.lane f.a.toNat j) → piece j p g n →
          good (tab (5 + 4 * n)) → good (tab (6 + 4 * n)) → f32Round (2 * f32Val (tab (6 + 4 * n))) 1 ((tab (6 + 4 * n)).getLsbD 31) c → good c →
          fma c g (tab (5 + 4 * n)) d → good d →
          f32Round (f32Val d * f32Val (tab 1)) (2 ^ 149) (d.getLsbD 31 ^^ (tab 1).getLsbD 31) z))) ∧
      (let w := (t0.wp + 8 - t0.qn) % 8
       let e := Tbl.look {} t0.win w
       f.ty = 0x0D → 0 < t0.qn → t0.qn ≤ 8 → e.ty = 0x0D → e.n ≤ 2048 →
       does (.vqcvt f) 8 (fun u => u.qn = t0.qn - 1 ∧
         (∀ b, 32 * b < e.n → (u.getV f.b.toNat).extractLsb' (8 * b) 8 = e.scales.extractLsb' (8 * b) 8) ∧
         (f.d ≠ f.b → ∀ j, j < e.n →
           let x := t0.lane (56 + w) j
           let sc := (e.scales.extractLsb' (8 * (j / 32)) 8).toNat
           let z := u.elt 8 f.d.toNat j
           (sc = 0xFF → z = 0) ∧
           (sc ≠ 0xFF → f32Finite x → (f32Val x).natAbs ≤ 237568 * 2 ^ (13 + sc) → e4m3Finite z ∧ z.getLsbD 7 = x.getLsbD 31 ∧
             ∀ y, e4m3Finite y → (e4m3Val z * 2 ^ (13 + sc) - f32Val x).natAbs ≤ (e4m3Val y * 2 ^ (13 + sc) - f32Val x).natAbs ∧
               ((e4m3Val z * 2 ^ (13 + sc) - f32Val x).natAbs = (e4m3Val y * 2 ^ (13 + sc) - f32Val x).natAbs → e4m3Val y ≠ e4m3Val z →
                 z.getLsbD 0 = false))))))

/-- 06 R139, R151, R162: VCFG sets VL to its k register or 2,048, whichever is less, and reports it; VMOP writes the mask its AUX names; the k
instructions write their results. -/
def Obligations.ScalarSideOfV : Prop :=
  (∀ (f : VL) (s : State), s.mayIssue .V f.tok none none → s.straight .V → f.qsel = 0 →
    ((s.tk s.cur).getKP f.a.toNat = false →
      ∃ t, exec (.vcfg f) s = .next t ∧ (t.tk s.cur).vl = Nat.min ((s.tk s.cur).getK f.a.toNat).toNat 2048 ∧
        (t.tk s.cur).getK f.d.toNat = BitVec.ofNat 64 (t.tk s.cur).vl ∧ s.retired t .V 8) ∧
    (∃ t, exec (.vmop f) s = .next t ∧ s.retired t .V 8 ∧
      ((s.tk s.cur).vret = none → (t.tk s.cur).sameRegs ((s.tk s.cur).setM f.d.toNat
        (match f.aux.toNat with
          | 0 => (s.tk s.cur).getM f.a.toNat &&& (s.tk s.cur).getM f.b.toNat
          | 1 => (s.tk s.cur).getM f.a.toNat ||| (s.tk s.cur).getM f.b.toNat
          | 2 => (s.tk s.cur).getM f.a.toNat ^^^ (s.tk s.cur).getM f.b.toNat
          | 3 => (s.tk s.cur).getM f.a.toNat &&& ~~~(s.tk s.cur).getM f.b.toNat
          | 4 => ~~~(s.tk s.cur).getM f.a.toNat
          | 5 => BitVec.allOnes 2048
          | _ => 0))))) ∧
  (∀ (i : Instr) (tok : BitVec 4) (d : Nat) (v : Issue → DWord) (p : Issue → Bool) (s : State), kRule i = some (tok, d, v, p) →
    s.mayIssue .V tok none none → s.straight .V →
    ∃ t, exec i s = .next t ∧ s.sameElse t ∧ s.retired t .V 4 ∧
      (t.tk s.cur).sameRegs ((s.tk s.cur).setK d (v (s.tk s.cur)) (p (s.tk s.cur))))

/-! ### Commands of the C-engine -/

/-- 07 R166, R168, R177, R180: SPAWN and SPAWNL put one entry on the top of the Skillet's deque, with the next TASKIDs of the root, and clear KILLOK;
a range of none puts none. R181, R182, R183: JOIN retires where its counter stands at 0 and else spins; TEND stops the C-engine at its end once the
others have ended and no job is left; YIELD answers 0 and goes on, or 1 and stops. That a SPAWNL of no iterations clears KILLOK (R176), and that
WSCOPE follows RSCOPE where no join counter is named, are the model's readings (log 26). -/
def Obligations.TaskCommands : Prop :=
  (∀ (i : Instr) (f : LW) (range : Bool) (s : State) (L : Launch) (e : Entry), spawnRule i = some (f, range) → s.mayCommand f →
    (s.sk s.cur).handler = none → s.quiet → s.launch? (s.sk s.cur).info.launch = some L → s.logLevel L.qid = none →
    s.entryAt (s.asidOf s.cur) ((s.tk s.cur).getS f.a) = some e → (s.tk s.cur).getS f.b = 0 →
    (s.sk s.cur).launch = some (s.sk s.cur).info.launch → (s.sk s.cur).hw.length < 64 →
    let root := rootOf (s.sk s.cur).info.frame.taskId
    let first := Tbl.look 1 L.seqs root
    let n := if range then ((s.tk s.cur).getS f.d).toNat else 1
    let arg (j : Nat) := (s.tk s.cur).getS (f.b + BitVec.ofNat 6 j)
    let scope := fld ((s.tk s.cur).getS f.a) 1 0
    (n ≠ 0 → first + n ≤ 2 ^ 32 → s.dequeLen ⟨(s.sk s.cur).info.launch, s.cur⟩ < 4096 →
      ∃ t, s.completes t i (if range then s.tk s.cur else (s.tk s.cur).setS f.d (BitVec.ofNat 64 (root * 2 ^ 32 + first))) ∧
        (t.sk s.cur).hw = (s.sk s.cur).hw ++ [({
          entry := e.addr, rscope := scope, taskId := BitVec.ofNat 64 (root * 2 ^ 32 + first), arg0 := arg 1, arg1 := arg 2, arg2 := arg 3
          arg3 := arg 4, range := range, owner := s.cur, idem := e.idem, wscope := scope, count := n } : Frame)] ∧
        (t.sk s.cur).info.killOk = false ∧
        (t.launch? (s.sk s.cur).info.launch).map (fun L => Tbl.look 1 L.seqs root) = some (first + n)) ∧
    (n = 0 → ∃ t, s.completes t i (s.tk s.cur) ∧ (t.sk s.cur).hw = (s.sk s.cur).hw ∧ (t.sk s.cur).info.killOk = false)) ∧
  (∀ (f : LW) (s : State) (l : Loc), s.mayCommand f → (s.sk s.cur).handler = none → (s.tk s.cur).getS f.a ≠ 0 →
    s.jctrLoc s.cur ((s.tk s.cur).getS f.a) = .ok l → s.plainPlace l 8 → s.clean l.pa 8 →
    (jcCount (rdNat s.mem l.pa 8) = 0 → ∃ t, s.completes t (.join f) (s.tk s.cur) ∧ (t.sk s.cur).info.killOk = false) ∧
    (jcCount (rdNat s.mem l.pa 8) ≠ 0 → (s.sk s.cur).info.stop = none → (s.sk s.cur).info.granted = false →
      ∃ t, s.waits t (.join f) (.spin s.now ((s.tk s.cur).getS f.a)))) ∧
  (∀ (f : LW) (s : State), (s.sk s.cur).handler = none → s.levelOf s.cur < 2 → (s.tk s.cur).a.st = .ended → (s.tk s.cur).v.st = .ended →
    (∀ L, s.launch? (s.sk s.cur).info.launch = some L → s.logLevel L.qid = none) → s.jobsLeft s.cur = false →
    (s.sk s.cur).info.teamId = noTeam → (s.sk s.cur).info.pend = [] →
    ∃ t, exec (.tend f) s = .next t ∧ (t.tk s.cur).allEnded = true ∧ (t.tk s.cur).sameRegs (s.tk s.cur) ∧ s.sameElse t) ∧
  (∀ (f : LW) (s : State), s.mayCommand f → (s.sk s.cur).handler = none → (s.sk s.cur).info.stop = none →
    let give := s.resumable (dieOf s.cur) (s.sk s.cur).info.launch || s.higherWaiting s.cur
    (give = false → ∃ t, s.completes t (.yield f) ((s.tk s.cur).setS f.d 0) ∧ (t.sk s.cur).info.killOk = false) ∧
    (give = true → ∃ t, exec (.yield f) s = .next t ∧ (t.tk s.cur).c.pc = (s.tk s.cur).c.pc + 8 ∧ (t.tk s.cur).c.st = .stopped ∧
      (t.sk s.cur).info.stop = some .yield ∧ (t.tk s.cur).sameRegs ((s.tk s.cur).setS f.d 1)))

/-- 09 R214 to R216, R218, R222, R241 to R243: the commands on slabs. GALLOC tests the quota, then the ids, then the places in ascending order, and
answers the reference of a new slab at the first place whose plates are free, under the lowest unused id; GFREE frees a slab whose queue is empty;
GRESHAPE of an idle slab tests its LIVE sets, the quota, then its own place and the others, and changes nothing where it fails; GLEASE joins its
slab's round-robin and completes when the grant is its own, in a later cycle; GREL gives the lease up; GFMT queues a format word; GSTAT reads. -/
def Obligations.SlabCommands : Prop :=
  (∀ (f : LW) (s : State), s.mayCommand f → (s.sk s.cur).handler = none →
    let d := dieOf s.cur
    let a := (s.tk s.cur).getS f.a
    let r := (s.tk s.cur).getS f.b
    let D := s.die d
    let l := (s.sk s.cur).info.launch
    (¬ placeOk a → ∃ t, exec (.galloc f) s = .next t ∧ s.trapped t .C Code.griddleArg) ∧
    (∀ L, placeOk a → s.launch? l = some L → s.cur < 128 →
      let q := placeReq a
      let quota := fld (L.pkt.getD 0 0) 44 36
      let exceeds : Prop := quota < D.heldBy l + 2 ^ (q.lh + q.lw)
      let full : Prop := ∀ n, n < 64 → (Tbl.find D.slabs n).isSome = true
      let fits (y x : Nat) : Prop := ∀ p, inRect q.lh q.lw y x p → D.plateFree p
      let fails (code : Nat) : Prop := ∃ t, s.completes t (.galloc f) ((s.tk s.cur).setS f.d (failRule code 0)) ∧ t.dies = s.dies
      (exceeds → fails 3) ∧ (¬ exceeds → full → fails 2) ∧ (¬ exceeds → ¬ full → (∀ y x, q.allows y x → ¬ fits y x) → fails 1) ∧
      (∀ n y x, ¬ exceeds → n < 64 → Tbl.find D.slabs n = none → (∀ m, m < n → (Tbl.find D.slabs m).isSome = true) →
        q.allows y x → fits y x → (∀ y' x', sooner y' x' y x → q.allows y' x' → ¬ fits y' x') →
        let g := (Tbl.look 0 D.slabGen n + 1) % 256
        ∃ t, s.completes t (.galloc f) ((s.tk s.cur).setS f.d (srefRule g q.lh q.lw y x d n)) ∧ Tbl.look 0 (t.die d).slabGen n = g ∧
          Tbl.find (t.die d).slabs n = some { gen := g, lh := q.lh, lw := q.lw, y0 := y, x0 := x, launch := l })) ∧
    (∀ i b, s.needSlab s.cur a = .ok (i, b) →
      (b.queue = [] → b.waiters = [] → s.leaseView s.cur i b = none →
        (∀ j c, (s.tk j).cmd = some c → c.toSlab i = false ∧ c.onSlab i = false) →
        ∃ t, s.completes t (.gfree f) (s.tk s.cur) ∧ Tbl.find (t.die d).slabs i = none) ∧
      ((∀ e ∈ D.window, e.2.kind ≠ .greshape) → ¬ placeOk r → ∃ t, exec (.greshape f) s = .next t ∧ s.trapped t .C Code.griddleArg) ∧
      (∀ L lease w, (∀ e ∈ D.window, e.2.kind ≠ .greshape) → placeOk r → s.launch? l = some L → s.cur < 128 → b.queue = [] → b.closing = false →
        b.lease = some lease → lease.sk = s.cur → s.freeWin d = some w → b.y0 < 16 → b.x0 < 16 →
        let q := placeReq r
        let live (n : Nat) : Nat := if (Tbl.look {} b.sets n).st = .live then 2 ^ n else 0
        let mask := live 0 + live 1 + live 2 + live 3
        let exceeds : Prop := fld (L.pkt.getD 0 0) 44 36 < D.heldBy l - 2 ^ (b.lh + b.lw) + 2 ^ (q.lh + q.lw)
        let fits (y x : Nat) : Prop := ∀ p, inRect q.lh q.lw y x p → D.retired.getLsbD p = false ∧ (b.has p ∨ D.plateFree p)
        let cy := b.y0 / 2 ^ q.lh * 2 ^ q.lh
        let cx := b.x0 / 2 ^ q.lw * 2 ^ q.lw
        let first (y x : Nat) : Prop := fits y x ∧ (if q.fix then y = q.y ∧ x = q.x else
          y = cy ∧ x = cx ∨ ¬ fits cy cx ∧ q.allows y x ∧ ∀ y' x', sooner y' x' y x → q.allows y' x' → ¬ fits y' x')
        let gives (x : DWord) (p : Slab → Prop) : Prop := ∃ t b', s.completes t (.greshape f) ((s.tk s.cur).setS f.d x) ∧
          Tbl.find (t.die d).slabs i = some b' ∧ b'.gen = b.gen ∧ b'.launch = b.launch ∧ b'.queue = [] ∧ p b'
        let fails (code lmask : Nat) : Prop := gives (failRule code lmask) (fun b' => b'.lh = b.lh ∧ b'.lw = b.lw ∧ b'.y0 = b.y0 ∧ b'.x0 = b.x0 ∧
          b'.sets = b.sets)
        (mask ≠ 0 → fails 0x10 mask) ∧ (mask = 0 → exceeds → fails 3 0) ∧ (mask = 0 → ¬ exceeds → (∀ y x, ¬ first y x) → fails 1 0) ∧
        (∀ y x, mask = 0 → ¬ exceeds → first y x → gives (srefRule (b.gen % 256) q.lh q.lw y x d i) (fun b' =>
          b'.lh = q.lh ∧ b'.lw = q.lw ∧ b'.y0 = y ∧ b'.x0 = x ∧ b'.sets = []))) ∧
      (fld r 63 11 = 0 → fld r 3 2 = 0 → fld r 10 4 ≤ 64 → s.leaseView s.cur i b = none → s.leaseCount s.cur < 4 →
        (s.sk s.cur).info.stop = none → (s.sk s.cur).info.granted = false →
        ∃ t, s.waits t (.glease f) (.grant i ⟨f.d, f.tok⟩) ∧ (Tbl.find (t.die d).slabs i).map (fun x => x.waiters) =
          some (b.waiters ++ [⟨s.cur, fld r 1 0, if fld r 10 4 = 0 then 16 else fld r 10 4, [], false, s.now⟩])) ∧
      ((s.leaseView s.cur i b).isSome = true →
        ∃ t, s.completes t (.grel f) (s.tk s.cur) ∧
          ∀ b' l, Tbl.find (t.die d).slabs i = some b' → b'.lease = some l → l.sk ≠ s.cur) ∧
      (∀ l, b.lease = some l → l.sk = s.cur → gfmtOk r.toNat = true → l.fmts.length < 16 →
        ∃ t, s.completes t (.gfmt f) (s.tk s.cur) ∧
          (Tbl.find (t.die d).slabs i).bind (fun x => x.lease.map (fun l => l.fmts)) = some (l.fmts ++ [r])) ∧
      (r = 0 → ∃ t, s.completes t (.gstat f) ((s.tk s.cur).setS f.d b.status) ∧ t.dies = s.dies) ∧
      (r = 1 → ∃ t, s.completes t (.gstat f) ((s.tk s.cur).setS f.d (BitVec.ofNat 64 (b.rp % 2 ^ 25))) ∧ t.dies = s.dies) ∧
      (r = 10 → ∃ t, s.completes t (.gstat f) ((s.tk s.cur).setS f.d b.leaseWord) ∧ t.dies = s.dies))) ∧
  (∀ (f : LW) (s : State) (i : Nat) (b : Slab) (w : LWait) (r : Ret), s.mayIssue .C f.tok none none → (s.tk s.cur).c.loops = [] →
    (s.sk s.cur).info.step = none → (s.sk s.cur).handler = none → (s.tk s.cur).cmd = some (.grant i r) →
    s.needSlab s.cur ((s.tk s.cur).getS f.a) = .ok (i, b) → b.granted s.now = some w → w.sk = s.cur →
    ∃ t, s.completes t (.glease f) (s.tk s.cur) ∧ (t.tk s.cur).cmd = none ∧
      (Tbl.find (t.die (dieOf s.cur)).slabs i).bind (fun x => x.lease) = some ⟨s.cur, w.set, w.budget, w.fmts, s.now⟩)

/-- 09 R217, R224 to R226, R229, R234, R240, 10 R246: a Griddle command whose checks pass puts a queued job into the die's window and its slab's
queue, and answers the job's id (GZERO answers nothing). -/
def Obligations.GriddleJobs : Prop :=
  ∀ (f : LW) (s : State) (i win : Nat) (b : Slab) (l : Lease), s.mayCommand f → (s.sk s.cur).handler = none →
    s.mayQueue ((s.tk s.cur).getS f.a) i b l win →
    let d := dieOf s.cur
    (∃ t j, s.completes t (.gzero f) (s.tk s.cur) ∧ s.queuedJob t i b win .gzero l.set [] j) ∧
    (∀ c, cardAt (s.tk s.cur) ((s.tk s.cur).getS f.b) = .ok c → s.cardSync s.cur c = .ok () →
      (∀ w ws st aty, gmmaCardOk c = true → l.fmts = w :: ws →
        (caddr c 9).toNat % elemAlign (GFmtW.of w.toNat).a = 0 → fld (cdw c 10) 39 0 % elemAlign (GFmtW.of w.toNat).a = 0 →
        (caddr c 11).toNat % elemAlign (GFmtW.of w.toNat).b = 0 → fld (cdw c 12) 39 0 % elemAlign (GFmtW.of w.toNat).b = 0 →
        b.tileOk (atyOf (GFmtW.of w.toNat).c) (gmM c) (gmN c) = true → s.setAhead d b l.set = some (st, aty) →
        st = .empty ∨ aty = atyOf (GFmtW.of w.toNat).c →
        ∃ t j, s.completes t (.gmma f) ((s.tk s.cur).setS f.d (jobId d win j)) ∧ s.queuedJob t i b win .gmma l.set c j ∧ j.fmt = w) ∧
      (∀ st aty, s.setAhead d b l.set = some (st, aty) → gdrainCardOk c st aty = true → (cdw c 10).getLsbD 40 = false →
        (cdw c 10).getLsbD 53 = false → (cdw c 10).getLsbD 54 = false → (cdw c 10).getLsbD 55 = false →
        (caddr c 9).toNat % elemAlign (gdTy c) = 0 → fld (cdw c 10) 39 0 % elemAlign (gdTy c) = 0 →
        b.tileOk (if st = .empty then (if (intFmt (gdTy c)).isSome then 2 else 0) else aty) (gdM c) (gdN c) = true →
        ∃ t j, s.completes t (.gdrain f) ((s.tk s.cur).setS f.d (jobId d win j)) ∧ s.queuedJob t i b win .gdrain l.set c j) ∧
      (headerOk c = true → fld (cdw c 9) 63 56 = 0 → cdw c 10 = 0 → (∀ n ∈ [11, 12, 13, 14, 15], cdw c n = 0) → (caddr c 9).toNat % 64 = 0 →
        (∃ t j, s.completes t (.gsave f) ((s.tk s.cur).setS f.d (jobId d win j)) ∧ s.queuedJob t i b win .gsave l.set c j) ∧
        (∃ t j, s.completes t (.grest f) ((s.tk s.cur).setS f.d (jobId d win j)) ∧ s.queuedJob t i b win .grest l.set c j)))

/-- 10 R246, R247, R252 to R255, R262 to R268: a copy command whose checks pass puts a queued job into the window of the die that runs it and answers
its id; CWAIT retires once the bits it names have landed; CTEST reads a word of a slot, or its count word. -/
def Obligations.CopyCommands : Prop :=
  (∀ (i : Instr) (f : LW) (kind : JobKind) (s : State) (c r1 r2 : List DWord) (win : Nat), copyRule i = some (f, kind) → s.mayCommand f →
    (s.sk s.cur).handler = none → cardAt (s.tk s.cur) ((s.tk s.cur).getS f.b) = .ok c → copyCardOk kind c = true →
    s.cardSync s.cur c = .ok () → (cpBen c = true → s.slotGranted (s.sk s.cur).info.launch (dieOf s.cur) (cpSlot c) = true) →
    copyAddrs kind c = .ok () →
    let e := if kind = .cpyr ∧ cpXchip c = false then cpTdie c else dieOf s.cur
    let j0 := s.newJob s.cur kind c
    let ag : Agent := { s.jobAgent e 0 j0 with tlbs := s.dTlbs e }
    let j1 : Job := { j0 with rec1 := r1, rec2 := r2 }
    (cpFlat c = true ∧ r1 = [] ∧ r2 = []) ∨ (cpFlat c = false ∧ j1.far = false ∧ ∃ x y, s.jobRead ag (caddr c 13) 64 = .ok (x, s) ∧
      s.jobRead ag (caddr c 14) 64 = .ok (y, s) ∧ r1 = dwords 8 x ∧ r2 = dwords 8 y) →
    copyShapes j1 = .ok () → s.freeWin e = some win → (s.die e).alive = true →
    ∃ t j, s.completes t i ((s.tk s.cur).setS f.d (jobId e win j)) ∧ t.job? e win = some j ∧ j.kind = kind ∧ j.card = c ∧ j.st = .queued ∧
      j.rec1 = r1 ∧ j.rec2 = r2 ∧ j.chunks = j1.nChunks) ∧
  (∀ (f : LW) (s : State), s.mayCommand f → (s.sk s.cur).handler = none → s.quiet →
    let a := (s.tk s.cur).getS f.a
    let m := (s.tk s.cur).getS f.b
    let slot := s.slot (dieOf s.cur) (fld a 5 0)
    (s.slotCheck s.cur a true = .ok () →
      (slot.word (fld a 11 6) &&& m = m → ∃ t, s.completes t (.cwait f) (s.tk s.cur)) ∧
      (slot.word (fld a 11 6) &&& m ≠ m → (s.sk s.cur).info.stop = none →
        ∃ t, exec (.cwait f) s = .next t ∧ (t.tk s.cur).c.pc = (s.tk s.cur).c.pc ∧ (t.tk s.cur).c.stall.isSome = true)) ∧
    (s.slotCheck s.cur a false = .ok () →
      (a.getLsbD 12 = false → ∃ t, s.completes t (.ctest f) ((s.tk s.cur).setS f.d (slot.word (fld a 11 6))) ∧ t.dies = s.dies) ∧
      (a.getLsbD 12 = true →
        ∃ t, s.completes t (.ctest f) ((s.tk s.cur).setS f.d slot.countWord) ∧ (a.getLsbD 13 = false → t.dies = s.dies) ∧
          (a.getLsbD 13 = true → t.slot (dieOf s.cur) (fld a 5 0) = { slot with sat := false, of := false, nv := false }))))

/-- 10 R269 to R273: SWAIT takes its number from a semaphore that holds it and that nobody waits at, else it joins the queue; SSIG and SADD raise a
semaphore without waiters; SRDV reads one, and clears SOV where told. R274 to R277: BARA arrives; BARW ends where its phase has completed; BAR and
ELECT, of the last member to arrive, complete the phase, and ELECT learns whether its slot won. -/
def Obligations.SyncCommands : Prop :=
  (∀ (f : LW) (s : State) (d i : Nat), s.mayCommand f → s.quiet →
    let m := s.sem d i
    let b := (s.tk s.cur).getS f.b
    let n := fld b 31 0
    (s.semArg s.cur ((s.tk s.cur).getS f.a) false = .ok (d, i) →
      (fld b 63 33 = 0 → n ≠ 0 → m.q = [] → n ≤ m.value →
        ∃ t, s.completes t (.swait f) (s.tk s.cur) ∧ (t.sem d i).value = (if b.getLsbD 32 then m.value else m.value - n)) ∧
      (fld b 63 33 = 0 → n ≠ 0 → (m.q ≠ [] ∨ m.value < n) → (s.sk s.cur).info.stop = none → (s.sk s.cur).info.granted = false →
        ∃ t, s.waits t (.swait f) (.sem d i f.tok) ∧ (t.sem d i).q = m.q ++ [.task s.cur n (b.getLsbD 32)]) ∧
      (m.q = [] → ∃ t, s.completes t (.ssig f) (s.tk s.cur) ∧ (t.sem d i).value = min (m.value + 1) 0xFFFFFFFF) ∧
      (m.q = [] → 0 ≤ (m.value : Int) + (b.extractLsb' 0 32).toInt → (m.value : Int) + (b.extractLsb' 0 32).toInt ≤ 0xFFFFFFFF →
        ∃ t, s.completes t (.sadd f) ((s.tk s.cur).setS f.d (BitVec.ofNat 64 m.value)) ∧
          ((t.sem d i).value : Int) = m.value + (b.extractLsb' 0 32).toInt)) ∧
    (s.semArg s.cur ((s.tk s.cur).getS f.a) true = .ok (d, i) →
      ∃ t, s.completes t (.srdv f) ((s.tk s.cur).setS f.d m.word) ∧
        t.sem d i = { m with sov := m.sov && !((s.tk s.cur).getS f.a).getLsbD 11 })) ∧
  (∀ (f : LW) (s : State) (team g w slot : Nat) (L : Launch), s.mayCommand f → s.quiet →
    s.groupArg s.cur ((s.tk s.cur).getS f.a) = .ok (team, g, w) → s.launch? (s.sk s.cur).info.launch = some L → s.logLevel L.qid = none →
    (Tbl.find L.teams team).isSome = true → (s.sk s.cur).info.teamSlot = slot → slot < 32 →
    let x := L.groupOf team g
    let live := L.liveSet team g
    let all := (x.arrived ||| BitVec.ofNat 32 (1 <<< slot)).toNat &&& live = live
    (x.arrived.getLsbD slot = false →
      ∃ t, s.completes t (.bara f) ((s.tk s.cur).setS f.d (BitVec.ofNat 64 x.phase)) ∧
        ((t.group s.cur team g).passed x.phase = true ∨ t.hasArrived s.cur team g = true ∧ (t.group s.cur team g).phase = x.phase)) ∧
    (x.passed (fld ((s.tk s.cur).getS f.b) 31 0) = true → ∃ t, s.completes t (.barw f) (s.tk s.cur)) ∧
    (x.arrived.getLsbD slot = false → (s.sk s.cur).info.arr = none → all → L.resident team = true →
      (∃ t, s.completes t (.bar f) (s.tk s.cur) ∧ (t.group s.cur team g).passed x.phase = true) ∧
      (∃ t, s.completes t (.elect f)
          ((s.tk s.cur).setS f.d (if electWinner L.level (x.elects ++ [slot]) = some slot then 1 else 0)) ∧
        (t.group s.cur team g).winner = electWinner L.level (x.elects ++ [slot]))) ∧
    (x.arrived.getLsbD slot = false → (s.sk s.cur).info.arr = none → ¬ all → x.passed x.phase = false → (s.sk s.cur).info.stop = none →
      (s.sk s.cur).info.granted = false →
      ∃ t, s.waits t (.bar f) (.phase g x.phase w false ⟨f.d, f.tok⟩) ∧ (t.sk s.cur).info.arr = some ⟨false, g, x.phase⟩))

/-- 14 R353 to R357, R366, R367: a Whisk command whose checks pass and whose SEQ is its handle's NEXTSEQ is accepted as current: a queued job in the
window of the handle's die, last in the Whisk's queue and in the handle's order; an older SEQ raises STALE-CHUNK. -/
def Obligations.WhiskCommands : Prop :=
  ∀ (i : Instr) (f : LW) (kind : JobKind) (s : State) (c rc : List DWord) (h : Handle) (win : Nat), whiskRule i = some (f, kind) →
    s.mayCommand f → (s.sk s.cur).handler = none → s.noMarks → cardAt (s.tk s.cur) ((s.tk s.cur).getS f.b) = .ok c → fwCardOk kind c = true →
    s.cardSync s.cur c = .ok () → (usesImg kind = true → (cdw c 12).toNat % 64 = 0) →
    (if usesTokens kind && decide (0 < fwC c) then (cdw c 9).toNat % 64 = 0 ∧ s.cmdRead s.cur (cdw c 9) 8 = .ok (rc, s) ∧ fwRecOk kind c rc = .ok ()
      else rc = []) →
    s.hereHandle s.cur ((s.tk s.cur).getS f.a) = .ok h → (kind.advances = true → h.snapshot = false) →
    (h.pois = true → kind = .fwzero ∨ kind = .fwld) → h.rolling = false → h.made = true → h.res ≠ .moving → (s.die h.die).alive = true →
    (fwSeqOf c = h.nextSeq → h.nextSeq < 2 ^ 32 → s.freeWin h.die = some win → (s.die h.die).wq.length < 64 →
      ∃ t j, s.completes t i ((s.tk s.cur).setS f.d (jobId h.die win j)) ∧ t.job? h.die win = some j ∧ j.kind = kind ∧ j.card = c ∧
        j.rec1 = rc ∧ j.handle = (s.tk s.cur).getS f.a ∧ j.st = .queued ∧ (t.die h.die).wq = (s.die h.die).wq ++ [256 * h.die + win] ∧
        (t.handle? ((s.tk s.cur).getS f.a)).map (fun h => h.ord) = some (h.ord ++ [.job h.die win])) ∧
    (2 ^ 31 ≤ (fwSeqOf c + 2 ^ 32 - h.nextSeq) % 2 ^ 32 → ∃ t, exec i s = .next t ∧ s.trapped t .C Code.staleChunk)

/-- 14 R371 to R381: the handle commands. SHNEW, SHSNAP and SHFORK answer a new handle, whose image its action will make; SHAVG, SHROLL, SHPIN, SHFREE
and SHMOVE within the package put their action last in their handle's order; SHSTAT reads. -/
def Obligations.HandleCommands : Prop :=
  ∀ (s : State) (a b : DWord) (cap : List DWord), (s.sk s.cur).handler = none → s.noMarks →
    (∀ (f : LW) (n : Nat), s.mayCommand f → (s.tk s.cur).getS f.a = a → (s.tk s.cur).getS f.b = b → s.shCapture s.cur .new a b = .ok ([], s) →
      s.freeIndex = some n →
      ∃ t h, s.completes t (.shnew f) ((s.tk s.cur).setS f.d (s.newValue n)) ∧ t.handle? (s.newValue n) = some h ∧
        h.nh = fld a 36 32 ∧ h.dk = fld a 8 0 ∧ h.dv = fld a 24 16 ∧ h.backing = b.toNat ∧ h.nextSeq = 0 ∧ h.made = false ∧ h.ord = [.new]) ∧
    (∀ (h : Handle), s.handle? a = some h → h.asid = s.asidOf s.cur → h.res ≠ .away → h.made = true → h.res ≠ .moving →
      (s.die h.die).alive = true →
      (∀ (i : Instr) (f : LW) (op : ShOp) (fork : Bool) (n : Nat), twinRule i = some (f, op, fork) → s.mayCommand f →
        (s.tk s.cur).getS f.a = a → (s.tk s.cur).getS f.b = b → s.shCapture s.cur op a b = .ok ([], s) →
        s.shCheck s.cur op a b [] = .ok () → s.freeIndex = some n → a ≠ s.newValue n →
        ∃ t y, s.completes t i ((s.tk s.cur).setS f.d (s.newValue n)) ∧ t.handle? (s.newValue n) = some y ∧ y.nh = h.nh ∧ y.dk = h.dk ∧
          y.dv = h.dv ∧ y.snapshot = !fork ∧ y.backing = b.toNat ∧ y.made = false ∧
          (t.handle? a).map (fun h => h.ord) = some (h.ord ++ [.snap (s.newValue n) fork])) ∧
      (∀ (i : Instr) (f : LW) (op : ShOp) (x : HItem), itemRule b (s.issuerOf s.cur) i = some (f, op, x) → s.mayCommand f →
        (s.tk s.cur).getS f.a = a → (s.tk s.cur).getS f.b = b → s.shCapture s.cur op a b = .ok ([], s) → s.shCheck s.cur op a b [] = .ok () →
        ∃ t, s.completes t i (s.tk s.cur) ∧ (t.handle? a).map (fun h => h.ord) = some (h.ord ++ [x])) ∧
      (∀ (f : LW), s.mayCommand f → (s.tk s.cur).getS f.a = a → (s.tk s.cur).getS f.b = b → s.shCapture s.cur .move a b = .ok (cap, s) →
        s.shCheck s.cur .move a b cap = .ok () → mvXchip (cdw cap 0) = false →
        ∃ t, s.completes t (.shmove f) ((s.tk s.cur).setS f.d 0) ∧
          (t.handle? a).map (fun h => h.ord) = some (h.ord ++ [.move (cdw cap 0) (cdw cap 1)])) ∧
      ((∀ e ∈ s.handles, e.2.res = .resident ∧ e.2.made = true ∧ (s.die e.2.die).alive = true) →
        (∀ (f : LW), s.mayCommand f → (s.tk s.cur).getS f.a = a → (s.tk s.cur).getS f.b = b → s.shCapture s.cur .avg a b = .ok (cap, s) →
          s.shCheck s.cur .avg a b cap = .ok () →
          ∃ t, s.completes t (.shavg f) (s.tk s.cur) ∧
            (t.handle? a).map (fun h => h.ord.getLast?) = some (some (.avg s.nextId (avgList cap)))) ∧
        (∀ (f : LW), s.mayCommand f → (s.tk s.cur).getS f.a = a → (s.tk s.cur).getS f.b = b → s.shCheck s.cur .roll a b [] = .ok () →
          ∃ t, s.completes t (.shroll f) (s.tk s.cur) ∧ (t.handle? a).map (fun h => h.ord.getLast?) = some (some (.roll s.nextId b)))) ∧
      (∀ (f : LW), s.mayIssue .C f.tok none none → s.straight .C → s.noTurns → (s.tk s.cur).getS f.a = a → (s.tk s.cur).getS f.b = b →
        (b = 0 → ∃ t, s.completes t (.shstat f) ((s.tk s.cur).setS f.d (s.statusWord h)) ∧ t.handles = s.handles) ∧
        (b = 1 → ∃ t, s.completes t (.shstat f) ((s.tk s.cur).setS f.d h.shape) ∧ t.handles = s.handles) ∧
        (b = 2 → ∃ t, s.completes t (.shstat f) ((s.tk s.cur).setS f.d (BitVec.ofNat 64 h.backing)) ∧ t.handles = s.handles) ∧
        (b = 4 → ∃ t, s.completes t (.shstat f) ((s.tk s.cur).setS f.d (s.crockWord (dieOf s.cur))) ∧ t.handles = s.handles)))

/-- 12 R312, R314 to R316: TRAP raises its exception, with the argument as TINFO, where it stands; SYSC raises it past itself; BRK raises it where its
context says so and retires elsewhere; TLBI, in a handler, removes the entries it covers; CWB and CINV leave no dirty line of their range, and CINV no
clean one, on their die; PPT answers what a walk finds. That CWB and CINV pass over the pages of their range that do not translate is the model's
reading (log 48). -/
def Obligations.SystemCommands : Prop :=
  ∀ (f : LW) (s : State), s.mayCommand f →
    let k := s.cur
    let a := (s.tk k).getS f.a
    let b := (s.tk k).getS f.b
    ((s.sk k).handler = none →
      (∃ t r, exec (.trap f) s = .next t ∧ s.trapped t .C Code.trap ∧ (t.tk k).c.st = .faulted r ∧ r.info = a) ∧
      (∃ t r, exec (.sysc f) s = .next t ∧ (t.tk k).c.pc = (s.tk k).c.pc + 8 ∧ (t.sk k).info.stop = some .trap ∧
        (t.tk k).c.st = .faulted r ∧ r.code = Code.sysc ∧ r.info = a) ∧
      ((s.ctx (s.asidOf k)).dbg = true → ∃ t, exec (.brk f) s = .next t ∧ s.trapped t .C Code.breakpoint) ∧
      ((s.ctx (s.asidOf k)).dbg = false → ∃ t, s.completes t (.brk f) (s.tk k))) ∧
    ((s.sk k).handler.isSome = true → tlbiOk a b = true → (∀ j, (s.tk j).watch = none) → (∀ d, (s.die d).dirty = []) →
      ∃ t, s.completes t (.tlbi f) (s.tk k) ∧
        ∀ d ∈ tlbiDies a (dieOf k), ∀ x ∈ (t.die d).tlb ++ (t.die d).gtlb,
          tlbCovered (fld a 1 0) (s.asidOf k) (fld a 55 16 * 65536) b.toNat x = false) ∧
    (let all := decide (16 * 1024 * 1024 < b.toNat)
     let rs := if all then [] else s.physRanges k a.toNat b.toNat
     (∃ t, exec (.cwb f) s = .next t ∧ s.retired t .C 8 ∧ (t.tk k).sameRegs (s.tk k) ∧
       ∀ x ∈ (t.die (dieOf k)).dirty, lineIn rs all false x.line = false) ∧
     (∃ t, exec (.cinv f) s = .next t ∧ s.retired t .C 8 ∧ (t.tk k).sameRegs (s.tk k) ∧
       (∀ x ∈ (t.die (dieOf k)).dirty, lineIn rs all false x.line = false) ∧
       ∀ x ∈ (t.die (dieOf k)).clean, lineIn rs all false x.1 = false)) ∧
    (b.toNat < 3 →
      (fld a 63 56 ≠ 0 → ∃ t, s.completes t (.ppt f) ((s.tk k).setS f.d 0)) ∧
      (fld a 63 56 = 0 → (∀ kind pa, s.lookup (s.aTlbs k) (s.asidOf k) a.toNat ≠ .mcheck kind pa) → ∃ t, s.completes t (.ppt f) ((s.tk k).setS f.d
        (pptWord (s.lookup (s.aTlbs k) (s.asidOf k) a.toNat) a.toNat
          (if b.toNat = 0 then .rd else if b.toNat = 1 then .wr else .fx)))))

/-- 12 R302, R303, R306, R313: ERET with action 0 resumes the task from its record, with action 1 ends the task, with action 2 ends its launch; an SWT
to JOBCTL restarts or aborts the halted job it names. That a back-edge test not yet made is kept beside the record and given back with it is the
model's reading of 12 R298 and 04 R103 (log 9). -/
def Obligations.HandlerReturns : Prop :=
  (∀ (f : LW) (s : State) (h : Handler), (s.sk s.cur).handler = some h → h.job = none → (s.tk s.cur).a.st = .ended → (s.tk s.cur).v.st = .ended →
    let k := s.cur
    let a := (s.tk k).getS f.a
    let i := (s.sk k).info
    let s0 := s.updSk k (fun x => { x with handler := x.handler.map (fun h => { h with reached := true }) })
    (a = 0 → ∀ im s1, s0.getRecord (dieOf k) (s.asidOf k) h.base 11 = .ok (im, s1) → recOk im = true → (s1.sk k).info = i →
      (s1.sk k).keep = (s.sk k).keep → stepOf (fld (imGet im 0) 14 13) = none → i.teamId = noTeam → i.pend = [] → i.stepDone = false → i.yielded = false → i.preempt = none →
      (s.tk k).pfs = [] →
      ∃ t, exec (.eretResume f) s = .next t ∧ (t.sk k).handler = none ∧ t.tk k = recIssueWith im (s.sk k).keep ∧
        (t.sk k).info.stop = none) ∧
    (a = 1 → s.jobsLeft k = false → i.pend = [] → s.levelOf k < 2 → (∀ L, s.launch? i.launch = some L → s.logLevel L.qid = none) →
      i.teamId = noTeam → (s.tk k).pfs = [] → i.frame.jctr = 0 →
      (∃ t, exec (.eretResume f) s = .next t ∧ (t.sk k).busy = false ∧ t.mem = s.mem) ∧
      (∃ t, exec (.eretEndTask f) s = .next t ∧ (t.sk k).busy = false ∧ t.mem = s.mem)) ∧
    (fld a 63 32 = 0 → fld a 15 0 = 2 →
      exec (.eretResume f) s = .next (s0.endLaunch i.launch ⟨2, fld a 31 16, dieOf k, i.frame.taskId, 0⟩) ∧
      exec (.eretHandlerEnd f) s = .next (s0.endLaunch i.launch ⟨2, fld a 31 16, dieOf k, i.frame.taskId, 0⟩))) ∧
  (∀ (f : CK) (s : State) (d w : Nat) (j : Job), s.mayIssue .C f.tok none none → s.straight .C → (s.sk s.cur).handler.isSome = true →
    f.idx = 0x804 →
    let v := (s.tk s.cur).getS f.r
    s.jobOfId (v &&& 0xFFFFFFFF) = some (d, w, j) → j.st.isHalted = true → j.tid = (s.sk s.cur).info.id →
    j.launch = (s.sk s.cur).info.launch →
    (fld v 33 32 = 1 → ∀ i ∈ [Instr.swt f, .jobctlRestart f],
      ∃ t, exec i s = .next t ∧ s.retired t .C 4 ∧ (t.tk s.cur).sameRegs (s.tk s.cur) ∧ t.mem = s.mem ∧
        (t.job? d w).map (fun j => j.st) = some (if j.kind.whisk then .ready else .running)) ∧
    (fld v 33 32 = 2 → (∀ e ∈ allDies, ∀ x ∈ (s.die e).sems, .job d w ∉ x.2.q) → ∀ i ∈ [Instr.swt f, .jobctlAbort f],
      ∃ t, exec i s = .next t ∧ s.retired t .C 4 ∧ (t.tk s.cur).sameRegs (s.tk s.cur) ∧ t.mem = s.mem ∧ t.job? d w = none))

/-- 15 R390, R391, R395, R401: DSET below D2 answers 0; at D2 and D3 a command that is a turn waits while its task is not at the head of the round,
and MERGE, in its turn, answers 1 and takes a fresh snapshot; ADVANCE at D3 moves the frame on. R402: RLOG answers the status of a die's log. R394,
R395: a frame ends at a frame boundary; a round's turns stand in TASKID order. 17 R428 to R430: MCACK answers the entry acknowledged. That SFC_TICK
moves time, that the round is written when it closes, and that STAMP-OVERRUN is of a command that has not issued, are the model's readings (log 23);
that a steal that differs from R399's entry diverges when its thief seeks work is one too (log 21). -/
def Obligations.Determinism : Prop :=
  (∀ (f : LW) (s : State), s.mayCommand f → (s.sk s.cur).handler = none → (s.tk s.cur).getS f.a = 0 ∨ (s.tk s.cur).getS f.a = 1 →
    (∃ t, s.completes t (.dsetMerge f) ((s.tk s.cur).setS f.d 0)) ∧ (∃ t, s.completes t (.dsetAdvance f) ((s.tk s.cur).setS f.d 0))) ∧
  (∀ (f : LW) (s : State) (L : Launch), s.mayIssue .C f.tok none none → s.straight .C → (s.sk s.cur).handler = none →
    s.launch? (s.sk s.cur).info.launch = some L → 2 ≤ L.level → (s.sk s.cur).info.snap = none → (s.sk s.cur).info.turn = none →
    (L.turns.head? ≠ some s.cur → (s.sk s.cur).info.stop = none →
      ∃ t, exec (.dsetMerge f) s = .next t ∧ (t.tk s.cur).c.pc = (s.tk s.cur).c.pc ∧ (t.sk s.cur).info.turn = some .C ∧ s.sameElse t) ∧
    (L.turns.head? = some s.cur → L.level = 2 → (s.tk s.cur).getS f.a = 0 →
      ∃ t, s.completes t (.dsetMerge f) ((s.tk s.cur).setS f.d 1) ∧ ((t.sk s.cur).info.snap.map (fun p => p.mem)) = some s.mem ∧
        (t.sk s.cur).info.turn = none) ∧
    (L.turns.head? = some s.cur → L.level = 3 → (s.tk s.cur).getS f.a = 1 →
      (s.sk s.cur).info.stampL.toNat + f.stamp.toNat = (s.sfcOf s.cur).toNat →
      (∃ t, s.completes t (.dsetMerge f) ((s.tk s.cur).setS f.d (s.sfcOf s.cur + (s.tk s.cur).getS f.b))) ∧
      (∃ t, s.completes t (.dsetAdvance f) ((s.tk s.cur).setS f.d (s.sfcOf s.cur + (s.tk s.cur).getS f.b))))) ∧
  (∀ (f : LW) (s : State) (v : Level), s.mayCommand f → (s.sk s.cur).handler = none → s.quiet →
    let a := (s.tk s.cur).getS f.a
    let q := ((s.tk s.cur).getS f.b).toNat
    let d := fld a 3 2
    let s0 := s.logNow d q v
    let gives (i : Instr) (u : State) : Prop := u.mem = s.mem →
      ∃ t, s.completes t i ((s.tk s.cur).setS f.d ((u.logOf d q).word v)) ∧ t.logOf d q = u.logOf d q
    fld a 63 5 = 0 → fld a 1 0 ≠ 3 → q < 2 ^ 16 → Tbl.find s.levels q = some v → v.asid = s.asidOf s.cur → v.mode ≠ 0 →
    (v.mode ≠ 2 ∨ (s.logOf d q).done = true → s0 = s ∧ (s.acquireAt s.cur 2).mem = s.mem ∧ (s.acquireAt s.cur 2).logOf d q = s.logOf d q) ∧
    (fld a 1 0 = 0 → gives (.rlogStatus f) ((s0.acquireAt s.cur 2).logNow d q v)) ∧
    (v.mode = 2 → gives (.rlogClose f) (s0.logNow d q v)) ∧
    (∀ r, s0.releaseAt s.cur 2 = .ok r → gives (.rlogRelease f) ((r.rlogOpen d q (fld a 4 4) v).logNow d q v) ∧
      ((v.mode ≠ 1 ∨ (r.logOf d q).buf = []) → (r.rlogOpen d q (fld a 4 4) v).mem = r.mem ∧ ((r.rlogOpen d q (fld a 4 4) v).logOf d q).closed (fld a 4 4) = false))) ∧
  (∀ (launch : Nat) (s : State) (L : Launch), s.launch? launch = some L →
    (2 ≤ L.level → L.turns = [] → s.running launch ≠ [] → (∀ k ∈ s.running launch, (s.sk k).info.turn.isSome = true) →
      ∃ t ts, exec (.roundClose launch) s = .next t ∧ t.launch? launch = some { L with turns := ts } ∧ s.sameElse t ∧
        (∀ k, k ∈ ts ↔ k ∈ s.running launch) ∧
        ts.Pairwise (fun x y => (s.sk x).info.frame.taskId.toNat ≤ (s.sk y).info.frame.taskId.toNat)) ∧
    (∀ t0, L.level = 3 → L.started = some t0 → t0 ≤ s.now →
      ∃ n, exec (.sfcTick launch) s = .next { s with now := n } ∧ s.now < n ∧ n ≤ s.now + L.flen + 1 ∧ (n - t0) % (L.flen + 1) = 0)) ∧
  (∀ (sk n : Nat) (s : State), (s.sk sk).runs = true → (s.sk sk).info.stop = none → (s.tk sk).c.st = .run → s.levelOf sk = 3 →
    (s.tk sk).c.stall = some ⟨n, false⟩ → (s.tk sk).cmd = none →
    ∀ m, s.stampAt sk = some m → (s.sk sk).info.stampL.toNat + m < (s.sfcOf sk).toNat →
      ∃ t r, exec (.stampOverrun sk) s = .next t ∧ (t.tk sk).c.st = .faulted r ∧ r.code = Code.stampOverrun ∧ (t.tk sk).c.pc = (s.tk sk).c.pc) ∧
  (∀ (die qid l : Nat) (s s1 : State) (v : Level) (a b : DWord), s.logLevel qid = some v → v.mode = 2 → (s.logOf die qid).done = false →
    s.replayHead 3 die qid v = (some (a, b), s1) → entryType a = 1 → s1.stealParts a b = some l →
    exec (.replayDivergence die qid) s = .next (s1.diverge die qid l v)) ∧
  (∀ (f : LW) (s : State) (slot : Nat) (e : McEnt), s.mayCommand f → (s.sk s.cur).handler = none →
    let a := (s.tk s.cur).getS f.a
    let b := (s.tk s.cur).getS f.b
    let d := fld a 33 32
    fld a 63 34 = 0 → fld b 63 32 = 0 → fld b 15 2 = 0 → s.mcEntry d (fld a 31 0) = some (slot, e) → e.asid = s.asidOf s.cur →
    let u := fun act => ((s.onTk s.cur (fun t => t.setS f.d (e.dw0 ||| 0x80000000))).mcApply d slot e act (fld b 31 16))
    (s.mcMay e 0 = true → fld b 1 0 = 0 →
      ∃ t, exec (.mcackAck f) s = .next t ∧ s.retired t .C 8 ∧ (t.tk s.cur).sameRegs ((s.tk s.cur).setS f.d (e.dw0 ||| 0x80000000)) ∧
        (Tbl.find (t.die d).ring slot).map McEnt.acked = some true) ∧
    (s.mcMay e 1 = true → s.mcReady e 1 = true → ((u 1).sk s.cur).busy = true →
      (exec (.mcackRerun f) s = .next ((u 1).retire s.cur .C 8 f.tok)) ∧
      (fld b 1 0 = 1 → exec (.mcackAck f) s = .next ((u 1).retire s.cur .C 8 f.tok))) ∧
    (s.mcMay e 2 = true → ((u 2).sk s.cur).busy = true →
      (exec (.mcackEndLaunch f) s = .next ((u 2).retire s.cur .C 8 f.tok)) ∧
      (fld b 1 0 = 2 → exec (.mcackAck f) s = .next ((u 2).retire s.cur .C 8 f.tok))))

/-! ### Events -/

/-- 01 R25: engines that have all waited 2^24 cycles inside their Skillet take ENGINE-DEADLOCK. R26: arriving data marks its queue entry. 12 R293: a
walk that ends at a leaf enters the die's TLBs. 08 R197, R198: a line that leaves a die's cache is in it no more, and the bytes it holds remote-dirty,
and no others, go to the home. 05 R131, R132: a WAITA that is woken, or whose time is over, reads again and retires. -/
def Obligations.EngineEvents : Prop :=
  (∀ (sk : Nat) (s : State), (s.sk sk).busy = true → (s.sk sk).halted = none → (s.sk sk).handler = none → (s.tk sk).cmd = none →
    (s.tk sk).allEnded = false →
    (∀ e : Engine, (((s.tk sk).eng e).st = .run ∨ ((s.tk sk).eng e).st = .ended) ∧
      ∃ n, ((s.tk sk).eng e).stall = some ⟨n, true⟩ ∧ n + 2 ^ 24 ≤ s.now) →
    ∃ t, exec (.engineDeadlock sk) s = .next t ∧ (t.sk sk).info.stop = some .trap ∧ t.mem = s.mem ∧
      ∀ e : Engine, ((t.tk sk).eng e).pc = ((s.tk sk).eng e).pc ∧ ∃ r, ((t.tk sk).eng e).st = .faulted r ∧ r.code = Code.engineDeadlock) ∧
  (∀ (sk i : Nat) (s : State),
    (∃ t, exec (.loadDataArrival sk 0 i) s = .next t ∧ t.mem = s.mem ∧ (t.tk sk).sameRegs (s.tk sk) ∧
      ∀ j : Nat, (t.tk sk).lq0[j]? = (s.tk sk).lq0[j]?.map (fun x => if j = i then { x with arrived := true } else x)) ∧
    (∃ t, exec (.loadDataArrival sk 1 i) s = .next t ∧ t.mem = s.mem ∧ (t.tk sk).sameRegs (s.tk sk) ∧
      ∀ j : Nat, (t.tk sk).lq1[j]? = (s.tk sk).lq1[j]?.map (fun x => if j = i then { x with arrived := true } else x))) ∧
  (∀ (die asid va : Nat) (s : State),
    (∀ pte lvl, s.walk asid va = .leaf pte lvl → ∃ t, exec (.pageWalkComplete die asid va) s = .next t ∧ t.mem = s.mem ∧
      entryOf asid va pte lvl ∈ (t.die die).gtlb ∧ entryOf asid va pte lvl ∈ (t.die die).tlb) ∧
    ((∀ pte lvl, s.walk asid va ≠ .leaf pte lvl) → exec (.pageWalkComplete die asid va) s = .next s)) ∧
  (∀ (die line : Nat) (s : State),
    (line < 2 ^ 52 → ∃ t, exec (.cacheEviction die line) s = .next t ∧ (∀ x ∈ (t.die die).dirty, x.line ≠ line) ∧
      Tbl.find (t.die die).clean line = none ∧ ((∀ x ∈ (s.die die).dirty, x.line ≠ line) → t.mem = s.mem) ∧
      (∀ x, (s.die die).dirty.find? (fun x => x.line == line) = some x → x.bytes.Pairwise (fun a b => a.1 < b.1) → (∀ e ∈ x.bytes, e.1 < 64) →
        ∀ a, rdB t.mem a = if a / 64 = line then (Tbl.find x.bytes (a % 64)).getD (rdB s.mem a) else rdB s.mem a)) ∧
    (2 ^ 52 ≤ line →
      (∀ x, Tbl.find (s.die die).hostLines (line - 2 ^ 52) = some x → s.melperUp = true →
        ∃ t, exec (.cacheEviction die line) s = .next t ∧ Tbl.find (t.die die).hostLines (line - 2 ^ 52) = none ∧ t.mem = s.mem ∧
          t.hostMem = if x.dirty then wrCells s.hostMem (cellsAt ((line - 2 ^ 52) * 64) x.data) else s.hostMem) ∧
      (∀ x, Tbl.find (s.die die).hostLines (line - 2 ^ 52) = some x → s.melperUp = false → x.dirty = true →
        ∃ t, exec (.cacheEviction die line) s = .next t ∧ Tbl.find (t.die die).hostLines (line - 2 ^ 52) = some x ∧ t.hostMem = s.hostMem))) ∧
  (∀ (s : State) (l : Loc) (w : Watch), (s.sk s.cur).busy = true → (s.sk s.cur).halted = none → (s.tk s.cur).a.st = .run → s.straight .A →
    s.noTurns → (s.tk s.cur).watch = some w → s.plainPlace l 8 → s.clean l.pa 8 →
    s.syncCheck s.cur (BitVec.ofNat 64 w.va) 8 .rd true = .ok l →
    ∀ ev, (ev = .waitaWake s.cur ∧ w.woken = true ∧ s.watchTurn s.cur w = true ∨ ev = .waitaTimeout s.cur ∧ w.limit ≠ 0 ∧ w.since + w.limit.toNat ≤ s.now ∧
        (w.woken = true → s.watchTurn s.cur w = true)) →
      ∃ t, exec ev s = .next t ∧ s.retired t .A 8 ∧ (t.tk s.cur).watch = none ∧ t.mem = s.mem ∧
        (t.tk s.cur).sameRegs ((s.tk s.cur).setA w.d (BitVec.ofNat 64 (rdNat s.mem l.pa 8)) false))

/-- 07 R170 to R174: a Skillet that looks for work takes the top ready entry of its own deque (the last iteration of a range), or claims another's
ready bottom entry; the take gives the thief the first iteration, half the rest, and leaves the remainder ready. R167, 01 R30: a task starts at its
entry with the registers of its frame. R181: a JOIN that has spun suspends, or raises JOIN-BUSY where another waits. R182: a task whose engines have
ended frees its Skillet, counted off in its launch. 12 R310: a saved task resumes. That a resumed task is given back the back-edge tests it left
unmade is the model's reading (log 9), and so is that suspended JOINs count toward the 256 of the resume list, the room a suspension asks for (log
26); that a spawned task has its launch's MBOX is the model's choice (log 59). -/
def Obligations.TaskEvents : Prop :=
  (∀ (sk l : Nat) (s : State) (fs gs : List Frame) (f : Frame), (s.sk sk).launch = some l → s.seeks sk l = true → (s.ring ⟨l, sk⟩).2 = 0 →
    (s.sk sk).hw = fs ++ f :: gs → f.state = .ready → (∀ g ∈ gs, g.state ≠ .ready) →
    ∃ t, exec (.dequePop sk) s = .next t ∧ (t.sk sk).reserved = true ∧ (t.sk sk).info.launch = l ∧ t.mem = s.mem ∧
      (f.range = false → (t.sk sk).info.frame = { f with state := .taken } ∧ (t.sk sk).hw = fs ++ gs) ∧
      (f.range = true → 1 < f.count → (t.sk sk).hw = fs ++ { f with count := f.count - 1 } :: gs ∧ (t.sk sk).info.frame =
        { f with arg0 := f.arg0 + BitVec.ofNat 64 (f.count - 1), taskId := seqPlus f.taskId (f.count - 1), count := 1, state := .taken })) ∧
  (∀ (sk : Nat) (s : State) (L : Launch), (s.sk sk).reserved = true → (s.sk sk).busy = false → s.launch? (s.sk sk).info.launch = some L →
    L.ending = none → s.logShut (dieOf sk) L.qid = false → (s.sk sk).info.teamId = noTeam →
    ∃ t, exec (.taskStart sk) s = .next t ∧ (t.sk sk).busy = true ∧ (t.sk sk).reserved = false ∧ (t.sk sk).scr = [] ∧
      t.tk sk = startIssue L (s.sk sk).info ∧ (∀ e : Engine, ((t.tk sk).eng e).pc = BitVec.ofNat 56 (s.sk sk).info.frame.entry) ∧
      (∀ r ∈ startRegs L (s.sk sk).info, (t.tk sk).getS (BitVec.ofNat 6 r.1) = r.2 ∧ (t.tk sk).getA (BitVec.ofNat 5 r.1) = r.2) ∧
      (seqOf (s.sk sk).info.frame.taskId = 0 → (t.sk sk).info.sclk = 1)) ∧
  (∀ (thief victim l : Nat) (s : State) (L : Launch) (f : Frame) (fs : List Frame), (s.sk thief).launch = some l → s.seeks thief l = true →
    s.noOwn thief l = true → s.newWork l (dieOf thief) = false → s.launch? l = some L → s.noSteals (dieOf thief) L.prio = false →
    s.nextVictim thief l = some victim → s.logLevel L.qid = none → thief ≠ victim →
    (s.ring ⟨l, victim⟩).2 = 0 → (s.sk victim).launch = some l → (s.sk victim).hw = f :: fs →
    (f.state = .ready →
      ∃ t, exec (.stealClaim thief victim) s = .next t ∧
        (t.sk thief).claim = some ⟨victim, if f.range then (f.count + 1) / 2 else 1, { f with state := .claimed, claimer := thief }, l, none⟩ ∧
        (t.sk victim).hw = { f with state := .claimed, claimer := thief } :: fs ∧ t.mem = s.mem) ∧
    (f.state ≠ .ready → (s.sk thief).claim = none → ∃ t, exec (.stealClaim thief victim) s = .next t ∧ t.mem = s.mem ∧
      (∀ k, k ≠ thief → t.sk k = s.sk k) ∧ (t.sk thief).claim = none ∧ ((t.sk thief).pool = true ∨ victim ∈ (t.sk thief).tried))) ∧
  (∀ (thief : Nat) (s : State) (L : Launch) (c : Claim) (fs gs : List Frame) (g : Frame), (s.sk thief).claim = some c → (s.sk thief).busy = false →
    s.launch? c.launch = some L → L.ending = none → s.logShut (dieOf thief) L.qid = false → c.frame.claimer = thief → thief ≠ c.victim → dieOf thief = dieOf c.victim → (s.sk c.victim).launch = some c.launch →
    (s.sk c.victim).hw = fs ++ g :: gs → g.state = .claimed → g.claimer = thief →
    (∀ x ∈ fs, ¬ (x.state = .claimed ∧ x.claimer = thief)) → (s.sk thief).launch = some c.launch → (s.sk thief).hw.length < 64 →
    ∃ t, exec (.stealTake thief) s = .next t ∧ (t.sk thief).busy = true ∧ (t.sk thief).claim = none ∧
      (t.sk thief).info.frame.taskId = c.frame.taskId ∧ (t.sk thief).info.frame.count = 1 ∧ (t.sk thief).info.frame.stolen = true ∧
      (g.range = false → (t.sk c.victim).hw = fs ++ gs) ∧
      (g.range = true → c.h < g.count → (t.sk c.victim).hw = fs ++
        { g with arg0 := g.arg0 + BitVec.ofNat 64 c.h, count := g.count - c.h, taskId := seqPlus g.taskId c.h, state := .ready
                 claimer := 0 } :: gs) ∧
      (c.h ≤ 1 → (t.sk thief).hw = (s.sk thief).hw) ∧
      (1 < c.h → (t.sk thief).hw = (s.sk thief).hw ++
        [{ c.frame with arg0 := c.frame.arg0 + 1, count := c.h - 1, taskId := seqPlus c.frame.taskId 1, owner := thief, state := .ready
                        claimer := 0 }])) ∧
  (∀ (sk : Nat) (s : State) (L : Launch), (s.sk sk).busy = true → (s.sk sk).halted = none → (s.sk sk).handler = none →
    (s.tk sk).allEnded = true → (s.tk sk).pfs = [] → (s.sk sk).info.frame.jctr = 0 → s.launch? (s.sk sk).info.launch = some L →
    ∃ t, exec (.completionRelease sk) s = .next t ∧ (t.sk sk).busy = false ∧ t.mem = s.mem ∧
      (t.launch? (s.sk sk).info.launch).map (fun L => (L.live, L.ndone)) =
        some (L.live - 1, if seqOf (s.sk sk).info.frame.taskId = 0 then L.ndone + 1 else L.ndone)) ∧
  (∀ (s : State) (since : Nat) (a : DWord) (l : Loc), (s.tk s.cur).cmd = some (.spin since a) → (s.sk s.cur).busy = true →
    (s.sk s.cur).halted = none → (s.sk s.cur).handler = none → (s.sk s.cur).info.stop = none → since + 2048 ≤ s.now →
    (2 ≤ s.levelOf s.cur → (s.freePool (s.asidOf s.cur)).isSome = true → s.listRoom (dieOf s.cur) = true →
      ∃ t, exec (.joinSpinExpiry s.cur) s = .next t ∧ (t.sk s.cur).info.stop = some .join ∧ t.mem = s.mem ∧ t.tk s.cur = s.tk s.cur) ∧
    (s.levelOf s.cur < 2 → s.jctrLoc s.cur a = .ok l → s.plainPlace l 8 → s.clean l.pa 8 →
    let v := rdNat s.mem l.pa 8
    jcCount v ≠ 0 →
    (jcWaiter v ≠ 0 → ∃ t, exec (.joinSpinExpiry s.cur) s = .next t ∧ s.trapped t .C Code.joinBusy) ∧
    (jcWaiter v = 0 → (s.freePool (s.asidOf s.cur)).isSome = true → s.listRoom (dieOf s.cur) = true →
      ∃ t, exec (.joinSpinExpiry s.cur) s = .next t ∧ (t.sk s.cur).info.stop = some .join ∧ t.mem = s.mem ∧ t.tk s.cur = s.tk s.cur))) ∧
  (∀ (sk l : Nat) (s : State) (L : Launch) (v : Saved), (s.sk sk).launch = some l → s.resumeNext sk l = some v → s.launch? l = some L →
    s.mayTake sk l = true →
    exec (.taskResume sk) s = .next (s.resume sk v) ∧
    (∀ im s1, v.taken = none → ({ (s.updDie (dieOf sk) (fun D => { D with resume := D.resume.filter (fun i => i != v.info.id) })) with
          saved := Tbl.del s.saved v.info.id }.updSk sk (fun x => { x with busy := true, info := v.info, claim := none })).getRecord
            v.die v.asid v.base (recSize / 65536) = .ok (im, s1) → recOk im = true → (s1.sk sk).info = v.info → recLeases im = [] →
      v.info.snap = none → v.info.step = none → v.info.pend = [] → v.info.stepDone = false → v.info.yielded = false → v.info.preempt = none →
      ∃ t, exec (.taskResume sk) s = .next t ∧ t.tk sk = recIssueWith im v.keep ∧ (t.sk sk).scr = recScr im))

/-- 13 R320, R321: a notify makes its queue wait for the dispatcher with the TAIL memory holds, is counted where no queue is, and unmaps a queue whose
TAIL is too far ahead. R322 to R324, R330: a captured packet becomes the ready head, a bad one is passed; a lone head that fits is dispatched as a
launch and its first iteration handed to the lowest free Skillet; a die draws its batch from the counter. 15 R387: a level change enters the level
table. R338: a team whose slice is over is asked to checkpoint. R339: a class is kept. R340: a launch that has ended is gone. R331: a lost die runs
nothing. 12 R309: what a pre-emption request chooses. That the lowest free Skillet is handed the iteration is the model's choice, R332 not saying
which, and the counts of a class come with its event (log 28). -/
def Obligations.LaunchEvents : Prop :=
  (∀ (die slot qid : Nat) (s : State), s.hostUp = true →
    (∀ q, Tbl.find (s.die die).qslots slot = some q → q.qid = qid % 65536 → q.unmapDue = false →
      s.physOk (q.desc + 0x10) 4 true = .ok () →
      let tail := rdNat s.mem (q.desc + 0x10) 4
      let order := if q.ready.isSome then q.order else some s.notifySeq
      (2 ^ q.lg < (tail + 2 ^ 32 - q.head) % 2 ^ 32 →
        ∃ t, exec (.notify die slot qid) s = .next t ∧ Tbl.find (t.die die).qslots slot =
          if s.garnetSwapped die then some { q with unmapDue := true, order := order } else none) ∧
      ((tail + 2 ^ 32 - q.head) % 2 ^ 32 ≤ 2 ^ q.lg →
        ∃ t, exec (.notify die slot qid) s = .next t ∧ t.mem = (s.writeThroughAll die).mem ∧
          Tbl.find (t.die die).qslots slot = some { q with tail := tail, order := order })) ∧
    (Tbl.find (s.die die).qslots slot = none → Tbl.find (s.die die).qlast slot = none →
      ∃ t, exec (.notify die slot qid) s = .next t ∧ t.mem = s.mem ∧
        Tbl.look 0 (t.die die).ndrop slot = Tbl.look 0 (s.die die).ndrop slot + 1)) ∧
  (∀ (die slot : Nat) (s : State) (q : QSlot), Tbl.find (s.die die).qslots slot = some q → q.ready = none → q.order.isSome = true →
    (s.die die).alive = true →
    (q.head = q.tail → s.physOk (q.desc + 0x10) 4 true = .ok () → rdNat s.mem (q.desc + 0x10) 4 = q.tail → q.unmapDue = false →
      ∃ t, exec (.packetCapture die slot) s = .next t ∧ t.mem = (s.writeThroughAll die).mem ∧
        Tbl.find (t.die die).qslots slot = some { q with order := none }) ∧
    (q.head ≠ q.tail → s.queueBusy q.qid = false →
      (∀ h s1, s.capture die q = (.head h, s1) → Tbl.find (s1.die die).qslots slot = some q →
        (pktKind h.pkt = 3 ∨ ∃ d ∈ pktDies (pdw h.pkt 0), (s1.die d).alive = true) →
        ∃ t, exec (.packetCapture die slot) s = .next t ∧ t.mem = s1.mem ∧ Tbl.find (t.die die).qslots slot = some { q with ready := some h }) ∧
      (∀ code c s1, s.capture die q = (.fail code c, s1) → Tbl.find (s1.die die).qslots slot = some q → ∃ t, exec (.packetCapture die slot) s = .next t ∧
        (Tbl.find (t.die die).qslots slot).map (fun q => (q.head, q.ready)) = some ((q.head + 1) % 2 ^ 32, none)))) ∧
  (∀ (die e i : Nat) (s : State) (q : QSlot) (h : Head), die < 4 → (s.die die).alive = true → s.launches = [] → q.prio < 8 →
    s.headsFor die = [(e, i, q, h)] → Tbl.find (s.die e).qslots i = some q → s.headFits h die = true → (s.freeOn die).isSome = true →
    s.logShut die q.qid = false → (∀ k, (s.sk k).launch ≠ some s.nextId) →
    ∃ t L, exec (.dispatchDecision die) s = .next t ∧ t.launch? s.nextId = some L ∧ L.pkt = h.pkt ∧ L.recd = h.recd ∧ L.asid = q.asid ∧
      L.qid = q.qid ∧ L.prio = q.prio ∧ L.tag = Tbl.look 1 s.tagCtr q.asid ∧
      (Tbl.find (t.die e).qslots i).map (fun q => (q.head, q.ready)) = some ((q.head + 1) % 2 ^ 32, none) ∧
      (pktKind h.pkt = 1 → 0 < nIter h.recd → ∀ k, s.freeOn die = some k →
        (t.sk k).reserved = true ∧ (t.sk k).info.launch = s.nextId ∧ (t.sk k).info.frame.taskId = 0)) ∧
  (∀ (launch die : Nat) (s : State) (L : Launch), s.launch? launch = some L → s.mayDraw L die = true → L.redraw = [] →
    let n := if L.gang then 1 else min (pktBatch L.pkt) (L.total - L.next)
    ∃ t, exec (.batchDraw launch die) s = .next t ∧ s.sameElse t ∧
      t.launch? launch = some { L with next := L.next + n, batches := L.batches ++ [⟨die, L.next, n, 0, 0⟩] }) ∧
  (∀ (launch team : Nat) (s : State) (L : Launch) (m : Team), s.launch? launch = some L → Tbl.find L.teams team = some m →
    m.base.isSome = true → L.ending = none → m.since + 800000 ≤ s.now → s.sliceDue L m.die = true →
    let ks := allSks.filter (fun j => (s.sk j).busy && (s.sk j).info.launch == launch && (s.sk j).info.teamId == BitVec.ofNat 64 team)
    (∀ k ∈ ks, (s.sk k).runs = true ∧ (s.sk k).info.stop = none ∧ (s.sk k).info.pend = []) → s.poolRoom L.asid ks.length = true →
    (∀ k, (s.sk k).reserved = true → (s.sk k).info.launch ≠ launch) →
    (ks ≠ [] → ∃ t, exec (.teamSliceExpiry launch team) s = .next t ∧ t.mem = s.mem ∧ ∀ k ∈ ks, (t.sk k).info.stop = some .checkpoint) ∧
    (ks = [] → exec (.teamSliceExpiry launch team) s = .next (s.leavePlaces launch m.die team 0))) ∧
  (∀ (die slot : Nat) (s : State) (q : QSlot) (h : Head), Tbl.find (s.die die).qslots slot = some q → q.ready = some h →
    pktKind h.pkt = 3 → s.queueBusy q.qid = false →
    ∃ t, exec (.levelChange die slot) s = .next t ∧ Tbl.find t.levels q.qid = some (levelOf q.asid h.recd) ∧
      (Tbl.find (t.die die).qslots slot).map (fun q => (q.head, q.ready)) = some ((q.head + 1) % 2 ^ 32, none)) ∧
  (∀ (launch : Nat) (s : State) (L : Launch), s.launch? launch = some L → (L.ending.isSome = true ∨ s.spent launch L = true) →
    s.jobsOf launch L.ending.isSome = [] →
    ∃ t, exec (.launchEnd launch) s = .next t ∧ t.launch? launch = none ∧ ∀ k, (t.sk k).launch ≠ some launch) ∧
  (∀ (die : Nat) (s : State), die < 4 → (s.die die).alive = true → (∃ e ∈ allDies, e ≠ die ∧ (s.die e).alive = true) →
    s.updating = none → (s.die die).garnetAt + 16000000 ≤ s.now →
    ∃ t, exec (.dieLost die) s = .next t ∧ (t.die die).alive = false ∧ ∀ k, dieOf k = die → (t.sk k).busy = false ∧ (t.sk k).launch = none) ∧
  (∀ (launch die ops bytes : Nat) (s : State) (L : Launch) (t0 : Nat), s.launch? launch = some L → s.onDie L die = true →
    die ∉ L.measured → Tbl.find L.startOn die = some t0 → t0 + 102400 ≤ s.now →
    ∃ t, exec (.launchClassification launch die ops bytes) s = .next t ∧ s.sameElse t ∧
      t.launch? launch = some { L with cls := some (decide (64 * bytes ≤ ops)), measured := L.measured ++ [die] } ∧
      (⟨L.asid, pktRecord L.pkt, decide (64 * bytes ≤ ops), s.now⟩ : ClassRow) ∈ t.classTbl) ∧
  (∀ (sk pt : Nat) (s : State), (s.sk sk).claim = none → s.yields sk = true → s.requested sk pt = true →
    (s.sk sk).info.teamId = noTeam → (s.sk sk).handler = none → (s.sk sk).info.stop = none → (s.sk sk).info.pend = [] →
    (s.sk sk).info.drain = none →
    let c := s.ctx (s.asidOf sk)
    let remt := (s.tk sk).remt
    let killable := (s.sk sk).info.frame.idem = true ∧ (s.sk sk).info.killOk = true
    let room := (s.freePool (s.asidOf sk)).isSome = true ∧ s.listRoom (dieOf sk) = true
    let drains := remt ≠ 0 ∧ remt.toNat ≤ c.drainb
    ∃ t, exec (.preemptionRequest sk pt) s = .next t ∧ t.mem = s.mem ∧
      (drains → (t.sk sk).info.drain = some s.now ∧ (t.sk sk).info.stop = none) ∧
      (¬ drains → killable ∧ c.killt ≤ pt → (t.sk sk).info.stop = some .kill) ∧
      (¬ drains → ¬ (killable ∧ c.killt ≤ pt) → room → (t.sk sk).info.stop = some .checkpoint) ∧
      (¬ drains → ¬ (killable ∧ c.killt ≤ pt) → ¬ room → killable → (t.sk sk).info.stop = some .kill) ∧
      (¬ drains → ¬ room → ¬ killable → (t.sk sk).info.drain = some s.now ∧ (t.sk sk).info.stop = none))

/-- 12 R309, R310, 07 R175, R181, R183: a task whose engines have stopped is checkpointed or suspended into a record of its pool, or killed, its frame
back on its deque or its iteration on the reissue list; a drain that takes too long becomes a checkpoint. R297, R299 to R301: a trap enters the
handler with the cause in its registers. R305: the C-engine takes the earliest pending asynchronous fault. R303: a handler out of time ends its
launch. That a drain lasts at most the lesser of R309's limit and the 8 us of 13 R337 is the model's reading (log 28); so are STOLEN cleared in a
frame pushed back, and suspended JOINs counted toward the resume list's 256 (log 26). What the records hold is SaveRecords. -/
def Obligations.TrapEvents : Prop :=
  (∀ (sk : Nat) (s : State), (s.sk sk).runs = true → (s.tk sk).allStopped = true → (s.tk sk).allEnded = false → s.scrBusy sk = false →
    let i := (s.sk sk).info
    (∀ j, s.freePool (s.asidOf sk) = some j → s.listRoom (dieOf sk) = true →
      (i.stop = some .checkpoint → i.teamId = noTeam → exec (.checkpoint sk) s = .next (s.saveTask sk j 1 true)) ∧
      (i.stop = some .yield → exec (.checkpoint sk) s = .next (s.saveTask sk j 2 true))) ∧
    (i.stop = some .join →
      (s.levelOf sk < 2 → exec (.checkpoint sk) s = .next (s.suspendJoin sk)) ∧
      (2 ≤ s.levelOf sk → ((s.launch? i.launch).bind (fun L => L.turns.head?)) ≠ some sk → exec (.checkpoint sk) s = .next s)) ∧
    (i.stop = some .kill → i.killOk = true →
      (i.walker = true → ∀ L, s.launch? i.launch = some L → ∃ t, exec (.checkpoint sk) s = .next t ∧ (t.sk sk).busy = false ∧
        (t.launch? i.launch).map (fun L => Tbl.look [] L.reissue (dieOf sk)) =
          some (Tbl.look [] L.reissue (dieOf sk) ++ [rootOf i.frame.taskId])) ∧
      (i.walker = false → (s.sk sk).launch = some i.launch → (s.sk sk).hw.length < 64 →
        ∃ t, exec (.checkpoint sk) s = .next t ∧ (t.sk sk).busy = false ∧
          (t.sk sk).hw = (s.sk sk).hw ++ [{ i.frame with state := .ready, count := 1, claimer := 0, owner := sk, stolen := false }]))) ∧
  (∀ (sk t0 : Nat) (s : State), (s.sk sk).info.drain = some t0 → (s.sk sk).runs = true → (s.sk sk).info.stop = none →
    t0 + min 8 (4 * max (s.ctx (s.asidOf sk)).drainb 1) * 1600 ≤ s.now → (s.sk sk).info.teamId = noTeam → s.roomFor sk [sk] = true →
    ∃ t, exec (.drainTimeout sk) s = .next t ∧ t.mem = s.mem ∧ (t.sk sk).info.stop = some .checkpoint ∧ (t.sk sk).info.drain = some t0) ∧
  (∀ (sk : Nat) (s s1 : State) (r : Report), (s.sk sk).runs = true → (s.sk sk).info.stop = some .trap → (s.tk sk).allStopped = true →
    (s.tk sk).firstFault = some r → (s.tk sk).pfs = [] → (s.tk sk).vret = none →
    s.putRecord (dieOf sk) (s.asidOf sk) (s.trapRec sk) (recSize / 65536) (s.recImage sk ⟨if r.code = Code.step then 3 else 0, true, r⟩) =
      .ok s1 →
    ∃ t, exec (.trapEntry sk) s = .next t ∧ t.mem = s1.mem ∧ (t.sk sk).info.stop = none ∧
      t.tk sk = handlerIssue (s1.ctx (s.asidOf sk)).hvec (s.trapRec sk) r.cause ∧
      (t.sk sk).handler.map (fun h => (h.base, h.cause, h.taddr, h.tinfo)) = some (s.trapRec sk, r.cause, r.addr, r.info)) ∧
  (∀ (sk : Nat) (s : State) (p : Nat × Report), (s.sk sk).runs = true → (s.sk sk).info.nextFault = some p → (s.sk sk).info.stop = none →
    (s.tk sk).c.st = .run → p.2.mc = none →
    ∃ t r, exec (.asyncFaultDelivery sk) s = .next t ∧ (t.tk sk).c.st = .faulted r ∧ r.code = p.2.code ∧ r.info = p.2.info ∧
      (t.tk sk).c.pc = (s.tk sk).c.pc ∧ (t.sk sk).info.stop = some .trap ∧ (t.sk sk).info.pend = (s.sk sk).info.pend.erase p) ∧
  (∀ (sk : Nat) (s : State) (h : Handler) (L : Launch), sk < 128 → (s.sk sk).handler = some h → (s.sk sk).busy = true → (s.sk sk).halted = none →
    h.reached = false → h.since + (s.ctx (s.asidOf sk)).hlim * 1600 ≤ s.now → s.launch? (s.sk sk).info.launch = some L → L.ending = none →
    ∃ t, exec (.handlerTimeout sk) s = .next t ∧ (t.sk sk).busy = false ∧ (t.launch? (s.sk sk).info.launch).map (fun L => L.ending) =
      some (some ⟨1, Code.handlerTimeout, dieOf sk, (s.sk sk).info.frame.taskId, 0⟩))

/-- 12 R298 to R300, R464, 07 R165: the record a task leaves, doubleword by doubleword: that of a trap, with SPIN 1 and the scratchpad left in the
Skillet; that of a checkpoint, of a YIELD's suspension and of a JOIN's, with SPIN 0, the scratchpad and the leases the task held. 07 R181, R183, 12
R309: a task saved so leaves its Skillet; one that JOIN suspended has its pool record's number in WAITER and stands on no list, any other joins its
die's resume list. 12 R310, R313: a record read back gives the state it was written from; the back-edge tests kept beside it, and the room for
suspended tasks, are the model's readings (logs 9, 26). -/
def Obligations.SaveRecords : Prop :=
  (∀ (sk : Nat) (s : State) (r : Report) (loc : Nat → Loc), (s.sk sk).runs = true → (s.sk sk).info.stop = some .trap → (s.tk sk).allStopped = true →
    (s.tk sk).firstFault = some r → (s.tk sk).pfs = [] → (s.tk sk).vret = none →
    s.recordPages (dieOf sk) (s.asidOf sk) (s.trapRec sk) .wr loc → (s.sk sk).bounded (s.sk sk).info.saved →
    ∃ t, exec (.trapEntry sk) s = .next t ∧ (t.sk sk).scr = (s.sk sk).scr ∧ (t.sk sk).handler.map (fun h => h.base) = some (s.trapRec sk) ∧
      t.holdsRecord loc (s.recordDw sk (if r.code = Code.step then 3 else 0) true r (s.sk sk).info.saved) []) ∧
  (∀ (s : State) (j : Nat) (loc : Nat → Loc), let sk := s.cur
    (s.sk sk).runs = true → (s.tk sk).allStopped = true → (s.tk sk).allEnded = false → s.scrBusy sk = false → (s.tk sk).pfs = [] →
    (s.tk sk).vret = none → s.freePool (s.asidOf sk) = some j → s.listRoom (dieOf sk) = true →
    let i := (s.sk sk).info
    let d := dieOf sk
    let ls := (s.die d).slabs.filterMap (fun e => (e.2.lease.filter (fun l => l.sk == sk)).map (fun l =>
      ⟨srefRule e.2.gen e.2.lh e.2.lw e.2.y0 e.2.x0 d e.1, l.set, l.budget, l.fmts⟩)) ++ i.saved
    sk < 128 → (∀ e ∈ (s.die d).slabs, e.1 < 64 ∧ e.2.gen < 256 ∧ e.2.lh < 8 ∧ e.2.lw < 8 ∧ e.2.y0 < 16 ∧ e.2.x0 < 16) →
    (s.sk sk).bounded ls → i.snap = none →
    let left (t : State) (base : Nat) : Prop := (t.sk sk).busy = false ∧ (t.sk sk).scr = [] ∧ ∃ v, Tbl.find t.saved i.id = some v ∧
      v.base = base ∧ v.pool = j ∧ v.die = d ∧ v.info.frame = i.frame
    (∀ kind, let base := (s.ctx (s.asidOf sk)).saveBase + 0x2B0000 * j
      s.recordPages d (s.asidOf sk) base .wr loc → (i.stop = some .checkpoint ∧ i.teamId = noTeam ∧ kind = 1 ∨ i.stop = some .yield ∧ kind = 2) →
      ∃ t, exec (.checkpoint sk) s = .next t ∧ t.holdsRecord loc (s.recordDw sk kind false { eng := 3 } ls) (s.sk sk).scr ∧ left t base ∧
        (t.die d).resume = (s.die d).resume ++ [i.id]) ∧
    (∀ since a l, i.stop = some .join → s.levelOf sk < 2 → (s.tk sk).cmd = some (.spin since a) → s.jctrLoc sk a = .ok l → s.plainPlace l 8 →
      s.clean l.pa 8 → s.decideLow sk d (decAtomic l.va i.frame.taskId) = .ok s → jcCount (rdNat s.mem l.pa 8) ≠ 0 → jcWaiter (rdNat s.mem l.pa 8) = 0 →
      ∀ v s1, s.jcAtomic sk l (fun x => jcMake (j + 1) (jcWsc x) (jcCount x)) = .ok (v, s1) →
      let base := (s1.ctx (s.asidOf sk)).saveBase + 0x2B0000 * j
      s1.recordPages d (s.asidOf sk) base .wr loc → (∀ o, o < 0x2B0000 → recordPlace loc o < l.pa ∨ l.pa + 8 ≤ recordPlace loc o) →
      ∃ t, exec (.checkpoint sk) s = .next t ∧ t.holdsRecord loc (s.recordDw sk 2 false { eng := 3 } ls) (s.sk sk).scr ∧ left t base ∧
        (t.die d).resume = (s.die d).resume ∧ jcWaiter (rdNat t.mem l.pa 8) = j + 1 ∧
        jcCount (rdNat t.mem l.pa 8) = jcCount (rdNat s.mem l.pa 8) ∧ jcWsc (rdNat t.mem l.pa 8) = jcWsc (rdNat s.mem l.pa 8))) ∧
  (∀ (s w : State) (sk kind : Nat) (spin : Bool) (r : Report) (ls : List SavedLease) (loc : Nat → Loc) (d asid base : Nat),
    kind < 8 → (w.sk sk).bounded ls → s.recordPages d asid base .rd loc → (∀ g ∈ s.poison, ∀ j, j < 43 → g / 1024 ≠ (loc j).pa / 65536) →
    s.holdsRecord loc (w.recordDw sk kind spin r ls) (if spin then [] else (w.sk sk).scr) →
    ∃ im s1, s.getRecord d asid base 43 = .ok (im, s1) ∧ s1.mem = s.mem ∧ recOk im = true ∧
      (∀ keep, (w.tk sk).restored (recIssueWith im keep)) ∧ recArr im = (w.sk sk).info.arr ∧ recLeases im = ls ∧
      (spin = false → ∀ a, a < 2 ^ 21 → Tbl.look 0 (recScr im) a = Tbl.look 0 (w.sk sk).scr a))

/-- 09 R219 to R221, R245: a free slab goes to the waiter next in the round-robin, of those that wait since an earlier cycle, whose GLEASE retires; a
lease that has idled is taken from its holder, who waits again: at once, which is the model's reading of R221 (log 25). R226, R233, 10 R247, R250,
R270: a command that waited for room is accepted; the head job of a slab starts once its edges are clear and its semaphore has served it, ends with
its signal, or halts with a report to its task; that all its effects come at its end is the model's reading (log 25). R241, R242: GRESHAPE and GFREE
act and retire. -/
def Obligations.GriddleEvents : Prop :=
  (∀ (die slab n : Nat) (s : State) (b : Slab) (w : LWait), Tbl.find (s.die die).slabs slab = some b → b.lease = none →
    b.closing = false → n < 32 → b.waiters.find? (fun x => x.sk % 32 == (b.ptr + 1 + n) % 32 && decide (x.since < s.now)) = some w →
    (∀ m, m < n → ∀ x ∈ b.waiters, x.since < s.now → x.sk % 32 ≠ (b.ptr + 1 + m) % 32) →
    ∃ t, exec (.leaseGrant die slab) s = .next t ∧ t.mem = s.mem ∧
      (Tbl.find (t.die die).slabs slab).map (fun b => (b.lease, b.ptr)) = some (some ⟨w.sk, w.set, w.budget, w.fmts, s.now⟩, w.sk % 32) ∧
      (w.saved = false → ∀ i r, (s.tk w.sk).cmd = some (.grant i r) → (s.tk w.sk).c.loops = [] → (s.sk w.sk).info.step = none →
        (t.tk w.sk).cmd = none ∧ (t.tk w.sk).c.pc = (s.tk w.sk).c.pc + 8)) ∧
  (∀ (die slab : Nat) (s : State) (b : Slab) (l : Lease), Tbl.find (s.die die).slabs slab = some b → b.lease = some l → b.waiters ≠ [] →
    b.queue.length < 32 → l.idle + 65536 < s.now →
    ∃ t, exec (.leaseRevocation die slab) s = .next t ∧ t.mem = s.mem ∧
      Tbl.find (t.die die).slabs slab = some { b with lease := none, waiters := b.waiters ++ [⟨l.sk, l.set, l.budget, l.fmts, true, s.now⟩] } ∧
      (t.sk l.sk).info.saved = (s.sk l.sk).info.saved ++ [⟨b.sref die slab, l.set, l.budget, l.fmts⟩]) ∧
  (∀ (sk e w : Nat) (s s1 : State) (j x : Job) (r : Ret), (s.tk sk).cmd = some (.accept e j r) → (s.sk sk).busy = true →
    (s.sk sk).halted = none → (s.sk sk).info.stop = none → j.sent = false → (s.sk sk).handler.isSome = true ∨ s.levelOf sk < 2 →
    (if j.kind.griddle then s.acceptGriddle sk j else s.acceptCopy e j) = some (w, s1) → s1.sk sk = s.sk sk → s1.job? e w = some x →
    (j.kind ≠ .greshape → (s.tk sk).c.loops = [] → (s.sk sk).info.step = none →
      ∃ t, exec (.jobWindowAccept sk) s = .next t ∧ (t.tk sk).cmd = none ∧ (t.tk sk).c.pc = (s.tk sk).c.pc + 8 ∧ t.job? e w = some x ∧
        (t.tk sk).sameRegs ((s.tk sk).setS r.d (jobId e w x))) ∧
    (j.kind = .greshape → ∃ t, exec (.jobWindowAccept sk) s = .next t ∧ (t.tk sk).cmd = some (.act j.slab w r) ∧
      t.job? e w = some x ∧ (t.tk sk).c.pc = (s.tk sk).c.pc)) ∧
  (∀ (die slab w : Nat) (s : State) (b : Slab) (j : Job), s.headJob die slab = some (w, b, j) → j.kind ≠ .greshape →
    (j.st = .ready ∨ j.st = .queued ∧ s.edgesClear die j = true ∧ (waitSem j.card j.srcDie = none ∨
      s.classClear j = true ∧ ∃ e i, waitSem j.card j.srcDie = some (e, i) ∧ (s.sem e i).q = [] ∧ 1 ≤ (s.sem e i).value)) →
    ∃ t, exec (.griddleJobStart die slab) s = .next t ∧ (t.job? die w).map (fun j => j.st) = some .running ∧
      (∀ e i, j.st = .queued → waitSem j.card j.srcDie = some (e, i) → (t.sem e i).value = (s.sem e i).value - 1)) ∧
  (∀ (die slab w : Nat) (s s1 : State) (b : Slab) (j : Job), s.headJob die slab = some (w, b, j) → j.st = .running → b.halt = false →
    (s.runGriddle ⟨die, w, slab, j⟩ = (s1, none) → s.classClear j = true →
      ∃ t, exec (.griddleJobComplete die slab) s = .next t ∧ t.job? die w = none ∧
        ∀ e i, sigSem j.card j.srcDie = some (e, i) → (s1.sem e i).q = [] → (t.sem e i).value = min ((s1.sem e i).value + 1) 0xFFFFFFFF) ∧
    (∀ r k, s.runGriddle ⟨die, w, slab, j⟩ = (s1, some (.fault r)) → (s.classClear j = true ∨ j.kind ≠ .gdrain ∧ j.kind ≠ .gsave) → r.code ≠ Code.badImage → (s1.job? die w).isSome = true → j.hm = false →
      (s1.launch? j.launch).any (fun L => L.ending.isNone) = true → s1.taskAt j.tid = some k →
      ∃ t, exec (.griddleJobHalt die slab) s = .next t ∧ (t.job? die w).map (fun j => j.st) = some (.halted r) ∧
        (t.sk k).info.pend = (s1.sk k).info.pend ++ [(j.seq, { r with async := true, eng := 0, info := jobId die w j })])) ∧
  (∀ (die slab w k : Nat) (s : State) (b : Slab) (j : Job) (q : SlabReq) (r : Ret) (p : PendCmd → Bool),
    s.headJob die slab = some (w, b, j) → j.kind = .greshape → slabReq j.fmt = .ok q →
    (∀ c, p c = true ↔ ∃ r, c = .act slab w r) → s.standing die p = some k → (s.tk k).cmd = some (.act slab w r) →
    (s.tk k).c.loops = [] → (s.sk k).info.step = none →
    ∃ t, exec (.greshapeAct die slab) s = .next t ∧ (t.tk k).cmd = none ∧ (t.tk k).c.pc = (s.tk k).c.pc + 8 ∧ t.job? die w = none ∧
      t.mem = s.mem ∧ (t.tk k).sameRegs ((s.tk k).setS r.d (s.reshape die slab b q).1)) ∧
  (∀ (die slab k : Nat) (s : State) (b : Slab) (r : Ret) (p : PendCmd → Bool), Tbl.find (s.die die).slabs slab = some b →
    b.closing = true → b.queue = [] → b.waiters = [] → (∀ c, p c = true ↔ ∃ r, c = .free slab r) → s.standing die p = some k →
    (s.tk k).cmd = some (.free slab r) → (∀ j c, (s.tk j).cmd = some c → c.toSlab slab = false ∧ c.onSlab slab = false) → (s.tk k).c.loops = [] → (s.sk k).info.step = none →
    ∃ t, exec (.gfreeRelease die slab) s = .next t ∧ Tbl.find (t.die die).slabs slab = none ∧ (t.tk k).cmd = none ∧
      (t.tk k).c.pc = (s.tk k).c.pc + 8 ∧ t.mem = s.mem)

/-- 10 R250, R257 to R260, R264 to R266: a copy that is ready, or has no semaphore to wait on and clear edges, starts on a free engine in order of
acceptance; a gather or scatter then makes its start action; a chunk that lands is marked and its bit set, that of a scatter at the completion; a copy
whose chunks have all landed, its flag added where it has one, reports its flags, signals and leaves, or, where its check word differs, leaves with
CHECK-MISMATCH pending at its task and no signal; a fault halts it. R275, R277: a phase wait ends after its phase has completed, and an ELECT learns
whether its slot won. -/
def Obligations.ColanderEvents : Prop :=
  (∀ (die win : Nat) (s : State) (j : Job), s.job? die win = some j → j.kind.colander = true →
    ((j.st = .ready ∨ j.st = .queued ∧ waitSem j.card j.srcDie = none ∧ s.edgesClear die j = true) → j.unbegun = false →
      (s.die die).cengs.length < 4 →
      (∀ e ∈ (s.die die).window, e.2.kind.colander = true → j.ord ≤ e.2.ord ∨ s.copyReady die e.2 = false) →
      ∃ t, exec (.colanderJobStart die win) s = .next t ∧ t.mem = s.mem ∧ (t.job? die win).map (fun j => j.st) = some .running ∧
        (t.die die).cengs = (s.die die).cengs ++ [win]) ∧
    (∀ s1, j.st = .running → j.unbegun = true → (j.kind = .cpyg → s.classClear j = true) → s.beginCopy die win j = .ok s1 →
      exec (.colanderJobStart die win) s = .next s1)) ∧
  (∀ (die win chunk : Nat) (s s1 : State) (j : Job), s.runningCopy die win = some j →
    (j.far = false → chunk < j.nChunks → chunk ∉ j.landed → s.classClear j = true → s.copyChunk die win j chunk = .ok s1 →
      ∃ t, exec (.colanderChunkLand die win chunk) s = .next t ∧ t.mem = s1.mem ∧
        (t.job? die win).map (fun j => j.landed) = (s1.job? die win).map (fun j => chunk :: j.landed) ∧
        (j.kind ≠ .cpys → cpBen j.card = true → cpBoff j.card + chunk < 4096 →
          (t.slot j.srcDie (cpSlot j.card)).bits.getLsbD (cpBoff j.card + chunk) = true)) ∧
    (j.far = true → s.classClear j = true → s.sendNext die win j = .ok (some s1) → exec (.colanderChunkLand die win chunk) s = .next s1) ∧
    (∀ r, j.far = false → j.hm = false → chunk < j.nChunks → chunk ∉ j.landed → s.copyChunk die win j chunk = .error (.fault r) →
      (s.launch? j.launch).any (fun L => L.ending.isNone) = true →
      ∃ t, exec (.colanderJobHalt die win chunk) s = .next t ∧ (t.job? die win).map (fun j => j.st) = some (.halted r))) ∧
  (∀ (die win : Nat) (s s0 : State) (j : Job), s.runningCopy die win = some j → j.nChunks ≤ j.landed.length → s.classClear j = true → j.unread = false →
    (if j.kind = .cpyr ∧ cpFen j.card = true then (if j.far = true then j.flagged = true ∧ s0 = s else s.addFlag die win j = .ok s0)
      else s0 = s) →
    let b := s0.slot j.srcDie (cpSlot j.card)
    let reports (t : State) : Prop := cpBen j.card = true → let x := t.slot j.srcDie (cpSlot j.card)
      x.sat = (b.sat || j.sat) ∧ x.of = (b.of || j.of) ∧ x.nv = (b.nv || j.nv) ∧ x.count = b.count ∧ x.trunc = b.trunc ∧
        (j.kind ≠ .cpys → x.bits = b.bits ∧ x.clk = b.clk) ∧
        (j.kind = .cpys → ∀ c, c < j.nChunks → cpBoff j.card + c < 4096 → x.bits.getLsbD (cpBoff j.card + c) = true)
    let equal := xChk (cpX j.card) = true → crc32c j.checkedBytes = fld (cpX j.card) 63 32
    (equal → ∃ t, exec (.colanderJobComplete die win) s = .next t ∧ t.job? die win = none ∧ reports t ∧
      ∀ e i, sigSem j.card j.srcDie = some (e, i) → (s0.sem e i).q = [] → (t.sem e i).value = min ((s0.sem e i).value + 1) 0xFFFFFFFF) ∧
    (¬ equal → j.hm = false → ∀ k, s0.taskAt j.tid = some k →
      ∃ t, exec (.colanderJobComplete die win) s = .next t ∧ t.job? die win = none ∧ reports t ∧ (∀ e i, t.sem e i = s0.sem e i) ∧
        (t.sk k).info.pend = (s0.sk k).info.pend ++
          [(j.seq, { code := Code.checkMismatch, addr := caddr j.card 10, async := true, eng := 0, info := jobId die win j })])) ∧
  (∀ (sk g p w : Nat) (elect : Bool) (r : Ret) (s : State), (s.tk sk).cmd = some (.phase g p w elect r) → (s.sk sk).busy = true →
    (s.sk sk).halted = none → (s.tk sk).c.st = .run → s.levelOf sk < 2 → (s.tk sk).c.loops = [] → (s.sk sk).info.step = none →
    let x := s.group sk (s.sk sk).info.teamId.toNat g
    x.arrived = 0 → x.passed p = true →
    ∃ t, exec (.phaseWaitResume sk) s = .next t ∧ (t.tk sk).cmd = none ∧ (t.tk sk).c.pc = (s.tk sk).c.pc + 8 ∧
      (t.sk sk).info.arr = none ∧ (t.tk sk).sameRegs (if elect then (s.tk sk).setS r.d
        (if x.winner = some (s.sk sk).info.teamSlot then 1 else 0) else s.tk sk))

/-- 14 R348, R349, R351, R358, R364, R366 to R368: a waiting Whisk command is accepted, as current into the queue, as future into a slot; a job whose
SEQ is its handle's NEXTSEQ starts, an older one ends; a commit sets pages, image and NEXTSEQ in one action; a fault halts the job before it. A
page-in makes a handle resident, an eviction parks it. -/
def Obligations.WhiskEvents : Prop :=
  (∀ (sk win : Nat) (s : State) (j : Job) (r : Ret) (h : Handle), (s.tk sk).cmd = some (.whisk j r) → (s.sk sk).busy = true →
    (s.sk sk).halted = none → (s.tk sk).c.st = .run → s.levelOf sk < 2 → s.noMarks → s.fwHandle sk j = .ok h → s.unreachable h = false →
    h.rolling = false → s.freeWin h.die = some win → (s.tk sk).c.loops = [] → (s.sk sk).info.step = none →
    let ahead := (fwSeqOf j.card + 2 ^ 32 - h.nextSeq) % 2 ^ 32
    let accepted (t : State) : Prop := exec (.whiskAccept sk) s = .next t ∧ (t.tk sk).cmd = none ∧ (t.tk sk).c.pc = (s.tk sk).c.pc + 8 ∧
      ∃ x, t.job? h.die win = some x ∧ x.kind = j.kind ∧ x.card = j.card ∧ (t.tk sk).sameRegs ((s.tk sk).setS r.d (jobId h.die win x))
    (ahead = 0 → (s.die h.die).wq.length < 64 → ∃ t, accepted t ∧ (t.die h.die).wq = (s.die h.die).wq ++ [256 * h.die + win] ∧
      (t.handle? j.handle).map (fun h => h.ord) = (s.handle? j.handle).map (fun h => h.ord ++ [.job h.die win])) ∧
    (0 < ahead → ahead < 2 ^ 31 → (s.die h.die).rs.length < 16 →
      ∃ t, accepted t ∧ (t.die h.die).rs = (s.die h.die).rs ++ [256 * h.die + win])) ∧
  (∀ (die n : Nat) (s : State) (j : Job) (h : Handle), s.noMarks → s.whiskNext die = some n → s.jobAt n = some j → (s.die die).wrun = none →
    j.st = .ready → s.handle? j.handle = some h →
    (fwSeqOf j.card = h.nextSeq → ∃ t, exec (.whiskJobStart die) s = .next t ∧ t.mem = s.mem ∧ (t.die die).wrun = some n ∧
      (t.jobAt n).map (fun j => j.st) = some .running) ∧
    (fwSeqOf j.card ≠ h.nextSeq → ∃ t, exec (.whiskJobStart die) s = .next t ∧ t.jobAt n = none)) ∧
  (∀ (die : Nat) (s s1 : State) (g : WJob), s.noMarks → s.whiskJob die = some g →
    (∀ x, s.whiskRun g = (s1, .ok x) → s.classClear g.j = true → (s1.handle? g.j.handle).isSome = true →
      ∃ t y, exec (.whiskCommit die) s = .next t ∧ t.jobAt g.t = none ∧ t.handle? g.j.handle = some y ∧
        (x.image = none → (s1.handle? g.j.handle).map (fun h => (h.nextSeq, h.image)) = some (y.nextSeq, y.image)) ∧
        (∀ im ps, x.image = some (im, ps) → y.nextSeq = (fwSeqOf g.j.card + 1) % 2 ^ 32 ∧ y.image = im ∧ y.pages = ps ∧ y.res = .resident)) ∧
    (∀ r, s.whiskRun g = (s1, .error (.job (.fault r))) → g.j.hm = false → (s1.jobAt g.t).isSome = true →
      (s.classClear g.j = true ∨ g.j.fwWrites = false) → (s1.launch? g.j.launch).any (fun L => L.ending.isNone) = true →
      ∃ t, exec (.whiskJobHalt die) s = .next t ∧ (t.jobAt g.t).map (fun j => j.st) = some (.halted r) ∧ (t.die die).wrun = none)) ∧
  (∀ (h : Nat) (s s1 s2 : State) (x : Handle) (ps : List Nat) (im : Tbl Byte) (i : HItem) (rest : List HItem), s.atHead h x i rest →
    x.made = true → x.res = .parked → s.itemNeeds i = true → s.hasCrock x.die = true → s.takePages x.die x.npg = (some ps, s1) →
    s1.readBacking x = .ok (im, s2) → (Tbl.find s2.handles h).isSome = true →
    ∃ t, exec (.ladlePageIn h) s = .next t ∧ t.mem = s2.mem ∧
      (Tbl.find t.handles h).map (fun y => (y.res, y.pages, y.image, y.pf)) = some (.resident, ps, im, false)) ∧
  (∀ (die : Nat) (s s1 : State) (y : Handle) (rest : List Handle), s.noMarks → s.lru die = y :: rest → s.crockDemand die = true →
    s.writeBacking y y.image = .ok s1 → (s1.handle? y.value).isSome = true →
    ∃ t, exec (.ladleEviction die) s = .next t ∧ t.mem = s1.mem ∧
      (t.handle? y.value).map (fun h => (h.res, h.pages, h.image)) = some (.parked, [], []))

/-- 03 R77, R78, 09 R229, R230: what a GMMA leaves in its set: of integers the wrapped sum of exact products, of FP32 and BF16 the ascending chain of
FMAs, from the old element or from zero; no element outside M × N. R234, R235: what a GDRAIN writes, of INT32 elements clamped, of FP32 ones scaled,
biased and clamped, and the set it leaves. 10 R254, R258: what a chunk of a flat copy moves, and of a shaped one. 14 R343, R356, R359 to R363: what
the Whisk commands leave in a handle's image and write as outputs. Finite operands throughout, in memory that the job's translation reaches without a
check. -/
def Obligations.JobResults : Prop :=
  (∀ (die slab w : Nat) (s : State) (b : Slab) (j : Job) (p A B : Nat → Nat), s.headJob die slab = some (w, b, j) → j.st = .running → b.halt = false →
    j.kind = .gmma → b.rp = 0 → s.classClear j = true → s.quietSignal j → s.allHome →
    let c := fun i => j.card.getD i 0
    let M := fld (c 13) 10 0
    let N := fld (c 13) 26 16
    let K := fld (c 13) 56 32
    let acc := (c 13).getLsbD 63
    let fa := fld j.fmt 4 0
    let fb := fld j.fmt 9 5
    let fc := fld j.fmt 14 10
    let a := b.aset j.set
    let old := fun m n => if acc = true then a.el m n else 0
    let ag := s.jobAgent die w j
    let sees := fun wa wb => (∀ m, m < M → (A m : Int) = fld (c 9) 55 0 + m * (BitVec.ofNat 40 (fld (c 10) 39 0)).toInt ∧ s.mayRead ag p (A m) ((K * wa + 7) / 8)) ∧
      ∀ n, n < N → (B n : Int) = fld (c 11) 55 0 + n * (BitVec.ofNat 40 (fld (c 12) 39 0)).toInt ∧ s.mayRead ag p (B n) ((K * wb + 7) / 8)
    fld j.fmt 63 15 = 0 → (a.st = .empty → a.data = []) → M ≤ 1024 → N ≤ 1024 →
    let ends (q : ASet → Prop) : Prop := ∃ t b', exec (.griddleJobComplete die slab) s = .next t ∧ t.job? die w = none ∧
      Tbl.find (t.die die).slabs slab = some b' ∧ q (b'.aset j.set) ∧ (∀ i, i ≠ j.set → b'.aset i = b.aset i) ∧
      ∀ m n, n < 2048 → (M ≤ m ∨ N ≤ n) → (b'.aset j.set).el m n = a.el m n
    let live (x : ASet) : Prop := 0 < M → 0 < N → x.st = (if K = 0 ∧ acc = true ∧ a.st = .empty then .empty else .live)
    ((M = 0 ∨ N = 0) → ends (fun x => x = a)) ∧
    (fc = 0x18 → 9 ≤ fa → fa ≤ 0xC → 9 ≤ fb → fb ≤ 0xC → sees (if fa < 0xB then 8 else 4) (if fb < 0xB then 8 else 4) →
      ends (fun x => live x ∧ ∀ m n, m < M → n < N →
        (x.el m n : Int) % 2 ^ 32 = (old m n + ((List.range K).map (fun k => s.packed p fa (A m) k * s.packed p fb (B n) k)).sum) % 2 ^ 32)) ∧
    (fc = 0 → (fa = 0 ∧ fb = 0 ∨ fa = 2 ∧ fb = 2) → sees (if fa = 0 then 32 else 16) (if fb = 0 then 32 else 16) →
      ends (fun x => live x ∧ ∀ m n, m < M → n < N → old m n < 2 ^ 32 → chainRule K (s.operand p (decide (fa = 2)) (A m)) (s.operand p (decide (fb = 2)) (B n))
        (BitVec.ofNat 32 (old m n)) (BitVec.ofNat 32 (x.el m n))))) ∧
  (∀ (die slab w : Nat) (s : State) (b : Slab) (j : Job) (p R : Nat → Nat), s.headJob die slab = some (w, b, j) → j.st = .running → b.halt = false →
    j.kind = .gdrain → b.rp = 0 → s.classClear j = true → s.quietSignal j → s.allHome →
    let c := fun i => j.card.getD i 0
    let M := fld (c 14) 42 32
    let N := fld (c 14) 58 48
    let ty := fld (c 10) 45 41
    let a := b.aset j.set
    let aty := if a.st = .empty then (if ty = 0 then 0 else 2) else a.aty
    let z := tyBytes ty
    let ag := s.jobAgent die w j
    let sel := fun i => (c 10).getLsbD i
    let f32 := fun va n => BitVec.ofNat 32 (s.leAt p (va + 4 * n) 4)
    (c 10).getLsbD 40 = false → (c 10).getLsbD 50 = false → (a.st = .empty → a.data = []) → (∀ m n, m < M → n < N → a.el m n < 2 ^ 32) →
    (∀ m, m < M → (R m : Int) = fld (c 9) 55 0 + m * (BitVec.ofNat 40 (fld (c 10) 39 0)).toInt ∧ s.mayWrite ag p (R m) (z * N)) →
    (∀ m m' i i', m < M → m' < M → i < z * N → i' < z * N → p (R m + i) = p (R m' + i') → m = m' ∧ i = i') →
    (sel 53 = true → ∀ m, m < M → s.mayRead ag p (fld (c 11) 55 0 + 4 * m) 4) → (sel 54 = true → s.mayRead ag p (fld (c 12) 55 0) (4 * N)) →
    (sel 55 = true → s.mayRead ag p (fld (c 13) 55 0) (4 * N)) →
    (∀ m i v, m < M → i < z * N → (sel 53 = true ∧ fld (c 11) 55 0 ≤ v ∧ v < fld (c 11) 55 0 + 4 * M ∨
      sel 54 = true ∧ fld (c 12) 55 0 ≤ v ∧ v < fld (c 12) 55 0 + 4 * N ∨ sel 55 = true ∧ fld (c 13) 55 0 ≤ v ∧ v < fld (c 13) 55 0 + 4 * N) → p (R m + i) ≠ p v) →
    let ends (q : State → Prop) : Prop := ∃ t b', exec (.griddleJobComplete die slab) s = .next t ∧ t.job? die w = none ∧
      Tbl.find (t.die die).slabs slab = some b' ∧ q t ∧ (∀ i, i ≠ j.set → b'.aset i = b.aset i) ∧
      (sel 52 = true → (b'.aset j.set).data = a.data ∧ (b'.aset j.set).st = (if a.st = .live then .clean else a.st)) ∧
      (sel 52 = false → (b'.aset j.set).st = .empty ∧ (b'.aset j.set).data = []) ∧
      ∀ x, (∀ m i, m < M → i < z * N → x ≠ p (R m + i)) → rdB t.mem x = rdB s.mem x
    (aty = 2 → (ty = 9 ∨ ty = 0xA ∨ ty = 0x18 ∨ ty = 0x1A) → ends (fun t => ∀ m n, m < M → n < N →
      let x := (BitVec.ofNat 32 (a.el m n)).toInt
      let (lo, hi) : Int × Int := if ty = 9 then (-128, 127) else if ty = 0xA then (0, 255) else if ty = 0x1A then (-32768, 32767) else (-(2 ^ 31), 2 ^ 31 - 1)
      (t.leAt p (R m + z * n) z : Int) = max lo (min hi x) % 2 ^ (8 * z))) ∧
    ((aty = 0 ∨ aty = 2) → ty = 0 → (sel 51 = true → ¬ f32NaN (BitVec.ofNat 32 (fld (c 15) 31 0)) ∧ ¬ f32NaN (BitVec.ofNat 32 (fld (c 15) 63 32))) →
      ends (fun t => ∀ m n, m < M → n < N →
        let step (on : Bool) (rule : BitVec 32 → BitVec 32 → BitVec 32 → Prop) (y x x' : BitVec 32) : Prop := if on then rule x y x' else x' = x
        ∃ x0 x1 x2 x3 x4, (if aty = 2 then f32Round ((BitVec.ofNat 32 (a.el m n)).toInt * 2 ^ 149) 1 false x0 else x0 = BitVec.ofNat 32 (a.el m n)) ∧
          step (sel 53) mulRule (f32 (fld (c 11) 55 0) m) x0 x1 ∧ step (sel 54) mulRule (f32 (fld (c 12) 55 0) n) x1 x2 ∧
          step (sel 56) mulRule (BitVec.ofNat 32 (fld (c 14) 31 0)) x2 x3 ∧ step (sel 55) addRule (f32 (fld (c 13) 55 0) n) x3 x4 ∧
          let y := BitVec.ofNat 32 (t.leAt p (R m + 4 * n) 4)
          if sel 51 = true ∧ ¬ f32NaN x4 then
            f32Key y = max (f32Key (BitVec.ofNat 32 (fld (c 15) 31 0))) (min (f32Key x4) (f32Key (BitVec.ofNat 32 (fld (c 15) 63 32)))) ∧ ¬ f32NaN y
          else y = x4))) ∧
  (∀ (die win n : Nat) (s : State) (j : Job) (p p' : Nat → Nat), s.runningCopy die win = some j → j.far = false → n < j.nChunks → n ∉ j.landed →
    s.classClear j = true → s.allHome →
    let c := fun i => j.card.getD i 0
    let ag := s.jobAgent die win j
    (c 13 = 0 →
      let len := min 512 (fld (c 14) 39 0 - 512 * n)
      let src := fld (c 9) 55 0 + 512 * n
      let dst := fld (c 10) 55 0 + 512 * n
      let from_ := fun i => if (c 9).getLsbD 63 then Tbl.look 0 (s.sk j.sk).scr (src + i) else rdB s.mem (p (src + i))
      ((c 9).getLsbD 63 = false → s.mayRead ag p src len) → ((c 9).getLsbD 63 = true → src + len ≤ 2 ^ 21) →
      ((c 10).getLsbD 63 = false → s.mayWrite ag p' dst len → (∀ i i', i < len → i' < len → p' (dst + i) = p' (dst + i') → i = i') →
        ∃ t, exec (.colanderChunkLand die win n) s = .next t ∧ (∀ i, i < len → rdB t.mem (p' (dst + i)) = from_ i) ∧
          ∀ x, (∀ i, i < len → x ≠ p' (dst + i)) → rdB t.mem x = rdB s.mem x) ∧
      ((c 10).getLsbD 63 = true → dst + len ≤ 2 ^ 21 →
        ∃ t, exec (.colanderChunkLand die win n) s = .next t ∧ t.mem = s.mem ∧ (∀ i, i < len → Tbl.look 0 (t.sk j.sk).scr (dst + i) = from_ i) ∧
          ∀ x, (x < dst ∨ dst + len ≤ x) → Tbl.look 0 (t.sk j.sk).scr x = Tbl.look 0 (s.sk j.sk).scr x)) ∧
    (∀ S D : Nat → Nat, j.kind = .cpy → c 13 ≠ 0 → c 12 = 0 → (c 9).getLsbD 63 = false → (c 10).getLsbD 63 = false →
      let ty := fld (j.rec1.getD 0 0) 4 0
      let rank := fld (j.rec1.getD 0 0) 7 5
      let z := tyBytes ty
      let ext := fun i => if i < rank then fld (j.rec1.getD (1 + i / 2) 0) (32 * (i % 2) + 31) (32 * (i % 2)) else 1
      let count := ext 0 * ext 1 * ext 2 * ext 3
      let at_ (r : List DWord) (e : Nat) : Int :=
        (e % ext 0 : Nat) * (BitVec.ofNat 40 (fld (r.getD 3 0) 39 0)).toInt + (e / ext 0 % ext 1 : Nat) * (BitVec.ofNat 40 (fld (r.getD 4 0) 39 0)).toInt
          + (e / (ext 0 * ext 1) % ext 2 : Nat) * (BitVec.ofNat 40 (fld (r.getD 5 0) 39 0)).toInt
          + (e / (ext 0 * ext 1 * ext 2) : Nat) * (BitVec.ofNat 40 (fld (r.getD 6 0) 39 0)).toInt
      let mine (e : Nat) : Prop := 512 * n ≤ z * e ∧ z * e < 512 * (n + 1) ∧ e < count
      z ≠ 0 → fld (j.rec2.getD 0 0) 7 0 = fld (j.rec1.getD 0 0) 7 0 → (∀ i, i < 2 → j.rec2.getD (1 + i) 0 = j.rec1.getD (1 + i) 0) →
      (∀ e, e < count → (S e : Int) = fld (c 9) 55 0 + at_ j.rec1 e ∧ (D e : Int) = fld (c 10) 55 0 + at_ j.rec2 e) →
      (∀ e f, e < count → f < count → e ≠ f → D e + z ≤ D f ∨ D f + z ≤ D e) →
      (∀ e, mine e → s.mayRead ag p (S e) z ∧ s.mayWrite ag p' (D e) z) →
      (∀ e f i i', mine e → mine f → i < z → i' < z → p' (D e + i) = p' (D f + i') → e = f ∧ i = i') →
      ∃ t, exec (.colanderChunkLand die win n) s = .next t ∧ (∀ e i, mine e → i < z → rdB t.mem (p' (D e + i)) = rdB s.mem (p (S e + i))) ∧
        ∀ x, (∀ e i, mine e → i < z → x ≠ p' (D e + i)) → rdB t.mem x = rdB s.mem x)) ∧
  (∀ (die : Nat) (s : State) (g : WJob) (p : Nat → Nat), s.noMarks → s.whiskJob die = some g → s.classClear g.j = true → s.quietSignal g.j →
    s.allHome → g.h.pois = false → g.h.npg ≤ (s.crockFree g.h.die).length →
    let c := fun i => g.j.card.getD i 0
    let r := fun i hi lo => fld (g.j.rec1.getD i 0) hi lo
    let C := fld (c 10) 40 32
    let oen := (c 10).getLsbD 50
    let oty := (c 10).getLsbD 49
    let ity := (c 10).getLsbD 48
    let al := BitVec.ofNat 32 (fld (c 11) 31 0)
    let eta := BitVec.ofNat 32 (fld (c 11) 63 32)
    let zi := if ity then 2 else 4
    let zo := if oty then 2 else 4
    let NH := g.h.nh
    let DV := g.h.dv
    let DK := g.h.dk
    let IB := 4 * NH * DV * DK
    let img := (c 12).toNat
    let ag := s.whiskAgent g
    let qa := fun h t => r 0 55 0 + h * r 7 23 0 + t * r 5 31 0
    let ka := fun h t => r 1 55 0 + h * r 7 23 0 + t * r 5 63 32
    let va := fun h t => r 2 55 0 + h * r 7 47 24 + t * r 6 31 0
    let oa := fun h t => r 3 55 0 + h * r 7 47 24 + t * r 6 63 32
    let ba := fun h t => r 4 55 0 + h * r 7 63 48 + 4 * t
    let q := fun h t => s.operand p ity (qa h t)
    let k := fun h t => s.operand p ity (ka h t)
    let v := fun h t => s.operand p ity (va h t)
    let β := fun h t => BitVec.ofNat 32 (s.leAt p (ba h t) 4)
    let S := fun h i j => headElem g.h.image DV DK h i j
    let S' := fun (y : Handle) h i j => headElem y.image DV DK h i j
    let token (h t : Nat) : Prop := h < NH ∧ t < C
    let readQ : Prop := ∀ h t, token h t → s.mayRead ag p (qa h t) (zi * DK)
    let readK : Prop := ∀ h t, token h t → s.mayRead ag p (ka h t) (zi * DK) ∧ s.mayRead ag p (va h t) (zi * DV)
    let readB : Prop := ∀ h t, token h t → s.mayRead ag p (ba h t) 4
    let writeO : Prop := (∀ h t, token h t → s.mayWrite ag p (oa h t) (zo * DV)) ∧
      ∀ h t h' t' i i', token h t → token h' t' → i < zo * DV → i' < zo * DV → p (oa h t + i) = p (oa h' t' + i') → h = h' ∧ t = t' ∧ i = i'
    let ends (q : State → Handle → Prop) : Prop := ∃ t y, exec (.whiskCommit die) s = .next t ∧ t.handle? g.j.handle = some y ∧ t.jobAt g.t = none ∧ q t y
    let cell (h i j : Nat) : Prop := h < NH ∧ i < DV ∧ j < DK
    (g.j.kind = .fwzero → ends (fun t y => t.mem = s.mem ∧ ∀ a, a < IB → Tbl.look 0 y.image a = 0)) ∧
    (g.j.kind = .fwld → s.mayRead ag p img IB → ends (fun t y => t.mem = s.mem ∧ ∀ a, a < IB → Tbl.look 0 y.image a = rdB s.mem (p (img + a)))) ∧
    (g.j.kind = .fwst → s.mayWrite ag p img IB → (∀ i i', i < IB → i' < IB → p (img + i) = p (img + i') → i = i') →
      ends (fun t y => y.image = g.h.image ∧ (∀ a, a < IB → rdB t.mem (p (img + a)) = Tbl.look 0 g.h.image a) ∧
        ∀ x, (∀ a, a < IB → x ≠ p (img + a)) → rdB t.mem x = rdB s.mem x)) ∧
    (g.j.kind = .fwfade → C = 0 → ends (fun t y => t.mem = s.mem ∧ ∀ h i j, cell h i j → mulRule al (S h i j) (S' y h i j))) ∧
    (g.j.kind = .fwrd → readQ → writeO → ends (fun t y => y.image = g.h.image ∧ ∀ h tk i, token h tk → i < DV →
      ∃ o, chainRule DK (S h i) (q h tk) 0 o ∧ t.outAt p oty (oa h tk) i o)) ∧
    (∀ var, g.j.kind = .fwstep var → var < 3 → readK → readB → (oen = true → readQ ∧ writeO) → ends (fun t y =>
      ∃ (F : Nat → Nat → Nat → BitVec 32) (u : Nat → Nat → Nat → BitVec 32) (N : Nat → Nat → Nat → Nat → BitVec 32),
        (∀ h i j, cell h i j → mulRule al (S h i j) (F h i j) ∧ N h 0 i j = F h i j ∧ S' y h i j = N h C i j) ∧
        (∀ h tk i, token h tk → i < DV → corrRule DK (F h i) (k h tk) (v h tk i) (β h tk) (u h tk i) ∧
          (∀ j, j < DK → fmaRule (u h tk i) (k h tk j) (N h tk i j) (N h (tk + 1) i j)) ∧
          (oen = true → ∃ o, chainRule DK (if var = 0 then S h i else if var = 1 then F h i else N h C i) (q h tk) 0 o ∧ t.outAt p oty (oa h tk) i o)) ∧
        (oen = false → t.mem = s.mem))) ∧
    (g.j.kind = .fwseq → readK → readB → (oen = true → readQ ∧ writeO) → ends (fun t y =>
      ∃ (Z F : Nat → Nat → Nat → Nat → BitVec 32) (u : Nat → Nat → Nat → BitVec 32),
        (∀ h i j, cell h i j → Z h 0 i j = S h i j ∧ S' y h i j = Z h C i j) ∧
        (∀ h tk i, token h tk → i < DV → (∀ j, j < DK → mulRule al (Z h tk i j) (F h tk i j)) ∧
          corrRule DK (F h tk i) (k h tk) (v h tk i) (β h tk) (u h tk i) ∧ (∀ j, j < DK → fmaRule (u h tk i) (k h tk j) (F h tk i j) (Z h (tk + 1) i j)) ∧
          (oen = true → ∃ o, chainRule DK (Z h (tk + 1) i) (q h tk) 0 o ∧ t.outAt p oty (oa h tk) i o)) ∧
        (oen = false → t.mem = s.mem))) ∧
    (g.j.kind = .fwgrad → oen = false → readK → ends (fun t y => t.mem = s.mem ∧
      ∃ (F : Nat → Nat → Nat → BitVec 32) (u : Nat → Nat → Nat → BitVec 32) (N : Nat → Nat → Nat → Nat → BitVec 32),
        (∀ h i j, cell h i j → mulRule al (S h i j) (F h i j) ∧ N h 0 i j = F h i j ∧ S' y h i j = N h C i j) ∧
        ∀ h tk i, token h tk → i < DV → mulRule eta (v h tk i) (u h tk i) ∧
          ∀ j, j < DK → fmaRule (u h tk i ^^^ 0x80000000) (k h tk j) (N h tk i j) (N h (tk + 1) i j))))

/-- 14 R371 to R380: what the actions do when their turn comes. SHNEW's image is zero; SHSNAP and SHFORK share pages and chunk counter; SHROLL gives
its source's image and counter; SHMOVE within the package is MOVING, then moves the image to pages of the other die; SHPIN pins; SHFREE erases the
entry and advances its generation. A move between chips ends AWAY at the acknowledgement, and the receiver holds the handle. -/
def Obligations.HandleActions : Prop :=
  (∀ (sk : Nat) (s s1 : State) (op : ShOp) (a b : DWord) (cap : List DWord) (r : Ret), (s.tk sk).cmd = some (.handle op a b cap r) →
    (s.sk sk).busy = true → (s.sk sk).halted = none → (s.tk sk).c.st = .run → (op = .stat ∨ s.levelOf sk < 2) → s.shAccept sk op a b cap r = .ok s1 → (s1.sk sk).busy = true →
    exec (.handleCommandAccept sk) s = .next (s1.retire sk .C 8 r.tok)) ∧
  (∀ (h : Nat) (s : State) (x : Handle) (i : HItem) (rest : List HItem), s.atHead h x i rest →
    (i = .new → x.npg ≤ (s.crockFree x.die).length →
      ∃ t y, exec (.shnewAction h) s = .next t ∧ t.mem = s.mem ∧ Tbl.find t.handles h = some y ∧ y.made = true ∧ y.ord = rest ∧
        y.res = .resident ∧ y.image = [] ∧ y.pages = (s.crockFree x.die).take x.npg) ∧
    (∀ dst fork z, i = .snap dst fork → s.handle? dst = some z → dst ≠ x.value → x.res = .resident →
      ∃ t y, exec (if fork then .shforkAction h else .shsnapAction h) s = .next t ∧ t.mem = s.mem ∧ t.handle? dst = some y ∧
        y.made = true ∧ y.image = x.image ∧ y.pages = x.pages ∧ y.nextSeq = x.nextSeq ∧ y.die = x.die ∧ y.res = .resident ∧
        (Tbl.find t.handles h).map (fun h => h.ord) = some rest) ∧
    (∀ tok l s1, i = .avg tok l → s.avgAction x tok l = some s1 → exec (.shavgAction h) s = .next s1) ∧
    (∀ tok src k ks, i = .roll tok src → src ≠ x.value → x.keptFor tok = k :: ks → k.ok = true → k.pages ≠ [] → k.die = x.die →
      (∀ d ∈ allDies, (s.die d).rs = []) →
      ∃ t y, exec (.shrollAction h) s = .next t ∧ t.mem = s.mem ∧ Tbl.find t.handles h = some y ∧ y.image = k.image ∧ y.pages = k.pages ∧
        y.nextSeq = k.nextSeq ∧ y.pois = k.pois ∧ y.ord = rest) ∧
    (∀ d0 d1, i = .move d0 d1 →
      (mvXchip d0 = false → x.res ≠ .moving → ∃ t, exec (.shmoveAction h) s = .next t ∧ t.mem = s.mem ∧
        Tbl.find t.handles h = some { x with res := .moving }) ∧
      (mvXchip d0 = false → x.res = .moving → x.pages ≠ [] → s.crockDie (mvDie d0) ≠ x.die →
        x.npg ≤ (s.crockFree (s.crockDie (mvDie d0))).length →
        ∃ t y, exec (.shmoveAction h) s = .next t ∧ t.mem = s.mem ∧ Tbl.find t.handles h = some y ∧ y.die = s.crockDie (mvDie d0) ∧
          y.res = .resident ∧ y.image = x.image ∧ y.pages = (s.crockFree (s.crockDie (mvDie d0))).take x.npg ∧ y.ord = rest ∧
          y.backing = (if mvBack d1 = 0 then x.backing else mvBack d1)) ∧
      (∀ s1, mvXchip d0 = true → s.moveAway x d0 d1 = some s1 → exec (.shmoveAction h) s = .next s1) ∧
      (x.res = .moving → rest = [] → x.sent = (movePackets s x x.image d0 d1).length →
        ∃ t y, exec (.handleMoveAck h) s = .next t ∧ t.mem = s.mem ∧ Tbl.find t.handles h = some y ∧ y.res = .away ∧ y.pages = [] ∧
          y.ord = [])) ∧
    (∀ w, i = .pin true w → x.res = .resident → ∃ t y, exec (.shpinAction h) s = .next t ∧ t.mem = s.mem ∧ Tbl.find t.handles h = some y ∧
      y.pin.isSome = true ∧ y.ord = rest ∧ y.image = x.image) ∧
    (∀ w, i = .pin false w → ∃ t y, exec (.shpinAction h) s = .next t ∧ t.mem = s.mem ∧ Tbl.find t.handles h = some y ∧ y.pin = none ∧ y.ord = rest) ∧
    (i = .free → rest = [] → ∃ t, exec (.shfreeAction h) s = .next t ∧ Tbl.find t.handles h = none ∧
      (hHome x.value = s.chipId.toNat → Tbl.look 1 t.handleGen (hIndex x.value) = genAfter (hGen x.value)) ∧
      (hHome x.value ≠ s.chipId.toNat → s.route (hHome x.value) ≠ 0 → ∃ (n : Nat) (p : Packet),
        (p ∈ (t.link n).waiting ∨ ∃ q, (q, p) ∈ (t.link n).replay) ∧ p.kind = .handleMove ∧ p.dst = hHome x.value ∧ p.asid = x.asid ∧
          p.addr = 0 ∧ p.data = leBytes 8 x.value.toNat))) ∧
  (∀ (m : HandleImage) (src : Nat) (s : State), s.noMarks → s.handle? m.handle = none → hHome m.handle ≠ s.chipId.toNat →
    hIndex m.handle ≠ 0 → hGen m.handle ≠ 0 → 1 ≤ m.nh → m.nh ≤ 16 → 1 ≤ m.dk → m.dk ≤ 256 → 1 ≤ m.dv → m.dv ≤ 256 →
    let x : Handle :=
      { value := m.handle, asid := m.asid, nh := m.nh, dk := m.dk, dv := m.dv, snapshot := m.snapshot, res := .parked, die := s.crockDie m.die
        nextSeq := m.nextSeq, pois := m.poisoned, nv := m.nv, of := m.of, backing := m.backing, made := true }
    (s.moves = movePacketsOf src s.chipId.toNat x m.image m.die m.backing → (s.ctx m.asid).valid = true →
      ceilDiv (4 * m.nh * m.dv * m.dk) 262144 ≤ (s.crockFree (s.crockDie m.die)).length →
      ∃ t y, exec (.handleMoveReceive m) s = .next t ∧ t.mem = s.mem ∧ t.moves = [] ∧ t.handle? m.handle = some y ∧ y.asid = m.asid ∧
        y.nh = m.nh ∧ y.dk = m.dk ∧ y.dv = m.dv ∧ y.nextSeq = m.nextSeq ∧ y.image = m.image ∧ y.res = .resident ∧
        y.die = s.crockDie m.die ∧ y.made = true) ∧
    (s.moves = [] ∨ (s.ctx m.asid).valid = false → exec (.handleMoveReceive m) s = .next s))

/-- 08 R187, R198, 17 R415, 18 R438, R440: the host writes, reads and changes device memory, and writes its own; answers to back-invalidations and
snoops end what waits for them; a TLBI from the host is refused or performed; a register write reaches the register at its address. 18 R445 to R448: a
frame of one stream enters the receive buffer, is counted where it cannot, and leaves as a record with the tail moved past it; the zeros of a pad
record, of which R447 gives the length only (log 29), and VLAN 0 of an untagged frame (log 61) are the model's choices; the checks and header layouts
of a frame are those of its standards (log 62). -/
def Obligations.HostAndIngest : Prop :=
  (∀ (s : State) (pa : Nat), s.hostUp = true →
    (∀ bs, bs ≠ [] → s.physOk pa bs.length false = .ok () → ∃ t, exec (.hostCxlAccess (.write pa bs)) s = .next t ∧
      rdBytes t.mem pa bs.length = bs) ∧
    (∀ n, s.physOk pa n true = .ok () → exec (.hostCxlAccess (.read pa n)) s = .next s) ∧
    (∀ v, s.physOk pa 8 true = .ok () →
      (∃ t, exec (.hostCxlAccess (.atomicAdd pa v)) s = .next t ∧ rdBytes t.mem pa 8 = leBytes 8 (rdDW s.mem pa + v).toNat) ∧
      (∃ t, exec (.hostCxlAccess (.atomicOr pa v)) s = .next t ∧ rdBytes t.mem pa 8 = leBytes 8 (rdDW s.mem pa ||| v).toNat)) ∧
    (∀ line, s.physOk (64 * line) 64 true = .ok () → (homeOf (64 * line)).isSome = true →
      ∃ t, exec (.hostCxlAccess (.readCached line)) s = .next t ∧ t.mem = s.mem ∧ line ∈ t.hostCopies) ∧
    (∀ bs, pa + bs.length ≤ 2 ^ 52 → ∃ t, exec (.hostCxlAccess (.writeOwn pa bs)) s = .next t ∧ (s.recOf = [] → t.mem = s.mem) ∧
      rdBytes t.hostMem pa bs.length = bs)) ∧
  (∀ (line : Nat) (s : State), s.hostUp = true → ∃ t, exec (.backInvalidateResponse line) s = .next t ∧ s.sameElse t ∧
    ∀ x, x ∈ t.backInv ↔ x ∈ s.backInv ∧ x ≠ line) ∧
  (∀ (die line : Nat) (s : State) (x : HostLine), s.hostUp = true → Tbl.find (s.die die).hostLines line = some x → x.dirty = true →
    (∃ t, exec (.hostSnoop die line true) s = .next t ∧ Tbl.find (t.die die).hostLines line = none ∧
      t.hostMem = wrCells s.hostMem (cellsAt (line * 64) x.data)) ∧
    (∃ t, exec (.hostSnoop die line false) s = .next t ∧ Tbl.find (t.die die).hostLines line = some ⟨x.data, false⟩ ∧
      t.hostMem = wrCells s.hostMem (cellsAt (line * 64) x.data))) ∧
  (∀ (die : Nat) (s : State), (s.die die).invst.getLsbD 63 = true →
    let D := s.die die
    (tlbiOk D.invctl D.invlen = false → ∃ t, exec (.hostTlbi die) s = .next t ∧ (t.die die).invst = 1 ∧ t.mem = s.mem) ∧
    (tlbiOk D.invctl D.invlen = true → (∀ j, (s.tk j).watch = none) → (∀ d, (s.die d).dirty = []) →
      ∃ t, exec (.hostTlbi die) s = .next t ∧ (t.die die).invst = 0 ∧
        ∀ d ∈ tlbiDies D.invctl die, ∀ x ∈ (t.die d).tlb ++ (t.die d).gtlb,
          tlbCovered (fld D.invctl 1 0) (fld D.invasid 15 0) (fld D.invctl 55 16 * 65536) D.invlen.toNat x = false)) ∧
  (∀ (die : Nat) (v : DWord) (s : State), s.hostUp = true →
    ∃ t, exec (.layinv die v) s = .next t ∧ t.mem = s.mem ∧ (t.die die).layinv = v &&& 0x0000FFFF00001FFF) ∧
  (∀ (v : DWord) (s : State), s.hostUp = true →
    (∃ t, exec (.registerWrite 0 v) s = .next t ∧ s.sameElse t ∧ t.ctxtbl = v &&& 0x000FFFFFFFFF0000) ∧
    (s.cmdBusy = false → ∃ t, exec (.registerWrite 8 v) s = .next t ∧ s.sameElse t ∧
      (1 ≤ fld (Tbl.look 0 s.mcb 0) 7 0 ∧ fld (Tbl.look 0 s.mcb 0) 7 0 ≤ 15 → t.cmdBusy = true) ∧
      (¬ (1 ≤ fld (Tbl.look 0 s.mcb 0) 7 0 ∧ fld (Tbl.look 0 s.mcb 0) 7 0 ≤ 15) → t.mstat = 1)) ∧
    (s.cmdBusy = true → exec (.registerWrite 8 v) s = .next s) ∧
    (∀ i, i < 8 → ∃ t, exec (.registerWrite (0x40 + 8 * i) v) s = .next t ∧ s.sameElse t ∧ Tbl.look 0 t.mcb i = v) ∧
    (∀ d, d < 4 →
      (∀ i, i < 64 → exec (.registerWrite (0x100000 * (d + 1) + 8 * i) v) s = .next (s.notify d i (v.toNat % 65536))) ∧
      (∃ t, exec (.registerWrite (0x100000 * (d + 1) + 0x410) v) s = .next t ∧ t.mem = s.mem ∧ (t.die d).invlen = v ∧
        (t.die d).invst.getLsbD 63 = true) ∧
      (∃ t, exec (.registerWrite (0x100000 * (d + 1) + 0x500) v) s = .next t ∧ t.mem = s.mem ∧
        (t.die d).mcring = v &&& 0x000FFFFFFFFFFFC0) ∧
      (∃ t, exec (.registerWrite (0x100000 * (d + 1) + 0x700) v) s = .next t ∧ t.mem = s.mem ∧ (t.die d).layinv = v &&& 0x0000FFFF00001FFF))) ∧
  (∀ (port : Nat) (bs : List Byte) (s : State), port < 2 → (s.die (portDie port)).alive = true →
    let n := bs.length
    let good := 64 ≤ n ∧ n ≤ 9216 ∧ ofLe (bs.drop (n - 4)) = crc32 (bs.take (n - 4))
    (¬ good → exec (.ingestFrameArrival port bs) s = .next s) ∧
    (∀ i c, good → Tbl.find (s.port port).cls i = some c → i < 256 → c.dmac = beAt bs 0 6 →
      c.vlan = (if beAt bs 12 2 = 0x8100 then beAt bs 14 2 % 4096 else 0) → frameUdp bs = some c.udp →
      (∀ e ∈ (s.port port).cls, e.1 ≠ i → ¬ (e.1 < 256 ∧ e.2.dmac = c.dmac ∧ e.2.vlan = c.vlan ∧ e.2.udp = c.udp)) →
      (s.port port).cls.Pairwise (fun a b => a.1 < b.1) →
      let held := (s.port port).buf.foldl (fun n e => n + e.2.bytes.length) (n - 4)
      ((s.stream port i).on = false → ∃ t, exec (.ingestFrameArrival port bs) s = .next t ∧ s.sameElse t ∧
        (t.stream port i).sdrop = (s.stream port i).sdrop + 1 ∧ (t.port port).buf = (s.port port).buf) ∧
      ((s.stream port i).on = true → held ≤ 67108864 → ∃ t f, exec (.ingestFrameArrival port bs) s = .next t ∧ s.sameElse t ∧
        (t.port port).buf = (s.port port).buf ++ [(i, f)] ∧ f.bytes = bs.take (n - 4) ∧ f.ns < 1000000000) ∧
      ((s.stream port i).on = true → 67108864 < held → ∃ t, exec (.ingestFrameArrival port bs) s = .next t ∧ t.mem = s.mem ∧
        (t.die (portDie port)).rxdrop = (s.die (portDie port)).rxdrop + 1 ∧ (t.port port).buf = (s.port port).buf))) ∧
  (∀ (s : State) (off n : Nat),
    ((n ≠ 8 ∨ off % 8 ≠ 0 ∨ 0x500000 ≤ off) → s.readReg off n = 0) ∧
    (s.bootFail = true → off ≠ 0x10 → s.readReg off n = 0) ∧
    s.readReg 0x10 8 = s.mstat ∧
    (s.bootFail = false → s.readReg 0 8 = s.ctxtbl ∧ s.readReg 8 8 = s.mdoor ∧ (∀ i, i < 8 → s.readReg (0x40 + 8 * i) 8 = Tbl.look 0 s.mcb i) ∧
      ∀ d, d < 4 → let r := 0x100000 * (d + 1)
        (∀ i, i < 64 → s.readReg (r + 8 * i) 8 = 0 ∧ s.readReg (r + 0x200 + 8 * i) 8 = Tbl.look 0 (s.die d).ndrop i) ∧
        s.readReg (r + 0x400) 8 = (s.die d).invasid ∧ s.readReg (r + 0x408) 8 = (s.die d).invctl ∧
        s.readReg (r + 0x410) 8 = (s.die d).invlen ∧ s.readReg (r + 0x418) 8 = (s.die d).invst ∧
        s.readReg (r + 0x500) 8 = (s.die d).mcring ∧ s.readReg (r + 0x508) 8 = (s.die d).mcovf ∧
        (∀ u, u < 16 → s.readReg (r + 0x600 + 8 * u) 8 = Tbl.look 0 (s.die d).cec u) ∧ s.readReg (r + 0x700) 8 = (s.die d).layinv ∧
        s.readReg (r + 0x800) 8 = (if d = 0 then (s.die d).rxdrop else 0) ∧ s.readReg (r + 0x808) 8 = if d = 3 then (s.die d).rxdrop else 0)) ∧
  (∀ (port i : Nat) (fr : Nat × Frame802) (s s0 s1 s2 : State), port < 2 → (s.die (portDie port)).alive = true →
    (s.stream port i).on = true → (s.port port).buf.find? (fun e => e.1 == i) = some fr →
    s0 = (s.writeThroughAll (portDie port)).selfInvalidate (portDie port) → s0.physOk (s.stream port i).headA 8 true = .ok () →
    s.streamQueues (s.stream port i) = [] →
    let x := s.stream port i
    let bs := recordBytes port i fr.2
    let place := x.tail % x.size
    let pad := if x.size < place + bs.length then x.size - place else 0
    let tail := x.tail + (pad + bs.length)
    let d := portDie port
    ((rdDW s0.mem x.headA).toNat + x.size < tail → x.hold = true → exec (.ingestRecordWrite port i) s = .next s0) ∧
    ((rdDW s0.mem x.headA).toNat + x.size < tail → x.hold = false → ∃ t, exec (.ingestRecordWrite port i) s = .next t ∧
      (t.stream port i).sdrop = x.sdrop + 1 ∧ (t.port port).buf = (s.port port).buf.erase fr) ∧
    (tail ≤ (rdDW s0.mem x.headA).toNat + x.size →
      s0.wrHome d 0 false (cellsAt (x.base + place) (List.replicate pad 0) ++ cellsAt (x.base + (place + pad) % x.size) bs) .port = .ok s1 →
      (s1.writeThroughAll d).wrHome d 0 false (cellsAt x.tailA (leBytes 8 tail)) .port = .ok s2 →
      ∃ t, exec (.ingestRecordWrite port i) s = .next t ∧ t.mem = s2.mem ∧ (t.stream port i).tail = tail ∧
        (t.port port).buf = (s.port port).buf.erase fr))

/-- 18 R443, R444: the receiver applies the packet it expects and no other, acknowledges a duplicate again and answers an error or a gap with NAK; the
sender drops what is acknowledged and sends again from what is not; a failed lane stops the link to retrain on its intact half, and a link with a
failed lane in each half is down. R440, R441: the Melper link runs on its intact half; a die link that cannot retrain loses a die, of whose two dies
the first named is the model's choice (log 29). A packet moved here from a link that went down is known by the link and SEQ it first had (R460); how
the receiver knows them, and that REPLAY_TIMEOUT sends the packets of a replay, are the model's choices (log 61). -/
def Obligations.LinkEvents : Prop :=
  ∀ (link : Nat) (s : State), link < 6 →
    let l := s.link link
    let last := (l.expect + 65535) % 65536
    let from_ (q : Nat) (e : Nat × Packet) : Bool := decide (seqBehind e.1 q < 32768)
    (l.live = true → ∀ via flits,
      let gives (t : State) : Prop := exec (.benvasPacketReceive link via flits) s = .next t
      (packetOf flits = none ∨ (∃ f ∈ flits, f.length ≠ 256 ∨ ofLe (f.drop 248) ≠ crc64 (f.take 248)) → ∃ t, gives t ∧ s.mem = t.mem ∧
        (t.link link).naksSent = l.naksSent ++ [last] ∧ (t.link link).expect = l.expect) ∧
      (∀ p s1, packetOf flits = some (l.expect, p) → via = none → s.applyPacket { p with via := none } = some s1 →
        ∃ t, gives t ∧ t.mem = s1.mem ∧ (t.link link).expect = ((s1.link link).expect + 1) % 65536) ∧
      (∀ p v q, packetOf flits = some (l.expect, p) → via = some (v, q) → q ≠ (s.link v).expect →
        ∃ t, gives t ∧ t.mem = s.mem ∧ (t.link link).expect = (l.expect + 1) % 65536) ∧
      (∀ seq p, packetOf flits = some (seq, p) → seq ≠ l.expect → seq < 65536 → l.expect < 65536 →
        let back := (l.expect + 65536 - seq) % 65536
        (back ≤ 256 → ∃ t, gives t ∧ t.mem = s.mem ∧ (t.link link).expect = l.expect ∧ (t.link link).acksSent = l.acksSent ++ [last]) ∧
        (256 < back → ∃ t, gives t ∧ t.mem = s.mem ∧ (t.link link).expect = l.expect ∧ (t.link link).naksSent = l.naksSent ++ [last]))) ∧
    (l.live = true → l.waiting = [] → ∀ seq,
      (let gone (e : Nat × Packet) : Bool := decide (seqBehind seq e.1 < 32768)
       let left := l.replay.filter (fun e => !gone e)
       ∃ t, exec (.benvasAckReceive link seq) s = .next t ∧ (t.link link).replay = left ∧ (t.link link).lastAck = s.now ∧
         (l.replay.any gone = true → (t.link link).acked = seq) ∧ (l.cursor = none → (t.link link).cursor = none) ∧
         ∀ c, l.cursor = some c → seqBehind seq c < 32768 →
           (t.link link).cursor = if left.any (from_ ((seq + 1) % 65536)) then some ((seq + 1) % 65536) else none) ∧
      (∃ t, exec (.benvasNakReceive link seq) s = .next t ∧ s.mem = t.mem ∧ (t.link link).replay = l.replay ∧ (t.link link).out = l.out ∧
        (t.link link).cursor = if l.replay.any (from_ ((seq + 1) % 65536)) then some ((seq + 1) % 65536) else none)) ∧
    (l.live = true → l.ackDue.isSome = true → ∃ t, exec (.ackTimer link) s = .next t ∧ s.mem = t.mem ∧ (t.link link).ackDue = none ∧
      (t.link link).acksSent = l.acksSent ++ [(l.expect + 65535) % 65536]) ∧
    (l.live = true → l.replay ≠ [] →
      (l.cursor = none → l.lastAck + 32000 ≤ s.now → ∃ t, exec (.replayTimeout link) s = .next t ∧ s.mem = t.mem ∧
        (t.link link).replay = l.replay ∧ (t.link link).out = l.out ∧ (t.link link).cursor = l.replay.head?.map (fun e => e.1)) ∧
      (∀ c e, l.cursor = some c → l.replay.find? (from_ c) = some e → ∃ t, exec (.replayTimeout link) s = .next t ∧ s.mem = t.mem ∧
        (t.link link).replay = l.replay ∧ (t.link link).out = l.out ++ [e] ∧
        (t.link link).cursor = if l.replay.any (from_ ((e.1 + 1) % 65536)) then some ((e.1 + 1) % 65536) else none)) ∧
    (∀ lane, lane < 16 → ∃ t, exec (.laneFailure link lane) s = .next t ∧ s.mem = t.mem ∧ (t.link link).wide = false ∧ (t.link link).cursor = none ∧
      (let bad := l.badLanes ||| BitVec.ofNat 16 (2 ^ lane)
       let split := bad.extractLsb' 0 8 ≠ 0 ∧ bad.extractLsb' 8 8 ≠ 0
       (split → (t.link link).up = false) ∧ (¬ split → (t.link link).up = l.up ∧ (l.up = true → (t.link link).retraining = true)))) ∧
    (∀ wide, l.up = true → (if wide then ∃ d ∈ allDies, (s.die d).maint = true else l.retraining = true) →
      ∃ t, exec (.linkRetrainComplete link wide) s = .next t ∧ s.mem = t.mem ∧
        (t.link link).retraining = false ∧ (t.link link).wide = wide ∧ (t.link link).out = l.out ∧ (t.link link).replay = l.replay ∧
        (t.link link).cursor = l.replay.head?.map (fun e => e.1)) ∧
    (Config.peerWindow link s.now = false → (∀ d ∈ allDies, (s.die d).maint = false) → exec (.linkRetrainComplete link true) s = .next s) ∧
    (l.up = false → s.bootFail = false → l.waiting = [] →
      (∃ t, exec (.fullWidthRetry link true) s = .next t ∧ s.mem = t.mem ∧ (t.link link).up = true ∧ (t.link link).wide = true ∧
        (t.link link).out = l.out ∧ (t.link link).cursor = l.replay.head?.map (fun e => e.1)) ∧
      (∃ t, exec (.fullWidthRetry link false) s = .next t ∧ s.mem = t.mem ∧ (t.link link).up = false)) ∧
    (∀ lane, lane < 32 → ∃ t, exec (.melperLaneLoss lane) s = .next t ∧ s.sameElse t ∧
      t.melperHalf = (if lane < 16 then (s.melperHalf.1 + 1, s.melperHalf.2) else (s.melperHalf.1, s.melperHalf.2 + 1)) ∧
      (t.melperUp = true ↔ s.melperUp = true ∧ (t.melperHalf.1 = 0 ∨ t.melperHalf.2 = 0))) ∧
    (∀ a b, a < 4 → b < 4 → a ≠ b → (s.die a).alive = true → (s.die b).alive = true →
      (Tbl.look 0 (s.die a).cec 10 ≠ 0xFFFFFFFFFFFFFFFF →
        ∃ t, exec (.ucieLinkRetrain a b true) s = .next t ∧ t.mem = s.mem ∧ Tbl.look 0 (t.die a).cec 10 = Tbl.look 0 (s.die a).cec 10 + 1) ∧
      (∃ t, exec (.ucieLinkRetrain a b false) s = .next t ∧ (t.die a).alive = false ∧ (a, b) ∈ t.ucieDown))

/-- 17 R426 to R430, 14 R352: a corrected error is counted, an uncorrectable one takes a slot of the ring with the next sequence number; a failed
Crock page poisons the handles that hold it; an entry left unacknowledged ends its launch. R419 to R423: a row of HBM4E or LPDDR-6 refreshed, a hot
stack refreshed at 32 ms, a stack without Spinel at 16 ms by the controller, until Spinel returns. R424, R425: what the scrubber finds. That KIND 0 of
the event is a corrected error (log 27), that rows are numbered below 2^24 and LPDDR-6 is stack 2 (log 20), and from when a takeover reported late and
a stack's cooling count (log 61), are the model's choices. -/
def Obligations.ErrorsAndRefresh : Prop :=
  (∀ (e : ErrorEvent) (s : State), e.die < 4 → (s.die e.die).alive = true →
    let D := s.die e.die
    (e.kind = 0 → Tbl.look 0 D.cec e.unit ≠ 0xFFFFFFFFFFFFFFFF → ∃ t, exec (.machineCheck e) s = .next t ∧ t.mem = s.mem ∧
      (t.die e.die).ring = D.ring ∧ Tbl.look 0 (t.die e.die).cec e.unit = Tbl.look 0 D.cec e.unit + 1) ∧
    (e.kind ≠ 0 → D.ring.length < 256 → (e.at_ = .unitOnly ∨ e.at_ = .hostRead) →
      ∃ t x, exec (.machineCheck e) s = .next t ∧ Tbl.find (t.die e.die).ring D.ring.length = some x ∧
        x.dw0 = (errorInfo e).dw0 D.mcSeq ∧ (t.die e.die).mcSeq = D.mcSeq + 1) ∧
    (e.kind ≠ 0 → ∀ p, e.at_ = .crockPage p →
      ∃ t, exec (.machineCheck e) s = .next t ∧ ∀ h ∈ t.handles, h.2.die = e.die → p ∈ h.2.pages → h.2.pois = true) ∧
    (e.kind ≠ 0 → ∀ k, e.at_ = .task k → (s.sk k).busy = true → (s.sk k).halted = none → e.unit ≠ 5 → D.ring.length < 256 →
      ∃ t, exec (.machineCheck e) s = .next t ∧ (t.sk k).halted = some D.mcSeq ∧ (t.tk k).c.pc = (s.tk k).c.pc)) ∧
  (∀ (die seq slot : Nat) (s : State) (e : McEnt), s.mcEntry die seq = some (slot, e) → e.halt = true → e.since + 160000000 ≤ s.now →
    s.updating = none → exec (.mcAckTimeout die seq) s = .next ((s.mcApply die slot e 2 0xFFFF).garnetRan die)) ∧
  (∀ (die k : Nat) (s : State), die < 4 → k < 2 → (s.die die).alive = true →
    let x := s.stack die k
    (∀ row, row < 2 ^ 24 → ∃ t, exec (.refreshRow die k row) s = .next t ∧ t.mem = s.mem ∧
      Tbl.find (t.stack die k).refreshed row = some s.now) ∧
    (∃ t, exec (.hbmOverTemperature die k) s = .next t ∧ t.mem = s.mem ∧ (t.stack die k).hot = true ∧ (t.stack die k).hotAt = s.now ∧
      (t.stack die k).sweep = (if x.taken then x.sweep else some s.now) ∧
      (x.taken = false → x.back = false → ∀ row, t.period die k row = 32)) ∧
    (x.hot = true → s.now < x.hotAt + 1600000000 → exec (.hbmTemperatureRecovery die k) s = .next s) ∧
    (x.hot = true → x.hotAt + 1600000000 ≤ s.now → ∃ t, exec (.hbmTemperatureRecovery die k) s = .next t ∧ t.mem = s.mem ∧ (t.stack die k).hot = false) ∧
    (x.taken = false → ∃ t, exec (.spinelHeartbeat die k) s = .next t ∧ t.mem = s.mem ∧ (t.stack die k).beat = s.now) ∧
    (∀ handover, x.taken = false → (handover = true ∨ x.beat + 1600000 ≤ s.now) →
      ∃ t, exec (.refreshTakeover die k handover) s = .next t ∧ (∀ row, t.period die k row = 16) ∧
        (t.stack die k).sweep = some (if handover then s.now else min s.now (x.beat + 3200000))) ∧
    (x.taken = true → ∃ t, exec (.spinelResume die k) s = .next t ∧ t.mem = s.mem ∧ (t.stack die k).taken = false ∧
      (t.stack die k).demoted = [] ∧ (t.stack die k).sweep = some s.now ∧ ∀ row, t.period die k row = 16)) ∧
  (∀ (die row : Nat) (s : State), die < 4 → (s.die die).alive = true → row < 2 ^ 24 →
    ∃ t, exec (.refreshRow die 2 row) s = .next t ∧ t.mem = s.mem ∧ Tbl.find (t.stack die 2).refreshed row = some s.now) ∧
  (∀ (die g : Nat) (s : State), die < 4 → (s.die die).alive = true → homeOf (64 * g) = some die →
    let k := scrubberOf g
    let x := s.stack die k
    (s.uniform x = false → (s.die die).guardsOpen < 16 → g = scrubGranule die k x.scrubAt →
      (∃ t, exec (.scrubRead die g .good) s = .next t ∧ t.mem = s.mem ∧ t.poison = s.poison ∧ 
        (t.stack die k).scrubAt = (x.scrubAt + 1) % scrubTotal k) ∧
      (∃ t, exec (.scrubRead die g .corrected) s = .next t ∧ t.mem = s.mem ∧ t.poison = s.poison ∧
        (t.stack die k).guards = x.guards ++ [⟨g, 0, true⟩]) ∧
      ((∀ y ∈ x.guards, y.granule = g → y.count = 0) → ∃ t, exec (.scrubRead die g .uncorrectable) s = .next t ∧ g ∈ t.poison)) ∧
    ((∃ y ∈ x.guards, y.granule = g) → ∃ t, exec (.scrubWriteBack die g) s = .next t ∧ t.mem = s.mem ∧
      (t.stack die k).guards = x.guards.eraseP (fun y => y.granule == g)))

/-- 17 R431 to R434, R436: a pending plate is taken under test, then gets a spare column or is retired; a spare Skillet takes a fenced one's number; a
failed Crock bank gets a spare or the Crock shrinks; a candidate row moves to a spare. 00 R3, 18 R449, R451, R455: the Griddle clock's steps, throttle
and recovery; a trip or loss of power leaves no memory, and a cold reset starts what verifies. The model's choices here: the two steps of a plate, the
idle Whisk of a bank's remap, recovery 10 ms after the clock was lowered, what a reset keeps (log 30), the 100 MHz of a step up (log 57), and the
numbers and order of spare Skillets and banks (log 61). -/
def Obligations.RepairAndPower : Prop :=
  (∀ (die p : Nat) (s : State), s.window die = true → p < 256 → (s.die die).pendRet.getLsbD p = true → (s.die die).inSlab p = false →
    let D := s.die die
    (D.underTest.getLsbD p = false → ∃ t, exec (.plateRepair die p) s = .next t ∧ t.mem = s.mem ∧ (t.die die).underTest.getLsbD p = true) ∧
    (D.underTest.getLsbD p = true → ∃ t, exec (.plateRepair die p) s = .next t ∧ t.mem = s.mem ∧ (t.die die).underTest.getLsbD p = false ∧
      (t.die die).pendRet.getLsbD p = false ∧
      (Tbl.look 0 D.spareCols p < 2 → Tbl.look 0 (t.die die).spareCols p = Tbl.look 0 D.spareCols p + 1 ∧ (t.die die).retired = D.retired) ∧
      (2 ≤ Tbl.look 0 D.spareCols p → (t.die die).retired.getLsbD p = true))) ∧
  (∀ (die i : Nat) (s : State), s.window die = true → i < 32 →
    let k := 32 * die + i
    let n := (s.die die).repair.sparesUsed
    ((s.sk k).fenced = true → (s.sk k).busy = false → (s.sk k).halted = none → (s.sk k).launch = none →
      ∃ t, exec (.skilletSpareMap die i) s = .next t ∧ t.mem = s.mem ∧
        (n < 2 → (t.sk k).fenced = false ∧ (t.die die).repair.coreOf i = 32 + n ∧ (t.die die).repair.sparesUsed = n + 1) ∧
        (2 ≤ n → (t.sk k).fenced = true ∧ (t.die die).repair.fenced.getLsbD i = true)) ∧
    ((s.sk k).busy = true ∨ (s.sk k).launch.isSome = true → exec (.skilletSpareMap die i) s = .next s)) ∧
  (∀ (die bank : Nat) (s : State), s.window die = true → bank ∈ (s.die die).bankBad → (s.die die).wrun = none → (s.die die).wq = [] →
    s.handles = [] →
    let D := s.die die
    let spare (p : Nat) : Prop := (∀ e ∈ D.repair.bankMap, e.2 ≠ p) ∧ p ∉ D.repair.banksBad ∧ p ∉ D.bankBad
    ∃ t, exec (.crockBankRemap die bank) s = .next t ∧ t.mem = s.mem ∧ bank ∉ (t.die die).bankBad ∧ bank ∈ (t.die die).repair.banksBad ∧
      (bank < 64 → Tbl.find D.repair.bankMap bank = none →
        (spare 64 → Tbl.find (t.die die).repair.bankMap bank = some 64) ∧
        (¬ spare 64 → spare 65 → Tbl.find (t.die die).repair.bankMap bank = some 65) ∧
        (¬ spare 64 → ¬ spare 65 → (t.die die).repair.bankMap = D.repair.bankMap)) ∧
      (let out (b : Nat) : Prop := (Tbl.find (t.die die).repair.bankMap b).getD b ∈ (t.die die).repair.banksBad
       let intact (n : Nat) : Prop := ∃ i, (i + 1) * n ≤ 64 ∧ ∀ b, i * n ≤ b → b < (i + 1) * n → ¬ out b
       (intact 64 → (t.die die).crockCap = 512) ∧ (¬ intact 64 → intact 32 → (t.die die).crockCap = 256) ∧
         (¬ intact 32 → intact 16 → (t.die die).crockCap = 128) ∧ (¬ intact 16 → (t.die die).crockCap = 0))) ∧
  (∀ (die k row : Nat) (s : State), s.window die = true → s.dieUsed die = false → k < 2 → row ∈ (s.stack die k).candidates →
    (Config.rowSpare die k row (s.stack die k).repaired.length = true → ∃ t, exec (.postPackageRepair die k row) s = .next t ∧ t.mem = s.mem ∧
      row ∉ (t.stack die k).candidates ∧ (t.stack die k).repaired = (s.stack die k).repaired ++ [row]) ∧
    (Config.rowSpare die k row (s.stack die k).repaired.length = false → exec (.postPackageRepair die k row) s = .next s)) ∧
  (∀ (s : State),
    (s.pinned = false → s.throttled = none →
      exec (.powerManagerStep true) s = .next { s with griddleMHz := max 800 (s.griddleMHz - 100) } ∧
      exec (.powerManagerStep false) s = .next { s with griddleMHz := min 1600 (s.griddleMHz + 100) }) ∧
    (s.throttled = none → exec .thermalThrottle s =
      .next { s with throttled := some s.griddleMHz, throttledAt := s.now, griddleMHz := 800 }) ∧
    (∀ f, s.throttled = some f → s.throttledAt + 16000000 ≤ s.now → exec .thermalRecovery s = .next { s with griddleMHz := f, throttled := none }) ∧
    (∃ t, exec .thermalTrip s = .next t ∧ t.powered = false ∧ t.mem = [] ∧ t.launches = [] ∧ t.handles = [] ∧ t.hostMem = s.hostMem ∧
      t.tripLog = s.tripLog ++ [s.now]) ∧
    (∃ t, exec .powerLoss s = .next t ∧ t.powered = false ∧ t.mem = [] ∧ t.launches = [] ∧ t.handles = [] ∧ t.hostMem = s.hostMem) ∧
    (∃ t, exec .coldReset s = .next t ∧ t.powered = true ∧ t.mem = [] ∧ t.launches = [] ∧ t.handles = [] ∧ t.hostMem = s.hostMem ∧
      t.leafCtr = s.leafCtr ∧
      ((∀ c ∈ components, ((s.comp c).choose c).isSome = true) → ((t.bootFail = false ↔ ∀ n, n < 5 → Config.trains s.now n = true) ∧ t.mstat = 0)) ∧
      ((∃ c ∈ components, (s.comp c).choose c = none) → t.bootFail = true ∧ t.mstat = 3) ∧
      (t.bootFail = true → ∀ i, i < 6 → (t.link i).up = false)))

/-- 18 R439: a management command runs once its doorbell has been rung, and leaves its result in MSTAT with BUSY clear. 13 R319, R321, R340, 15 R386,
14 R380, 17 R415, R428, R431, R436, 18 R442, R444, R446, R451 to R453: what each command does, and where it is refused; an UPDATE is done when its
component has started, and undone when it has not in 100 ms. That the dispatcher writes its HEAD and clears all of a descriptor's last doubleword but
PN at an unmapping, that UPDATE keeps BUSY until the start check, and that an error met in an operand is BAD-ARG, are the model's reading (logs 29,
30, 61); the bytes of a repair record and of the certificate are free values (log 30). -/
def Obligations.Management : Prop :=
  (∀ (i : Instr) (code : Nat) (f : State → Cmd State) (s : State), mgmtRule i = some (code, f) → s.mayManage → fld (s.mdw 0) 7 0 = code →
    (i = .attest → s.signReady = true) →
    (∀ s1, f s = .ok s1 → exec i s = .next (s1.endsWith 0)) ∧ (∀ r, f s = .error (.res r) → exec i s = .next (s.endsWith r)) ∧
      (∀ e, f s = .error (.mc e) → exec i s = .next ((s.noteErr 0 0 e.mc.1 e.mc.2).endsWith 1))) ∧
  (∀ (s : State), s.mayManage →
    let a := s.mdw 1
    let b := s.mdw 2
    let q (p : DWord) (i : Nat) : DWord := rdDW s.mem (p.toNat + 8 * i)
    (s.mdw 0 = 0x01 → a.toNat % 64 = 0 → s.readable a.toNat 64 → fld b 63 14 = 0 → fld b 7 2 = 0 →
      let d := fld b 1 0
      let slot := fld b 13 8
      let taken : Prop := ∃ d' ∈ allDies, ∃ e ∈ (s.die d').qslots, e.2.qid = fld (q a 3) 15 0 ∨ e.2.desc = a.toNat
      let far : Prop := 2 ^ fld (q a 0) 4 0 < ((q a 2).toNat + 2 ^ 32 - (q a 1).toNat) % 2 ^ 32
      (¬ queueRule (q a) → exec .mapq s = .next (s.endsWith 1)) ∧
      (queueRule (q a) → taken ∨ far ∨ (Tbl.find (s.die d).qslots slot).isSome = true → exec .mapq s = .next (s.endsWith 2)) ∧
      (queueRule (q a) → ¬ taken → ¬ far → Tbl.find (s.die d).qslots slot = none → (s.die d).alive = true →
        ∃ t e, exec .mapq s = .next t ∧ t.mstat = 0 ∧ Tbl.find (t.die d).qslots slot = some e ∧ e.qid = fld (q a 3) 15 0 ∧ e.desc = a.toNat ∧
          e.asid = fld (q a 3) 31 16 ∧ e.base = 64 * fld (q a 0) 55 6 ∧ e.lg = fld (q a 0) 4 0 ∧ e.prio = fld (q a 3) 34 32 ∧
          e.ptmax = fld (q a 3) 47 40 ∧ e.head = (q a 1).toNat ∧ e.tail = (q a 2).toNat ∧ e.ready = none ∧
          e.order = (if (q a 4).getLsbD 0 then some s.notifySeq else none) ∧
          ((s.die d).dirty = [] → rdNat t.mem (a.toNat + 0x20) 8 = d * 2 ^ 14 + slot * 2 ^ 8 + 2 ∧
            ∀ y, (y < a.toNat + 0x20 ∨ a.toNat + 0x28 ≤ y) → rdB t.mem y = rdB s.mem y))) ∧
    (s.mdw 0 = 0x02 → a.toNat % 64 = 0 → (homeOf a.toNat).isSome = true → (homeOf (a.toNat + 63)).isSome = true →
      ((∀ d ∈ allDies, ∀ x ∈ (s.die d).qslots, x.2.desc ≠ a.toNat) → exec .unmapq s = .next (s.endsWith 2)) ∧
      (∀ d slot e, d < 4 → Tbl.find (s.die d).qslots slot = some e → e.desc = a.toNat →
        (∀ d' ∈ allDies, ∀ x ∈ (s.die d').qslots, x.2.desc = a.toNat → d' = d ∧ x.1 = slot) →
        ∃ t, exec .unmapq s = .next t ∧ t.mstat = 0 ∧ Tbl.find (t.die d).qslots slot = none ∧
          Tbl.find (t.die d).qlast slot = some ⟨e.qid, a.toNat⟩ ∧ rdNat t.mem (a.toNat + 8) 8 = e.head % 2 ^ 32 ∧
          rdNat t.mem (a.toNat + 0x20) 8 = rdNat s.mem (a.toNat + 0x20) 8 % 2 ∧
          ∀ y, (y < a.toNat + 8 ∨ a.toNat + 16 ≤ y) → (y < a.toNat + 0x20 ∨ a.toNat + 0x28 ≤ y) → rdB t.mem y = rdB s.mem y)) ∧
    (s.mdw 0 = 0x03 → 1 ≤ a.toNat → a.toNat ≤ 0xFFFF →
      ((∃ d ∈ allDies, ∃ x ∈ (s.die d).qslots, x.2.qid = a.toNat) → exec .destroyq s = .next (s.endsWith 2)) ∧
      ((∀ d ∈ allDies, ∀ x ∈ (s.die d).qslots, x.2.qid ≠ a.toNat) →
        ∃ t, exec .destroyq s = .next t ∧ t.mstat = 0 ∧ Tbl.find t.levels a.toNat = none ∧ t.mem = s.mem)) ∧
    (s.mdw 0 = 0x04 → 1 ≤ b.toNat → b.toNat ≤ 0xFFFF →
      ((∀ x, s.handle? a = some x → x.asid ≠ b.toNat) → exec .freeh s = .next (s.endsWith 1)) ∧
      (∀ x, s.handle? a = some x → x.asid = b.toNat →
        ((s.ctx b.toNat).valid = true → exec .freeh s = .next (s.endsWith 2)) ∧
        ((s.ctx b.toNat).valid = false → s.noMarks → x.value = a → x.ord = [] →
          ∃ t, exec .freeh s = .next t ∧ t.mstat = 0 ∧ t.handle? a = none ∧
            (hHome a = s.chipId.toNat → Tbl.look 1 t.handleGen (hIndex a) = genAfter (hGen a)) ∧
            (hHome a ≠ s.chipId.toNat → s.route (hHome a) ≠ 0 → ∃ (n : Nat) (p : Packet),
              (p ∈ (t.link n).waiting ∨ ∃ c, (c, p) ∈ (t.link n).replay) ∧ p.kind = .handleMove ∧ p.dst = hHome a ∧ p.asid = x.asid ∧
                p.addr = 0 ∧ p.data = leBytes 8 a.toNat)))) ∧
    (s.mdw 0 = 0x05 → 1 ≤ a.toNat → a.toNat ≤ 0xFFFF → b.toNat % 64 = 0 → (homeOf b.toNat).isSome = true →
      (homeOf (b.toNat + 262143)).isSome = true → ∃ t, exec .ttreg s = .next t ∧ t.mstat = 0 ∧ Tbl.look 0 t.ttbl a.toNat = b.toNat ∧
        s.sameButBeat t) ∧
    (s.mdw 0 = 0x06 → a.toNat < 4 → b.toNat < 2 → ∃ t, exec .window s = .next t ∧ t.mstat = 0 ∧ t.mem = s.mem ∧
      ((t.die a.toNat).maint = true ↔ b = 1)) ∧
    (s.mdw 0 = 0x07 → a.toNat < 4 → b.toNat % 8 = 0 → (homeOf b.toNat).isSome = true → (homeOf (b.toNat + (Config.repairLen - 1))).isSome = true →
      ∃ t, exec .rdrep s = .next t ∧ t.mstat = 0 ∧
        (∀ i, i < Config.repairLen → rdB t.mem (b.toNat + i) = Config.repairByte ((s.die a.toNat).repair.facts ++ s.tripLog) i) ∧
        ∀ y, (y < b.toNat ∨ b.toNat + Config.repairLen ≤ y) → rdB t.mem y = rdB s.mem y) ∧
    (s.mdw 0 = 0x08 → fld a 63 34 = 0 →
      let d := fld a 33 32
      let seq := fld a 31 0
      ((∀ x ∈ (s.die d).ring, fld x.2.dw0 63 32 = seq → x.2.dw0.getLsbD 31 = true) → exec .mcackh s = .next (s.endsWith 1)) ∧
      (∀ slot e, Tbl.find (s.die d).ring slot = some e → fld e.dw0 63 32 = seq → e.dw0.getLsbD 31 = false →
        (∀ x ∈ (s.die d).ring, fld x.2.dw0 63 32 = seq → x.2.dw0.getLsbD 31 = false → x.1 = slot) →
        (e.asid ≠ 0 ∨ e.dw0.getLsbD 30 = true → exec .mcackh s = .next (s.endsWith 2)) ∧
        (e.asid = 0 → e.dw0.getLsbD 30 = false → ∃ t, exec .mcackh s = .next t ∧ t.mstat = 0 ∧
          Tbl.find (t.die d).ring slot = some { e with dw0 := e.dw0 ||| 0x80000000 }))) ∧
    (s.mdw 0 = 0x09 → fld b 63 16 = 0 →
      ((∀ e ∈ s.launches, e.2.compl = a.toNat → e.2.ending.isSome = true) → exec .endl s = .next (s.endsWith 2)) ∧
      (∀ l L, s.launch? l = some L → L.compl = a.toNat → a.toNat < 2 ^ 52 → L.ending = none →
        (∀ e ∈ s.launches, e.2.compl = a.toNat → e.1 = l) →
        (∀ k, (s.sk k).busy = true ∨ (s.sk k).reserved = true → (s.sk k).info.launch ≠ l) → (∀ d, ∀ x ∈ (s.die d).window, x.2.launch ≠ l) →
        ∃ t L', exec .endl s = .next t ∧ t.mstat = 0 ∧ t.mem = s.mem ∧ t.launch? l = some L' ∧
          L'.ending = some ⟨2, fld b 15 0, L.home, 0, 0⟩ ∧ L'.stopped = true ∧ (∀ e ∈ t.saved, e.2.info.launch ≠ l))) ∧
    (s.mdw 0 = 0x0A → fld a 63 9 = 0 → b.toNat % 64 = 0 → s.readable b.toNat 64 →
      (¬ streamRule (q b) → exec .stream s = .next (s.endsWith 1)) ∧
      (streamRule (q b) → ((q b 0).getLsbD 63 = true → s.readable (8 * fld (q b 1) 55 3) 8) →
        ∃ t x, exec .stream s = .next t ∧ t.mstat = 0 ∧ t.mem = s.mem ∧ t.stream (fld a 8 8) (fld a 7 0) = x ∧
          x.on = (q b 0).getLsbD 63 ∧ x.hold = (q b 0).getLsbD 62 ∧ x.size = 2 ^ fld (q b 0) 61 56 ∧ x.base = 64 * fld (q b 0) 55 6 ∧
          x.tailA = 8 * fld (q b 1) 55 3 ∧ x.headA = 8 * fld (q b 2) 55 3 ∧ x.asid = fld (q b 3) 15 0 ∧ x.sdrop = q b 4 ∧
          x.tail = (if (q b 0).getLsbD 63 then rdNat s.mem (8 * fld (q b 1) 55 3) 8 else 0))) ∧
    (s.mdw 0 = 0x0B → a.toNat < 4096 → b.toNat < 64 → ∃ t, exec .route s = .next t ∧ t.mstat = 0 ∧ s.sameButBeat t ∧
      t.route a.toNat = BitVec.ofNat 6 b.toNat) ∧
    (s.mdw 0 = 0x0C → 1 ≤ a.toNat → a.toNat ≤ 0xFFFF → b.toNat ≤ 2 ^ 56 → (s.mdw 3).toNat ≤ 2 ^ 56 →
      ∃ t, exec .inbound s = .next t ∧ t.mstat = 0 ∧ s.sameButBeat t ∧ Tbl.find t.inbound a.toNat = some (b.toNat, (s.mdw 3).toNat)) ∧
    (s.mdw 0 = 0x0E → a.toNat % 8 = 0 → s.readable a.toNat 32 → b.toNat % 8 = 0 →
      (homeOf b.toNat).isSome = true → (homeOf (b.toNat + 3363)).isSome = true →
      (s.leafCtr < 2 ^ 20 → (∀ t, s.signedAt = some t → t + 8000000 ≤ s.now) →
        ∃ t, exec .attest s = .next t ∧ t.mstat = 0 ∧ t.leafCtr = s.leafCtr + 1 ∧ rdNat t.mem (b.toNat + 8) 8 = s.leafCtr ∧
          (∀ i, i < 32 → rdB t.mem (b.toNat + 64 + i) = rdB s.mem (a.toNat + i)) ∧
          ∀ y, (y < b.toNat ∨ b.toNat + 3364 ≤ y) → rdB t.mem y = rdB s.mem y) ∧
      (2 ^ 20 ≤ s.leafCtr → exec .attest s = .next (s.endsWith 5))) ∧
    (s.mdw 0 = 0x0F → a.toNat % 8 = 0 → (homeOf a.toNat).isSome = true → (homeOf (a.toNat + (Config.identLen - 1))).isSome = true →
      ∃ t, exec .ident s = .next t ∧ t.mstat = 0 ∧
        (∀ i, i < Config.identLen → rdB t.mem (a.toNat + i) = Config.identByte s.chipId.toNat attestKey.public i) ∧
        ∀ y, (y < a.toNat ∨ a.toNat + Config.identLen ≤ y) → rdB t.mem y = rdB s.mem y) ∧
    (fld (s.mdw 0) 7 0 = 0x0D →
      (∀ s1, s.update = .ok s1 → exec .update s = .next s1 ∧ s1.updating.isSome = true ∧ s1.cmdBusy = true) ∧
      (∀ r, s.update = .error (.res r) → exec .update s = .next { s with mstat := r }))) ∧
  (∀ (s : State) (u : Updating), s.updating = some u →
    (∃ t, exec (.componentStart u.comp) s = .next t ∧ t.updating = none ∧ t.mstat = 0 ∧ (t.comp u.comp).minVer = u.ver) ∧
    (u.since + 160000000 ≤ s.now → ∃ t, exec (.updateStartTimeout u.comp) s = .next t ∧ t.updating = none ∧ t.mstat = 3 ∧
      t.comp u.comp = u.old))

/-! ### Words, steps, reset, memory -/

/-- 01 R31, 02 R43 to R52: the words of an instruction, as the encoding tables give them, decode to it, with every operand at every value its field
admits. -/
def Obligations.DecodeEncode : Prop :=
  ∀ i : Instr, i.hasWord = true → i.wellFormed = true → decodeEncoded i = .ok i

/-- 01 R13 to R15, 02 R43: what decodes is the only reading of its words: encoded again, it gives the same words, and it is well-formed. -/
def Obligations.DecodedWordsReencode : Prop :=
  ∀ (w0 w1 : Word32) (i : Instr), decodeWords w0 w1 = .ok i →
    encode i = (if isLong w0 then [w0, w1] else [w0]) ∧ i.wellFormed = true ∧ i.hasWord = true

/-- 01 R31, 02 R45 to R51: words written out from the layouts and the maps decode to the instructions they stand for. -/
def Obligations.WordsDecode : Prop :=
  decodeWords 0x01600000 0x00000000 = .ok (.nop ⟨6, 0, 0⟩) ∧
  decodeWords 0x026E9308 0x00000000 = .ok (.add ⟨6, 58, 19, 2⟩) ∧
  decodeWords 0x1013C41F 0x00000000 = .ok (.addi ⟨1, 15, 4, 31⟩) ∧
  decodeWords 0x1918C004 0x00000000 = .ok (.li ⟨1, 35, 4⟩) ∧
  decodeWords 0x1DF0C024 0x00000000 = .ok (.swt ⟨15, 3, 9⟩) ∧
  decodeWords 0xC49C6A09 0x00000000 = .ok (.bge ⟨39, 6, 2569⟩) ∧
  decodeWords 0xFF000000 0x00000015 = .ok (.callLong ⟨5⟩) ∧
  decodeWords 0x4BA3315D 0x00000000 = .ok (.st64 ⟨10, 6, 12, 349⟩) ∧
  decodeWords 0x5CA0CC00 0x00000000 = .ok (.vldx ⟨10, 1, 19, 0, 0⟩) ∧
  decodeWords 0x70B4A4E0 0x00000000 = .ok (.adda ⟨11, 9, 9, 7⟩) ∧
  decodeWords 0x7FE11404 0x10280003 = .ok (.aadd ⟨14, true, 8, 1, 2, 0, 2, true, 0, 3⟩) ∧
  decodeWords 0x81B1C906 0x00000000 = .ok (.vmul ⟨11, 7, 9, 1⟩) ∧
  decodeWords 0x84FBC650 0x00000000 = .ok (.vaddK ⟨15, 47, 6, 5⟩) ∧
  decodeWords 0xBFF1320C 0x109B0800 = .ok (.vfma ⟨15, 8, 12, 4, 9, 5, true, 0, 4, 0, false, 0⟩) ∧
  decodeWords 0xBF83A000 0x08000AB0 = .ok (.vqcvt ⟨8, 0, 0, 2, 0, 0, false, 0, 5, 11, false, 0⟩) ∧
  decodeWords 0x3F6AC158 0x08073C90 = .ok (.gmma ⟨6, 43, 1, 22, 15504⟩) ∧
  decodeWords 0x3FF2005C 0x0C010008 = .ok (.cpy ⟨15, 8, 0, 23, 8⟩) ∧
  decodeWords 0x3F200D00 0x1005000F = .ok (.bar ⟨2, 0, 13, 0, 15⟩) ∧
  decodeWords 0x3F6EEE38 0x1502AA14 = .ok (.fwstepFrw ⟨6, 59, 46, 14, 43540⟩) ∧
  decodeWords 0x3F70EC14 0x04010005 = .ok (.spawn ⟨7, 3, 44, 5, 5⟩) ∧
  decodeWords 0xC802ABE1 0x00000000 = .ok (.jmp ⟨175073⟩) ∧
  decodeWords 0xCC00D008 0x00000000 = .ok (.loop ⟨13, 8⟩) ∧
  decodeWords 0x85A3000C 0x00000000 = .ok (.kli ⟨10, 3, 12⟩)

/-- 01 R16, R28: an engine with its decode step before it runs the instruction at its program counter: a word of its own tag, or of shared control
while no stop is asked for, one word or two, little-endian. The agenda chooses the engine or the event; without power nothing but a cold reset runs
(the agenda is the model's own, log 2). 02 R44: a word that decodes to nothing is ILLEGAL-OP, which reports its address. 03 R71: the V-engine's last
word retires first: its flags and its draw state reach FPCTL and SRSEED then (log 58). -/
def Obligations.StepRunsDecoded : Prop :=
  (∀ (s : State) (v : VLeft), s.agenda = [] → s.powered = true → s.curEng = .V → (s.tk s.cur).vret = some v →
    step s = step (s.onTk s.cur (fun t => { t with fpctl := t.fpctl ||| v.fl, srseed := v.seed, vret := none }))) ∧
  (∀ (s : State) (w0 : Word32) (e : DecodeError), s.agenda = [] → s.powered = true → s.fetches s.cur s.curEng →
    (s.curEng = .V → (s.tk s.cur).vret = none) → (s.sk s.cur).handler = none → 
    s.fetchWord s.cur ((s.tk s.cur).eng s.curEng).pc.toNat = .ok (w0, s) → isLong w0 = false →
    (tagOf w0 = s.curEng.tag ∨ tagOf w0 = 3 ∧ s.curEng = .C ∧ (s.sk s.cur).stopping = false) → decodeWords w0 0 = .error e →
    ∃ t, step s = .next t ∧ s.illegal t s.curEng) ∧
  (∀ (s s1 : State) (w0 : Word32) (i : Instr), s.agenda = [] → s.powered = true → s.fetches s.cur s.curEng →
    (s.curEng = .V → (s.tk s.cur).vret = none) → s.fetchWord s.cur ((s.tk s.cur).eng s.curEng).pc.toNat = .ok (w0, s1) →
    (tagOf w0 = s.curEng.tag ∨ tagOf w0 = 3 ∧ (s1.sk s.cur).stopping = false) →
    (isLong w0 = false → decodeWords w0 0 = .ok i → step s = exec i { s1 with cur := s.cur, curEng := s.curEng }) ∧
    (∀ w1 s2, isLong w0 = true → s1.fetchWord s.cur (((s.tk s.cur).eng s.curEng).pc.toNat + 4) = .ok (w1, s2) →
      decodeWords w0 w1 = .ok i → step s = exec i { s2 with cur := s.cur, curEng := s.curEng })) ∧
  (∀ (s : State) (va : Nat) (l : Loc), s.xlate (s.dTlbs (dieOf s.cur)) (s.asidOf s.cur) va .fx = .ok l →
    s.plainPlace l 4 → s.clean l.pa 4 → s.fetchWord s.cur va = .ok (BitVec.ofNat 32 (rdNat s.mem l.pa 4), s)) ∧
  (∀ (s : State) (dt : Nat) (k : Nat) (e : Engine) (rest : List (Nat × Choice)), s.agenda = (dt, .engine k e) :: rest → s.powered = true →
    step s = runEngine { s with agenda := rest, now := s.now + dt, cur := k, curEng := e } k e) ∧
  (∀ (s : State) (dt : Nat) (i : Instr) (rest : List (Nat × Choice)), s.agenda = (dt, .event i) :: rest → i.isEvent = true →
    s.powered = true → step s = exec i { s with agenda := rest, now := s.now + dt }) ∧
  (∀ s : State, s.powered = false → (s.agenda = [] ∨ (∃ dt k e rest, s.agenda = (dt, .engine k e) :: rest) ∨
    ∃ dt i rest, s.agenda = (dt, .event i) :: rest ∧ i.isEvent = true ∧ i ≠ .coldReset) → step s = .fault .unpowered)

/-- 01 R30, 04 R91, R93, 05 R119, 06 R137, 09 R241, 10 R258, R269, 17 R427, 18 R438, R449: cold reset leaves every management register zero, nothing
mapped, queued, running, leased or poisoned. That the registers of every Skillet stand as at a task's start, for which the spec gives no value at
reset (log 13), and that memory reads zero where nothing was written (log 1), are the model's choices. -/
def Obligations.ResetState : Prop :=
  let s := State.reset
  s.ctxtbl = 0 ∧ s.mdoor = 0 ∧ s.mstat = 0 ∧ s.mcb = [] ∧ s.launches = [] ∧ s.saved = [] ∧ s.handles = [] ∧ s.levels = [] ∧ s.routes = [] ∧
  s.inbound = [] ∧ s.poison = [] ∧ s.powered = true ∧ s.memOk ∧
  (∀ d, (s.die d).invasid = 0 ∧ (s.die d).invctl = 0 ∧ (s.die d).invlen = 0 ∧ (s.die d).invst = 0 ∧ (s.die d).mcring = 0 ∧
    (s.die d).mcovf = 0 ∧ (s.die d).cec = [] ∧ (s.die d).layinv = 0 ∧ (s.die d).rxdrop = 0 ∧ (s.die d).ndrop = [] ∧ (s.die d).mcSeq = 0 ∧
    (s.die d).jobSeq = 0 ∧ (s.die d).window = [] ∧ (s.die d).slabs = [] ∧ (s.die d).slabGen = [] ∧ (s.die d).sems = [] ∧
    (s.die d).slots = [] ∧ (s.die d).qslots = [] ∧ (s.die d).tlb = [] ∧ (s.die d).dirty = []) ∧
  (∀ k, (s.sk k).busy = false ∧ (s.sk k).launch = none ∧ (s.sk k).hw = [] ∧ (s.sk k).scr = [] ∧
    (∀ r, (s.tk k).getS r = 0) ∧ (∀ r, (s.tk k).getA r = 0 ∧ (s.tk k).getAP r = false) ∧ (∀ r, (s.tk k).getK r = 0 ∧ (s.tk k).getKP r = false) ∧
    (∀ r, (s.tk k).getV r = 0) ∧ (s.tk k).m = [] ∧ (s.tk k).vP = [] ∧ (s.tk k).vl = 2048 ∧ (s.tk k).wp = 0 ∧ (s.tk k).qn = 0 ∧
    (s.tk k).cst = [] ∧ (s.tk k).slipw = 64 ∧ (s.tk k).fpctl = 0 ∧ (s.tk k).srseed = 0 ∧ (s.tk k).remt = 0 ∧ (s.tk k).mbox = [] ∧
    (s.tk k).oqa = [] ∧ (s.tk k).oqv = [] ∧ (s.tk k).ca = [] ∧ (s.tk k).cv = [] ∧ (s.tk k).av = [] ∧ (s.tk k).va = [] ∧
    (s.tk k).ac = [] ∧ (s.tk k).vc = [] ∧ (s.tk k).lq0 = [] ∧ (s.tk k).lq1 = [] ∧ (s.tk k).sq0 = [] ∧ (s.tk k).sq1 = [])

/-- 00 R6, 08 R185, R187: every step keeps device and host memory in canonical form, so that equal memories are equal data. -/
def Obligations.MemoryKept : Prop :=
  ∀ s t : State, s.memOk → step s = .next t → t.memOk
end

