-- ==== Sys2Proof/Laws/Encoding.lean ====
section
/-! SUPPORT. What the packed words of each format say: tag, major opcode, function, fields (01 R31). -/

namespace Sys2Proof.Laws

open Sys2Proof

set_option linter.unusedSimpArgs false

/-- A two-bit field has four values. -/
theorem two_bits (x : BitVec 2) : x = 0 ∨ x = 1 ∨ x = 2 ∨ x = 3 := by revert x; decide

theorem ext_hi {n m k w : Nat} (x : BitVec n) (y : BitVec m) (h : m ≤ k) : (x ++ y).extractLsb' k w = x.extractLsb' (k - m) w := by
  ext i hi
  simp only [BitVec.getElem_extractLsb', BitVec.getLsbD_append]
  rw [if_neg (by omega), show k + i - m = k - m + i by omega]

theorem ext_lo {n m k w : Nat} (x : BitVec n) (y : BitVec m) (h : k + w ≤ m) : (x ++ y).extractLsb' k w = y.extractLsb' k w := by
  ext i hi
  simp only [BitVec.getElem_extractLsb', BitVec.getLsbD_append]
  rw [if_pos (by omega)]

@[simp] theorem tag_packCR (m : BitVec 6) (n : BitVec 2) (f : CR) : tagOf (packCR m n f) = 0 := by
  show BitVec.extractLsb' 30 2 (0#2 ++ m ++ f.tok ++ f.d ++ f.a ++ f.b ++ n) = 0
  simp (disch := omega) only [ext_hi, ext_lo, -Nat.reduceAdd, -Nat.reduceSub]; simp

@[simp] theorem major_packCR (m : BitVec 6) (n : BitVec 2) (f : CR) : majorOf (packCR m n f) = m := by
  show BitVec.extractLsb' 24 6 (0#2 ++ m ++ f.tok ++ f.d ++ f.a ++ f.b ++ n) = m
  simp (disch := omega) only [ext_hi, ext_lo, -Nat.reduceAdd, -Nat.reduceSub]; simp

@[simp] theorem fn_packCR (m : BitVec 6) (n : BitVec 2) (f : CR) : (packCR m n f).extractLsb' 0 2 = n := by
  show BitVec.extractLsb' 0 2 (0#2 ++ m ++ f.tok ++ f.d ++ f.a ++ f.b ++ n) = n
  simp (disch := omega) only [ext_hi, ext_lo, -Nat.reduceAdd, -Nat.reduceSub]; simp

@[simp] theorem unpack_packCR (m : BitVec 6) (n : BitVec 2) (f : CR) : unpackCR (packCR m n f) = f := by
  show CR.mk (BitVec.extractLsb' 20 4 (0#2 ++ m ++ f.tok ++ f.d ++ f.a ++ f.b ++ n)) (BitVec.extractLsb' 14 6 (0#2 ++ m ++ f.tok ++ f.d ++ f.a ++ f.b ++ n)) (BitVec.extractLsb' 8 6 (0#2 ++ m ++ f.tok ++ f.d ++ f.a ++ f.b ++ n)) (BitVec.extractLsb' 2 6 (0#2 ++ m ++ f.tok ++ f.d ++ f.a ++ f.b ++ n)) = f
  simp (disch := omega) only [ext_hi, ext_lo, -Nat.reduceAdd, -Nat.reduceSub]; simp

@[simp] theorem tag_packCI (m : BitVec 6) (f : CI) : tagOf (packCI m f) = 0 := by
  show BitVec.extractLsb' 30 2 (0#2 ++ m ++ f.tok ++ f.d ++ f.a ++ f.imm) = 0
  simp (disch := omega) only [ext_hi, ext_lo, -Nat.reduceAdd, -Nat.reduceSub]; simp

@[simp] theorem major_packCI (m : BitVec 6) (f : CI) : majorOf (packCI m f) = m := by
  show BitVec.extractLsb' 24 6 (0#2 ++ m ++ f.tok ++ f.d ++ f.a ++ f.imm) = m
  simp (disch := omega) only [ext_hi, ext_lo, -Nat.reduceAdd, -Nat.reduceSub]; simp

@[simp] theorem unpack_packCI (m : BitVec 6) (f : CI) : unpackCI (packCI m f) = f := by
  show CI.mk (BitVec.extractLsb' 20 4 (0#2 ++ m ++ f.tok ++ f.d ++ f.a ++ f.imm)) (BitVec.extractLsb' 14 6 (0#2 ++ m ++ f.tok ++ f.d ++ f.a ++ f.imm)) (BitVec.extractLsb' 8 6 (0#2 ++ m ++ f.tok ++ f.d ++ f.a ++ f.imm)) (BitVec.extractLsb' 0 8 (0#2 ++ m ++ f.tok ++ f.d ++ f.a ++ f.imm)) = f
  simp (disch := omega) only [ext_hi, ext_lo, -Nat.reduceAdd, -Nat.reduceSub]; simp

@[simp] theorem tag_packCU (m : BitVec 6) (f : CU) : tagOf (packCU m f) = 0 := by
  show BitVec.extractLsb' 30 2 (0#2 ++ m ++ f.tok ++ f.d ++ f.imm) = 0
  simp (disch := omega) only [ext_hi, ext_lo, -Nat.reduceAdd, -Nat.reduceSub]; simp

@[simp] theorem major_packCU (m : BitVec 6) (f : CU) : majorOf (packCU m f) = m := by
  show BitVec.extractLsb' 24 6 (0#2 ++ m ++ f.tok ++ f.d ++ f.imm) = m
  simp (disch := omega) only [ext_hi, ext_lo, -Nat.reduceAdd, -Nat.reduceSub]; simp

@[simp] theorem unpack_packCU (m : BitVec 6) (f : CU) : unpackCU (packCU m f) = f := by
  show CU.mk (BitVec.extractLsb' 20 4 (0#2 ++ m ++ f.tok ++ f.d ++ f.imm)) (BitVec.extractLsb' 14 6 (0#2 ++ m ++ f.tok ++ f.d ++ f.imm)) (BitVec.extractLsb' 0 14 (0#2 ++ m ++ f.tok ++ f.d ++ f.imm)) = f
  simp (disch := omega) only [ext_hi, ext_lo, -Nat.reduceAdd, -Nat.reduceSub]; simp

@[simp] theorem tag_packCK (m : BitVec 6) (f : CK) : tagOf (packCK m f) = 0 := by
  show BitVec.extractLsb' 30 2 (0#2 ++ m ++ f.tok ++ f.r ++ f.idx ++ 0#2) = 0
  simp (disch := omega) only [ext_hi, ext_lo, -Nat.reduceAdd, -Nat.reduceSub]; simp

@[simp] theorem major_packCK (m : BitVec 6) (f : CK) : majorOf (packCK m f) = m := by
  show BitVec.extractLsb' 24 6 (0#2 ++ m ++ f.tok ++ f.r ++ f.idx ++ 0#2) = m
  simp (disch := omega) only [ext_hi, ext_lo, -Nat.reduceAdd, -Nat.reduceSub]; simp

@[simp] theorem fn_packCK (m : BitVec 6) (f : CK) : (packCK m f).extractLsb' 0 2 = 0 := by
  show BitVec.extractLsb' 0 2 (0#2 ++ m ++ f.tok ++ f.r ++ f.idx ++ 0#2) = 0
  simp (disch := omega) only [ext_hi, ext_lo, -Nat.reduceAdd, -Nat.reduceSub]; simp

@[simp] theorem unpack_packCK (m : BitVec 6) (f : CK) : unpackCK (packCK m f) = f := by
  show CK.mk (BitVec.extractLsb' 20 4 (0#2 ++ m ++ f.tok ++ f.r ++ f.idx ++ 0#2)) (BitVec.extractLsb' 14 6 (0#2 ++ m ++ f.tok ++ f.r ++ f.idx ++ 0#2)) (BitVec.extractLsb' 2 12 (0#2 ++ m ++ f.tok ++ f.r ++ f.idx ++ 0#2)) = f
  simp (disch := omega) only [ext_hi, ext_lo, -Nat.reduceAdd, -Nat.reduceSub]; simp

@[simp] theorem tag_packSB (m : BitVec 6) (f : SB) : tagOf (packSB m f) = 3 := by
  show BitVec.extractLsb' 30 2 (3#2 ++ m ++ f.a ++ f.b ++ f.off) = 3
  simp (disch := omega) only [ext_hi, ext_lo, -Nat.reduceAdd, -Nat.reduceSub]; simp

@[simp] theorem major_packSB (m : BitVec 6) (f : SB) : majorOf (packSB m f) = m := by
  show BitVec.extractLsb' 24 6 (3#2 ++ m ++ f.a ++ f.b ++ f.off) = m
  simp (disch := omega) only [ext_hi, ext_lo, -Nat.reduceAdd, -Nat.reduceSub]; simp

@[simp] theorem unpack_packSB (m : BitVec 6) (f : SB) : unpackSB (packSB m f) = f := by
  show SB.mk (BitVec.extractLsb' 18 6 (3#2 ++ m ++ f.a ++ f.b ++ f.off)) (BitVec.extractLsb' 12 6 (3#2 ++ m ++ f.a ++ f.b ++ f.off)) (BitVec.extractLsb' 0 12 (3#2 ++ m ++ f.a ++ f.b ++ f.off)) = f
  simp (disch := omega) only [ext_hi, ext_lo, -Nat.reduceAdd, -Nat.reduceSub]; simp

@[simp] theorem tag_packSJ (m : BitVec 6) (f : SJ) : tagOf (packSJ m f) = 3 := by
  show BitVec.extractLsb' 30 2 (3#2 ++ m ++ f.off) = 3
  simp (disch := omega) only [ext_hi, ext_lo, -Nat.reduceAdd, -Nat.reduceSub]; simp

@[simp] theorem major_packSJ (m : BitVec 6) (f : SJ) : majorOf (packSJ m f) = m := by
  show BitVec.extractLsb' 24 6 (3#2 ++ m ++ f.off) = m
  simp (disch := omega) only [ext_hi, ext_lo, -Nat.reduceAdd, -Nat.reduceSub]; simp

@[simp] theorem unpack_packSJ (m : BitVec 6) (f : SJ) : unpackSJ (packSJ m f) = f := by
  show SJ.mk (BitVec.extractLsb' 0 24 (3#2 ++ m ++ f.off)) = f
  simp (disch := omega) only [ext_hi, ext_lo, -Nat.reduceAdd, -Nat.reduceSub]; simp

@[simp] theorem tag_packSL (m : BitVec 6) (f : SL) : tagOf (packSL m f) = 3 := by
  show BitVec.extractLsb' 30 2 (3#2 ++ m ++ f.cnt ++ f.fin) = 3
  simp (disch := omega) only [ext_hi, ext_lo, -Nat.reduceAdd, -Nat.reduceSub]; simp

@[simp] theorem major_packSL (m : BitVec 6) (f : SL) : majorOf (packSL m f) = m := by
  show BitVec.extractLsb' 24 6 (3#2 ++ m ++ f.cnt ++ f.fin) = m
  simp (disch := omega) only [ext_hi, ext_lo, -Nat.reduceAdd, -Nat.reduceSub]; simp

@[simp] theorem unpack_packSL (m : BitVec 6) (f : SL) : unpackSL (packSL m f) = f := by
  show SL.mk (BitVec.extractLsb' 12 12 (3#2 ++ m ++ f.cnt ++ f.fin)) (BitVec.extractLsb' 0 12 (3#2 ++ m ++ f.cnt ++ f.fin)) = f
  simp (disch := omega) only [ext_hi, ext_lo, -Nat.reduceAdd, -Nat.reduceSub]; simp

@[simp] theorem tag_packAR (m : BitVec 6) (n : BitVec 5) (f : AR) : tagOf (packAR m n f) = 1 := by
  show BitVec.extractLsb' 30 2 (1#2 ++ m ++ f.tok ++ f.d ++ f.a ++ f.b ++ n) = 1
  simp (disch := omega) only [ext_hi, ext_lo, -Nat.reduceAdd, -Nat.reduceSub]; simp

@[simp] theorem major_packAR (m : BitVec 6) (n : BitVec 5) (f : AR) : majorOf (packAR m n f) = m := by
  show BitVec.extractLsb' 24 6 (1#2 ++ m ++ f.tok ++ f.d ++ f.a ++ f.b ++ n) = m
  simp (disch := omega) only [ext_hi, ext_lo, -Nat.reduceAdd, -Nat.reduceSub]; simp

@[simp] theorem fn_packAR (m : BitVec 6) (n : BitVec 5) (f : AR) : (packAR m n f).extractLsb' 0 5 = n := by
  show BitVec.extractLsb' 0 5 (1#2 ++ m ++ f.tok ++ f.d ++ f.a ++ f.b ++ n) = n
  simp (disch := omega) only [ext_hi, ext_lo, -Nat.reduceAdd, -Nat.reduceSub]; simp

@[simp] theorem unpack_packAR (m : BitVec 6) (n : BitVec 5) (f : AR) : unpackAR (packAR m n f) = f := by
  show AR.mk (BitVec.extractLsb' 20 4 (1#2 ++ m ++ f.tok ++ f.d ++ f.a ++ f.b ++ n)) (BitVec.extractLsb' 15 5 (1#2 ++ m ++ f.tok ++ f.d ++ f.a ++ f.b ++ n)) (BitVec.extractLsb' 10 5 (1#2 ++ m ++ f.tok ++ f.d ++ f.a ++ f.b ++ n)) (BitVec.extractLsb' 5 5 (1#2 ++ m ++ f.tok ++ f.d ++ f.a ++ f.b ++ n)) = f
  simp (disch := omega) only [ext_hi, ext_lo, -Nat.reduceAdd, -Nat.reduceSub]; simp

@[simp] theorem tag_packAI (m : BitVec 6) (f : AI) : tagOf (packAI m f) = 1 := by
  show BitVec.extractLsb' 30 2 (1#2 ++ m ++ f.tok ++ f.d ++ f.a ++ f.imm) = 1
  simp (disch := omega) only [ext_hi, ext_lo, -Nat.reduceAdd, -Nat.reduceSub]; simp

@[simp] theorem major_packAI (m : BitVec 6) (f : AI) : majorOf (packAI m f) = m := by
  show BitVec.extractLsb' 24 6 (1#2 ++ m ++ f.tok ++ f.d ++ f.a ++ f.imm) = m
  simp (disch := omega) only [ext_hi, ext_lo, -Nat.reduceAdd, -Nat.reduceSub]; simp

@[simp] theorem unpack_packAI (m : BitVec 6) (f : AI) : unpackAI (packAI m f) = f := by
  show AI.mk (BitVec.extractLsb' 20 4 (1#2 ++ m ++ f.tok ++ f.d ++ f.a ++ f.imm)) (BitVec.extractLsb' 15 5 (1#2 ++ m ++ f.tok ++ f.d ++ f.a ++ f.imm)) (BitVec.extractLsb' 10 5 (1#2 ++ m ++ f.tok ++ f.d ++ f.a ++ f.imm)) (BitVec.extractLsb' 0 10 (1#2 ++ m ++ f.tok ++ f.d ++ f.a ++ f.imm)) = f
  simp (disch := omega) only [ext_hi, ext_lo, -Nat.reduceAdd, -Nat.reduceSub]; simp

@[simp] theorem tag_packAU (m : BitVec 6) (f : AU) : tagOf (packAU m f) = 1 := by
  show BitVec.extractLsb' 30 2 (1#2 ++ m ++ f.tok ++ f.d ++ f.imm) = 1
  simp (disch := omega) only [ext_hi, ext_lo, -Nat.reduceAdd, -Nat.reduceSub]; simp

@[simp] theorem major_packAU (m : BitVec 6) (f : AU) : majorOf (packAU m f) = m := by
  show BitVec.extractLsb' 24 6 (1#2 ++ m ++ f.tok ++ f.d ++ f.imm) = m
  simp (disch := omega) only [ext_hi, ext_lo, -Nat.reduceAdd, -Nat.reduceSub]; simp

@[simp] theorem unpack_packAU (m : BitVec 6) (f : AU) : unpackAU (packAU m f) = f := by
  show AU.mk (BitVec.extractLsb' 20 4 (1#2 ++ m ++ f.tok ++ f.d ++ f.imm)) (BitVec.extractLsb' 15 5 (1#2 ++ m ++ f.tok ++ f.d ++ f.imm)) (BitVec.extractLsb' 0 15 (1#2 ++ m ++ f.tok ++ f.d ++ f.imm)) = f
  simp (disch := omega) only [ext_hi, ext_lo, -Nat.reduceAdd, -Nat.reduceSub]; simp

@[simp] theorem tag_packAM (m : BitVec 6) (f : AM) : tagOf (packAM m f) = 1 := by
  show BitVec.extractLsb' 30 2 (1#2 ++ m ++ f.tok ++ f.rt ++ f.rb ++ f.off) = 1
  simp (disch := omega) only [ext_hi, ext_lo, -Nat.reduceAdd, -Nat.reduceSub]; simp

@[simp] theorem major_packAM (m : BitVec 6) (f : AM) : majorOf (packAM m f) = m := by
  show BitVec.extractLsb' 24 6 (1#2 ++ m ++ f.tok ++ f.rt ++ f.rb ++ f.off) = m
  simp (disch := omega) only [ext_hi, ext_lo, -Nat.reduceAdd, -Nat.reduceSub]; simp

@[simp] theorem unpack_packAM (m : BitVec 6) (f : AM) : unpackAM (packAM m f) = f := by
  show AM.mk (BitVec.extractLsb' 20 4 (1#2 ++ m ++ f.tok ++ f.rt ++ f.rb ++ f.off)) (BitVec.extractLsb' 15 5 (1#2 ++ m ++ f.tok ++ f.rt ++ f.rb ++ f.off)) (BitVec.extractLsb' 10 5 (1#2 ++ m ++ f.tok ++ f.rt ++ f.rb ++ f.off)) (BitVec.extractLsb' 0 10 (1#2 ++ m ++ f.tok ++ f.rt ++ f.rb ++ f.off)) = f
  simp (disch := omega) only [ext_hi, ext_lo, -Nat.reduceAdd, -Nat.reduceSub]; simp

@[simp] theorem tag_packAX (m : BitVec 6) (n : BitVec 1) (f : AX) : tagOf (packAX m n f) = 1 := by
  show BitVec.extractLsb' 30 2 (1#2 ++ m ++ f.tok ++ f.rt ++ f.rb ++ f.ri ++ n ++ f.w) = 1
  simp (disch := omega) only [ext_hi, ext_lo, -Nat.reduceAdd, -Nat.reduceSub]; simp

@[simp] theorem major_packAX (m : BitVec 6) (n : BitVec 1) (f : AX) : majorOf (packAX m n f) = m := by
  show BitVec.extractLsb' 24 6 (1#2 ++ m ++ f.tok ++ f.rt ++ f.rb ++ f.ri ++ n ++ f.w) = m
  simp (disch := omega) only [ext_hi, ext_lo, -Nat.reduceAdd, -Nat.reduceSub]; simp

@[simp] theorem fn_packAX (m : BitVec 6) (n : BitVec 1) (f : AX) : (packAX m n f).extractLsb' 4 1 = n := by
  show BitVec.extractLsb' 4 1 (1#2 ++ m ++ f.tok ++ f.rt ++ f.rb ++ f.ri ++ n ++ f.w) = n
  simp (disch := omega) only [ext_hi, ext_lo, -Nat.reduceAdd, -Nat.reduceSub]; simp

@[simp] theorem unpack_packAX (m : BitVec 6) (n : BitVec 1) (f : AX) : unpackAX (packAX m n f) = f := by
  show AX.mk (BitVec.extractLsb' 20 4 (1#2 ++ m ++ f.tok ++ f.rt ++ f.rb ++ f.ri ++ n ++ f.w)) (BitVec.extractLsb' 15 5 (1#2 ++ m ++ f.tok ++ f.rt ++ f.rb ++ f.ri ++ n ++ f.w)) (BitVec.extractLsb' 10 5 (1#2 ++ m ++ f.tok ++ f.rt ++ f.rb ++ f.ri ++ n ++ f.w)) (BitVec.extractLsb' 5 5 (1#2 ++ m ++ f.tok ++ f.rt ++ f.rb ++ f.ri ++ n ++ f.w)) (BitVec.extractLsb' 0 4 (1#2 ++ m ++ f.tok ++ f.rt ++ f.rb ++ f.ri ++ n ++ f.w)) = f
  simp (disch := omega) only [ext_hi, ext_lo, -Nat.reduceAdd, -Nat.reduceSub]; simp

@[simp] theorem tag_packVR (m : BitVec 6) (n : BitVec 2) (f : VR) : tagOf (packVR m n f) = 2 := by
  show BitVec.extractLsb' 30 2 (2#2 ++ m ++ f.tok ++ f.d ++ f.a ++ f.b ++ n) = 2
  simp (disch := omega) only [ext_hi, ext_lo, -Nat.reduceAdd, -Nat.reduceSub]; simp

@[simp] theorem major_packVR (m : BitVec 6) (n : BitVec 2) (f : VR) : majorOf (packVR m n f) = m := by
  show BitVec.extractLsb' 24 6 (2#2 ++ m ++ f.tok ++ f.d ++ f.a ++ f.b ++ n) = m
  simp (disch := omega) only [ext_hi, ext_lo, -Nat.reduceAdd, -Nat.reduceSub]; simp

@[simp] theorem fn_packVR (m : BitVec 6) (n : BitVec 2) (f : VR) : (packVR m n f).extractLsb' 0 2 = n := by
  show BitVec.extractLsb' 0 2 (2#2 ++ m ++ f.tok ++ f.d ++ f.a ++ f.b ++ n) = n
  simp (disch := omega) only [ext_hi, ext_lo, -Nat.reduceAdd, -Nat.reduceSub]; simp

@[simp] theorem unpack_packVR (m : BitVec 6) (n : BitVec 2) (f : VR) : unpackVR (packVR m n f) = f := by
  show VR.mk (BitVec.extractLsb' 20 4 (2#2 ++ m ++ f.tok ++ f.d ++ f.a ++ f.b ++ n)) (BitVec.extractLsb' 14 6 (2#2 ++ m ++ f.tok ++ f.d ++ f.a ++ f.b ++ n)) (BitVec.extractLsb' 8 6 (2#2 ++ m ++ f.tok ++ f.d ++ f.a ++ f.b ++ n)) (BitVec.extractLsb' 2 6 (2#2 ++ m ++ f.tok ++ f.d ++ f.a ++ f.b ++ n)) = f
  simp (disch := omega) only [ext_hi, ext_lo, -Nat.reduceAdd, -Nat.reduceSub]; simp

@[simp] theorem tag_packVK (n : BitVec 4) (f : VK) : tagOf (packVK n f) = 2 := by
  show BitVec.extractLsb' 30 2 (2#2 ++ 0x04#6 ++ f.tok ++ f.d ++ f.a ++ f.ks ++ n) = 2
  simp (disch := omega) only [ext_hi, ext_lo, -Nat.reduceAdd, -Nat.reduceSub]; simp

@[simp] theorem major_packVK (n : BitVec 4) (f : VK) : majorOf (packVK n f) = 0x04#6 := by
  show BitVec.extractLsb' 24 6 (2#2 ++ 0x04#6 ++ f.tok ++ f.d ++ f.a ++ f.ks ++ n) = 0x04#6
  simp (disch := omega) only [ext_hi, ext_lo, -Nat.reduceAdd, -Nat.reduceSub]; simp

@[simp] theorem fn_packVK (n : BitVec 4) (f : VK) : (packVK n f).extractLsb' 0 4 = n := by
  show BitVec.extractLsb' 0 4 (2#2 ++ 0x04#6 ++ f.tok ++ f.d ++ f.a ++ f.ks ++ n) = n
  simp (disch := omega) only [ext_hi, ext_lo, -Nat.reduceAdd, -Nat.reduceSub]; simp

@[simp] theorem unpack_packVK (n : BitVec 4) (f : VK) : unpackVK (packVK n f) = f := by
  show VK.mk (BitVec.extractLsb' 20 4 (2#2 ++ 0x04#6 ++ f.tok ++ f.d ++ f.a ++ f.ks ++ n)) (BitVec.extractLsb' 14 6 (2#2 ++ 0x04#6 ++ f.tok ++ f.d ++ f.a ++ f.ks ++ n)) (BitVec.extractLsb' 8 6 (2#2 ++ 0x04#6 ++ f.tok ++ f.d ++ f.a ++ f.ks ++ n)) (BitVec.extractLsb' 4 4 (2#2 ++ 0x04#6 ++ f.tok ++ f.d ++ f.a ++ f.ks ++ n)) = f
  simp (disch := omega) only [ext_hi, ext_lo, -Nat.reduceAdd, -Nat.reduceSub]; simp

@[simp] theorem tag_packVI (m : BitVec 6) (f : VI) : tagOf (packVI m f) = 2 := by
  show BitVec.extractLsb' 30 2 (2#2 ++ m ++ f.tok ++ f.kd ++ f.imm) = 2
  simp (disch := omega) only [ext_hi, ext_lo, -Nat.reduceAdd, -Nat.reduceSub]; simp

@[simp] theorem major_packVI (m : BitVec 6) (f : VI) : majorOf (packVI m f) = m := by
  show BitVec.extractLsb' 24 6 (2#2 ++ m ++ f.tok ++ f.kd ++ f.imm) = m
  simp (disch := omega) only [ext_hi, ext_lo, -Nat.reduceAdd, -Nat.reduceSub]; simp

@[simp] theorem unpack_packVI (m : BitVec 6) (f : VI) : unpackVI (packVI m f) = f := by
  show VI.mk (BitVec.extractLsb' 20 4 (2#2 ++ m ++ f.tok ++ f.kd ++ f.imm)) (BitVec.extractLsb' 16 4 (2#2 ++ m ++ f.tok ++ f.kd ++ f.imm)) (BitVec.extractLsb' 0 16 (2#2 ++ m ++ f.tok ++ f.kd ++ f.imm)) = f
  simp (disch := omega) only [ext_hi, ext_lo, -Nat.reduceAdd, -Nat.reduceSub]; simp

@[simp] theorem tag_packL0  (f : LW) : tagOf (packL0 f) = 0 := by
  show BitVec.extractLsb' 30 2 (0#2 ++ 0x3f#6 ++ f.tok ++ f.d ++ f.a ++ f.b ++ 0#2) = 0
  simp (disch := omega) only [ext_hi, ext_lo, -Nat.reduceAdd, -Nat.reduceSub]; simp

@[simp] theorem major_packL0  (f : LW) : majorOf (packL0 f) = 0x3f := by
  show BitVec.extractLsb' 24 6 (0#2 ++ 0x3f#6 ++ f.tok ++ f.d ++ f.a ++ f.b ++ 0#2) = 0x3f
  simp (disch := omega) only [ext_hi, ext_lo, -Nat.reduceAdd, -Nat.reduceSub]; simp

@[simp] theorem zero_packL0  (f : LW) : (packL0 f).extractLsb' 0 2 = 0 := by
  show BitVec.extractLsb' 0 2 (0#2 ++ 0x3f#6 ++ f.tok ++ f.d ++ f.a ++ f.b ++ 0#2) = 0
  simp (disch := omega) only [ext_hi, ext_lo, -Nat.reduceAdd, -Nat.reduceSub]; simp

@[simp] theorem tok_packL0  (f : LW) : (packL0 f).extractLsb' 20 4 = f.tok := by
  show BitVec.extractLsb' 20 4 (0#2 ++ 0x3f#6 ++ f.tok ++ f.d ++ f.a ++ f.b ++ 0#2) = f.tok
  simp (disch := omega) only [ext_hi, ext_lo, -Nat.reduceAdd, -Nat.reduceSub]; simp

@[simp] theorem d_packL0  (f : LW) : (packL0 f).extractLsb' 14 6 = f.d := by
  show BitVec.extractLsb' 14 6 (0#2 ++ 0x3f#6 ++ f.tok ++ f.d ++ f.a ++ f.b ++ 0#2) = f.d
  simp (disch := omega) only [ext_hi, ext_lo, -Nat.reduceAdd, -Nat.reduceSub]; simp

@[simp] theorem a_packL0  (f : LW) : (packL0 f).extractLsb' 8 6 = f.a := by
  show BitVec.extractLsb' 8 6 (0#2 ++ 0x3f#6 ++ f.tok ++ f.d ++ f.a ++ f.b ++ 0#2) = f.a
  simp (disch := omega) only [ext_hi, ext_lo, -Nat.reduceAdd, -Nat.reduceSub]; simp

@[simp] theorem b_packL0  (f : LW) : (packL0 f).extractLsb' 2 6 = f.b := by
  show BitVec.extractLsb' 2 6 (0#2 ++ 0x3f#6 ++ f.tok ++ f.d ++ f.a ++ f.b ++ 0#2) = f.b
  simp (disch := omega) only [ext_hi, ext_lo, -Nat.reduceAdd, -Nat.reduceSub]; simp

@[simp] theorem cl_packL1 (cl : BitVec 6) (var : BitVec 2) (op : BitVec 8) (f : LW) : (packL1 cl var op f).extractLsb' 26 6 = cl := by
  show BitVec.extractLsb' 26 6 (cl ++ var ++ op ++ f.stamp) = cl
  simp (disch := omega) only [ext_hi, ext_lo, -Nat.reduceAdd, -Nat.reduceSub]; simp

@[simp] theorem var_packL1 (cl : BitVec 6) (var : BitVec 2) (op : BitVec 8) (f : LW) : (packL1 cl var op f).extractLsb' 24 2 = var := by
  show BitVec.extractLsb' 24 2 (cl ++ var ++ op ++ f.stamp) = var
  simp (disch := omega) only [ext_hi, ext_lo, -Nat.reduceAdd, -Nat.reduceSub]; simp

@[simp] theorem op_packL1 (cl : BitVec 6) (var : BitVec 2) (op : BitVec 8) (f : LW) : (packL1 cl var op f).extractLsb' 16 8 = op := by
  show BitVec.extractLsb' 16 8 (cl ++ var ++ op ++ f.stamp) = op
  simp (disch := omega) only [ext_hi, ext_lo, -Nat.reduceAdd, -Nat.reduceSub]; simp

@[simp] theorem stamp_packL1 (cl : BitVec 6) (var : BitVec 2) (op : BitVec 8) (f : LW) : (packL1 cl var op f).extractLsb' 0 16 = f.stamp := by
  show BitVec.extractLsb' 0 16 (cl ++ var ++ op ++ f.stamp) = f.stamp
  simp (disch := omega) only [ext_hi, ext_lo, -Nat.reduceAdd, -Nat.reduceSub]; simp

@[simp] theorem unpack_packL (cl : BitVec 6) (var : BitVec 2) (op : BitVec 8) (f : LW) :
    unpackL (packL0 f) (packL1 cl var op f) = f := by
  simp [unpackL, tokOf]

@[simp] theorem tag_packSX0  (f : SX) : tagOf (packSX0 f) = 3 := by
  show BitVec.extractLsb' 30 2 (3#2 ++ 0x3f#6 ++ f.tgt.extractLsb' 30 24) = 3
  simp (disch := omega) only [ext_hi, ext_lo, -Nat.reduceAdd, -Nat.reduceSub]; simp

@[simp] theorem major_packSX0  (f : SX) : majorOf (packSX0 f) = 0x3f := by
  show BitVec.extractLsb' 24 6 (3#2 ++ 0x3f#6 ++ f.tgt.extractLsb' 30 24) = 0x3f
  simp (disch := omega) only [ext_hi, ext_lo, -Nat.reduceAdd, -Nat.reduceSub]; simp

@[simp] theorem hi_packSX0  (f : SX) : (packSX0 f).extractLsb' 0 24 = f.tgt.extractLsb' 30 24 := by
  show BitVec.extractLsb' 0 24 (3#2 ++ 0x3f#6 ++ f.tgt.extractLsb' 30 24) = f.tgt.extractLsb' 30 24
  simp (disch := omega) only [ext_hi, ext_lo, -Nat.reduceAdd, -Nat.reduceSub]; simp

@[simp] theorem lk_packSX1 (lk : BitVec 2) (f : SX) : (packSX1 lk f).extractLsb' 0 2 = lk := by
  show BitVec.extractLsb' 0 2 (f.tgt.extractLsb' 0 30 ++ lk) = lk
  simp (disch := omega) only [ext_hi, ext_lo, -Nat.reduceAdd, -Nat.reduceSub]; simp

@[simp] theorem lo_packSX1 (lk : BitVec 2) (f : SX) : (packSX1 lk f).extractLsb' 2 30 = f.tgt.extractLsb' 0 30 := by
  show BitVec.extractLsb' 2 30 (f.tgt.extractLsb' 0 30 ++ lk) = f.tgt.extractLsb' 0 30
  simp (disch := omega) only [ext_hi, ext_lo, -Nat.reduceAdd, -Nat.reduceSub]; simp

@[simp] theorem unpack_packSX (lk : BitVec 2) (f : SX) : unpackSX (packSX0 f) (packSX1 lk f) = f := by
  have h : f.tgt.extractLsb' 30 24 ++ f.tgt.extractLsb' 0 30 = f.tgt := by
    apply BitVec.eq_of_getLsbD_eq
    intro i hi
    rw [BitVec.getLsbD_append]
    simp only [BitVec.getLsbD_extractLsb']
    split
    · simp [*]
    · rw [show 30 + (i - 30) = i by omega]
      simp
      omega
  show SX.mk ((packSX0 f).extractLsb' 0 24 ++ (packSX1 lk f).extractLsb' 2 30) = f
  rw [hi_packSX0, lo_packSX1, h]

@[simp] theorem tag_packAL0 (x : BitVec 8) (f : AL) : tagOf (packAL0 x f) = 1 := by
  show BitVec.extractLsb' 30 2 (1#2 ++ 0x3f#6 ++ f.tok ++ x ++ f.d ++ f.a ++ 0#2) = 1
  simp (disch := omega) only [ext_hi, ext_lo, -Nat.reduceAdd, -Nat.reduceSub]; simp

@[simp] theorem major_packAL0 (x : BitVec 8) (f : AL) : majorOf (packAL0 x f) = 0x3f := by
  show BitVec.extractLsb' 24 6 (1#2 ++ 0x3f#6 ++ f.tok ++ x ++ f.d ++ f.a ++ 0#2) = 0x3f
  simp (disch := omega) only [ext_hi, ext_lo, -Nat.reduceAdd, -Nat.reduceSub]; simp

@[simp] theorem zero_packAL0 (x : BitVec 8) (f : AL) : (packAL0 x f).extractLsb' 0 2 = 0 := by
  show BitVec.extractLsb' 0 2 (1#2 ++ 0x3f#6 ++ f.tok ++ x ++ f.d ++ f.a ++ 0#2) = 0
  simp (disch := omega) only [ext_hi, ext_lo, -Nat.reduceAdd, -Nat.reduceSub]; simp

@[simp] theorem tok_packAL0 (x : BitVec 8) (f : AL) : (packAL0 x f).extractLsb' 20 4 = f.tok := by
  show BitVec.extractLsb' 20 4 (1#2 ++ 0x3f#6 ++ f.tok ++ x ++ f.d ++ f.a ++ 0#2) = f.tok
  simp (disch := omega) only [ext_hi, ext_lo, -Nat.reduceAdd, -Nat.reduceSub]; simp

@[simp] theorem xop_packAL0 (x : BitVec 8) (f : AL) : (packAL0 x f).extractLsb' 12 8 = x := by
  show BitVec.extractLsb' 12 8 (1#2 ++ 0x3f#6 ++ f.tok ++ x ++ f.d ++ f.a ++ 0#2) = x
  simp (disch := omega) only [ext_hi, ext_lo, -Nat.reduceAdd, -Nat.reduceSub]; simp

@[simp] theorem d_packAL0 (x : BitVec 8) (f : AL) : (packAL0 x f).extractLsb' 7 5 = f.d := by
  show BitVec.extractLsb' 7 5 (1#2 ++ 0x3f#6 ++ f.tok ++ x ++ f.d ++ f.a ++ 0#2) = f.d
  simp (disch := omega) only [ext_hi, ext_lo, -Nat.reduceAdd, -Nat.reduceSub]; simp

@[simp] theorem a_packAL0 (x : BitVec 8) (f : AL) : (packAL0 x f).extractLsb' 2 5 = f.a := by
  show BitVec.extractLsb' 2 5 (1#2 ++ 0x3f#6 ++ f.tok ++ x ++ f.d ++ f.a ++ 0#2) = f.a
  simp (disch := omega) only [ext_hi, ext_lo, -Nat.reduceAdd, -Nat.reduceSub]; simp

@[simp] theorem b_packAL1  (f : AL) : (packAL1 f).extractLsb' 27 5 = f.b := by
  show BitVec.extractLsb' 27 5 (f.b ++ f.c ++ f.scope ++ BitVec.ofBool f.ord ++ f.qs ++ f.imm) = f.b
  simp (disch := omega) only [ext_hi, ext_lo, -Nat.reduceAdd, -Nat.reduceSub]; simp

@[simp] theorem c_packAL1  (f : AL) : (packAL1 f).extractLsb' 22 5 = f.c := by
  show BitVec.extractLsb' 22 5 (f.b ++ f.c ++ f.scope ++ BitVec.ofBool f.ord ++ f.qs ++ f.imm) = f.c
  simp (disch := omega) only [ext_hi, ext_lo, -Nat.reduceAdd, -Nat.reduceSub]; simp

@[simp] theorem scope_packAL1  (f : AL) : (packAL1 f).extractLsb' 20 2 = f.scope := by
  show BitVec.extractLsb' 20 2 (f.b ++ f.c ++ f.scope ++ BitVec.ofBool f.ord ++ f.qs ++ f.imm) = f.scope
  simp (disch := omega) only [ext_hi, ext_lo, -Nat.reduceAdd, -Nat.reduceSub]; simp

@[simp] theorem ord_packAL1  (f : AL) : (packAL1 f).extractLsb' 19 1 = BitVec.ofBool f.ord := by
  show BitVec.extractLsb' 19 1 (f.b ++ f.c ++ f.scope ++ BitVec.ofBool f.ord ++ f.qs ++ f.imm) = BitVec.ofBool f.ord
  simp (disch := omega) only [ext_hi, ext_lo, -Nat.reduceAdd, -Nat.reduceSub]; simp

@[simp] theorem qs_packAL1  (f : AL) : (packAL1 f).extractLsb' 16 3 = f.qs := by
  show BitVec.extractLsb' 16 3 (f.b ++ f.c ++ f.scope ++ BitVec.ofBool f.ord ++ f.qs ++ f.imm) = f.qs
  simp (disch := omega) only [ext_hi, ext_lo, -Nat.reduceAdd, -Nat.reduceSub]; simp

@[simp] theorem imm_packAL1  (f : AL) : (packAL1 f).extractLsb' 0 16 = f.imm := by
  show BitVec.extractLsb' 0 16 (f.b ++ f.c ++ f.scope ++ BitVec.ofBool f.ord ++ f.qs ++ f.imm) = f.imm
  simp (disch := omega) only [ext_hi, ext_lo, -Nat.reduceAdd, -Nat.reduceSub]; simp

@[simp] theorem tag_packVL0 (x : BitVec 8) (f : VL) : tagOf (packVL0 x f) = 2 := by
  show BitVec.extractLsb' 30 2 (2#2 ++ 0x3f#6 ++ f.tok ++ x ++ f.d ++ f.a) = 2
  simp (disch := omega) only [ext_hi, ext_lo, -Nat.reduceAdd, -Nat.reduceSub]; simp

@[simp] theorem major_packVL0 (x : BitVec 8) (f : VL) : majorOf (packVL0 x f) = 0x3f := by
  show BitVec.extractLsb' 24 6 (2#2 ++ 0x3f#6 ++ f.tok ++ x ++ f.d ++ f.a) = 0x3f
  simp (disch := omega) only [ext_hi, ext_lo, -Nat.reduceAdd, -Nat.reduceSub]; simp

@[simp] theorem tok_packVL0 (x : BitVec 8) (f : VL) : (packVL0 x f).extractLsb' 20 4 = f.tok := by
  show BitVec.extractLsb' 20 4 (2#2 ++ 0x3f#6 ++ f.tok ++ x ++ f.d ++ f.a) = f.tok
  simp (disch := omega) only [ext_hi, ext_lo, -Nat.reduceAdd, -Nat.reduceSub]; simp

@[simp] theorem xop_packVL0 (x : BitVec 8) (f : VL) : (packVL0 x f).extractLsb' 12 8 = x := by
  show BitVec.extractLsb' 12 8 (2#2 ++ 0x3f#6 ++ f.tok ++ x ++ f.d ++ f.a) = x
  simp (disch := omega) only [ext_hi, ext_lo, -Nat.reduceAdd, -Nat.reduceSub]; simp

@[simp] theorem d_packVL0 (x : BitVec 8) (f : VL) : (packVL0 x f).extractLsb' 6 6 = f.d := by
  show BitVec.extractLsb' 6 6 (2#2 ++ 0x3f#6 ++ f.tok ++ x ++ f.d ++ f.a) = f.d
  simp (disch := omega) only [ext_hi, ext_lo, -Nat.reduceAdd, -Nat.reduceSub]; simp

@[simp] theorem a_packVL0 (x : BitVec 8) (f : VL) : (packVL0 x f).extractLsb' 0 6 = f.a := by
  show BitVec.extractLsb' 0 6 (2#2 ++ 0x3f#6 ++ f.tok ++ x ++ f.d ++ f.a) = f.a
  simp (disch := omega) only [ext_hi, ext_lo, -Nat.reduceAdd, -Nat.reduceSub]; simp

@[simp] theorem b_packVL1  (f : VL) : (packVL1 f).extractLsb' 26 6 = f.b := by
  show BitVec.extractLsb' 26 6 (f.b ++ f.c ++ f.msk ++ BitVec.ofBool f.men ++ f.qsel ++ f.rm ++ f.ty ++ BitVec.ofBool f.mz ++ f.aux) = f.b
  simp (disch := omega) only [ext_hi, ext_lo, -Nat.reduceAdd, -Nat.reduceSub]; simp

@[simp] theorem c_packVL1  (f : VL) : (packVL1 f).extractLsb' 20 6 = f.c := by
  show BitVec.extractLsb' 20 6 (f.b ++ f.c ++ f.msk ++ BitVec.ofBool f.men ++ f.qsel ++ f.rm ++ f.ty ++ BitVec.ofBool f.mz ++ f.aux) = f.c
  simp (disch := omega) only [ext_hi, ext_lo, -Nat.reduceAdd, -Nat.reduceSub]; simp

@[simp] theorem msk_packVL1  (f : VL) : (packVL1 f).extractLsb' 17 3 = f.msk := by
  show BitVec.extractLsb' 17 3 (f.b ++ f.c ++ f.msk ++ BitVec.ofBool f.men ++ f.qsel ++ f.rm ++ f.ty ++ BitVec.ofBool f.mz ++ f.aux) = f.msk
  simp (disch := omega) only [ext_hi, ext_lo, -Nat.reduceAdd, -Nat.reduceSub]; simp

@[simp] theorem men_packVL1  (f : VL) : (packVL1 f).extractLsb' 16 1 = BitVec.ofBool f.men := by
  show BitVec.extractLsb' 16 1 (f.b ++ f.c ++ f.msk ++ BitVec.ofBool f.men ++ f.qsel ++ f.rm ++ f.ty ++ BitVec.ofBool f.mz ++ f.aux) = BitVec.ofBool f.men
  simp (disch := omega) only [ext_hi, ext_lo, -Nat.reduceAdd, -Nat.reduceSub]; simp

@[simp] theorem qsel_packVL1  (f : VL) : (packVL1 f).extractLsb' 12 4 = f.qsel := by
  show BitVec.extractLsb' 12 4 (f.b ++ f.c ++ f.msk ++ BitVec.ofBool f.men ++ f.qsel ++ f.rm ++ f.ty ++ BitVec.ofBool f.mz ++ f.aux) = f.qsel
  simp (disch := omega) only [ext_hi, ext_lo, -Nat.reduceAdd, -Nat.reduceSub]; simp

@[simp] theorem rm_packVL1  (f : VL) : (packVL1 f).extractLsb' 9 3 = f.rm := by
  show BitVec.extractLsb' 9 3 (f.b ++ f.c ++ f.msk ++ BitVec.ofBool f.men ++ f.qsel ++ f.rm ++ f.ty ++ BitVec.ofBool f.mz ++ f.aux) = f.rm
  simp (disch := omega) only [ext_hi, ext_lo, -Nat.reduceAdd, -Nat.reduceSub]; simp

@[simp] theorem ty_packVL1  (f : VL) : (packVL1 f).extractLsb' 4 5 = f.ty := by
  show BitVec.extractLsb' 4 5 (f.b ++ f.c ++ f.msk ++ BitVec.ofBool f.men ++ f.qsel ++ f.rm ++ f.ty ++ BitVec.ofBool f.mz ++ f.aux) = f.ty
  simp (disch := omega) only [ext_hi, ext_lo, -Nat.reduceAdd, -Nat.reduceSub]; simp

@[simp] theorem mz_packVL1  (f : VL) : (packVL1 f).extractLsb' 3 1 = BitVec.ofBool f.mz := by
  show BitVec.extractLsb' 3 1 (f.b ++ f.c ++ f.msk ++ BitVec.ofBool f.men ++ f.qsel ++ f.rm ++ f.ty ++ BitVec.ofBool f.mz ++ f.aux) = BitVec.ofBool f.mz
  simp (disch := omega) only [ext_hi, ext_lo, -Nat.reduceAdd, -Nat.reduceSub]; simp

@[simp] theorem aux_packVL1  (f : VL) : (packVL1 f).extractLsb' 0 3 = f.aux := by
  show BitVec.extractLsb' 0 3 (f.b ++ f.c ++ f.msk ++ BitVec.ofBool f.men ++ f.qsel ++ f.rm ++ f.ty ++ BitVec.ofBool f.mz ++ f.aux) = f.aux
  simp (disch := omega) only [ext_hi, ext_lo, -Nat.reduceAdd, -Nat.reduceSub]; simp

/-- A bit of a word, by the one-bit field that holds it. -/
theorem bit_of_field {n : Nat} {x : BitVec n} {i : Nat} {b : Bool} (h : x.extractLsb' i 1 = BitVec.ofBool b) : x.getLsbD i = b := by
  have := congrArg (fun y : BitVec 1 => y.getLsbD 0) h
  simpa [BitVec.getLsbD_extractLsb'] using this

@[simp] theorem ordBit_packAL1 (f : AL) : (packAL1 f)[19] = f.ord := bit_of_field (ord_packAL1 f)
@[simp] theorem menBit_packVL1 (f : VL) : (packVL1 f)[16] = f.men := bit_of_field (men_packVL1 f)
@[simp] theorem mzBit_packVL1 (f : VL) : (packVL1 f)[3] = f.mz := bit_of_field (mz_packVL1 f)

/-- The width bit of an A.L word is bit 0 of its XOP. -/
@[simp] theorem wideBit_packAL0 (x : BitVec 8) (f : AL) : (packAL0 x f)[12] = x[0] := by
  have h := congrArg (fun y : BitVec 8 => y.getLsbD 0) (xop_packAL0 x f)
  simp only [BitVec.getLsbD_extractLsb'] at h
  exact h

theorem unpack_packAL (x : BitVec 8) (f : AL) (h : (xopWide x && x[0]) = f.w64) : unpackAL (packAL0 x f) (packAL1 f) = f := by
  simp [unpackAL, tokOf, h]

@[simp] theorem unpack_packVL (x : BitVec 8) (f : VL) : unpackVL (packVL0 x f) (packVL1 f) = f := by
  simp [unpackVL, tokOf]

end Sys2Proof.Laws
end

