-- ==== Sys2Proof/Laws/Tbl.lean ====
section
/-! SUPPORT. Laws of the sparse table: what a write leaves to be read, and that writes keep its form. -/

namespace Sys2Proof

variable {α : Type}

@[simp] theorem Tbl.look_put_same (d : α) (t : Tbl α) (k : Nat) (x : α) : Tbl.look d (Tbl.put t k x) k = x := by
  induction t with
  | nil => simp [Tbl.put, Tbl.look]
  | cons e r ih =>
    obtain ⟨j, y⟩ := e
    by_cases h : j = k
    · simp [Tbl.put, Tbl.look, h]
    · by_cases g : k < j <;> simp [Tbl.put, Tbl.look, h, g, ih]

theorem Tbl.look_put_other (d : α) (t : Tbl α) {k i : Nat} (x : α) (h : i ≠ k) : Tbl.look d (Tbl.put t k x) i = Tbl.look d t i := by
  induction t with
  | nil => simp [Tbl.put, Tbl.look, Ne.symm h]
  | cons e r ih =>
    obtain ⟨j, y⟩ := e
    by_cases hj : j = k
    · subst hj; simp [Tbl.put, Tbl.look, Ne.symm h]
    · by_cases g : k < j
      · simp [Tbl.put, Tbl.look, hj, g, Ne.symm h]
      · simp [Tbl.put, Tbl.look, hj, g, ih]

theorem Tbl.look_put (d : α) (t : Tbl α) (k i : Nat) (x : α) : Tbl.look d (Tbl.put t k x) i = if i = k then x else Tbl.look d t i := by
  by_cases h : i = k
  · subst h; simp
  · simp [h, Tbl.look_put_other]

@[simp] theorem Tbl.look_del_same (d : α) (t : Tbl α) (k : Nat) : Tbl.look d (Tbl.del t k) k = d := by
  induction t with
  | nil => rfl
  | cons e r ih =>
    obtain ⟨j, y⟩ := e
    by_cases h : j = k <;> simp [Tbl.del, Tbl.look, h, ih]

theorem Tbl.look_del_other (d : α) (t : Tbl α) {k i : Nat} (h : i ≠ k) : Tbl.look d (Tbl.del t k) i = Tbl.look d t i := by
  induction t with
  | nil => rfl
  | cons e r ih =>
    obtain ⟨j, y⟩ := e
    by_cases hj : j = k
    · subst hj; simp [Tbl.del, Tbl.look, Ne.symm h, ih]
    · by_cases g : j = i
      · subst g; simp [Tbl.del, Tbl.look, h]
      · simp [Tbl.del, Tbl.look, hj, g, ih]

/-- A read after a write that keeps the canonical form. -/
theorem Tbl.look_set [DecidableEq α] (d : α) (t : Tbl α) (k i : Nat) (x : α) :
    Tbl.look d (Tbl.set d t k x) i = if i = k then x else Tbl.look d t i := by
  unfold Tbl.set
  split
  · by_cases h : i = k
    · subst h; simp [*]
    · simp [h, Tbl.look_del_other]
  · exact Tbl.look_put ..

@[simp] theorem Tbl.look_upd_same (d : α) (t : Tbl α) (k : Nat) (f : α → α) : Tbl.look d (Tbl.upd d t k f) k = f (Tbl.look d t k) := by
  simp [Tbl.upd]

theorem Tbl.look_upd_other (d : α) (t : Tbl α) {k i : Nat} (f : α → α) (h : i ≠ k) :
    Tbl.look d (Tbl.upd d t k f) i = Tbl.look d t i := by
  simp [Tbl.upd, Tbl.look_put_other, h]

@[simp] theorem Tbl.find_put_same (t : Tbl α) (k : Nat) (x : α) : Tbl.find (Tbl.put t k x) k = some x := by
  induction t with
  | nil => simp [Tbl.put, Tbl.find]
  | cons e r ih =>
    obtain ⟨j, y⟩ := e
    by_cases h : j = k
    · simp [Tbl.put, Tbl.find, h]
    · by_cases g : k < j <;> simp [Tbl.put, Tbl.find, h, g, ih]

theorem Tbl.find_put_other (t : Tbl α) {k i : Nat} (x : α) (h : i ≠ k) : Tbl.find (Tbl.put t k x) i = Tbl.find t i := by
  induction t with
  | nil => simp [Tbl.put, Tbl.find, Ne.symm h]
  | cons e r ih =>
    obtain ⟨j, y⟩ := e
    by_cases hj : j = k
    · subst hj; simp [Tbl.put, Tbl.find, Ne.symm h]
    · by_cases g : k < j
      · simp [Tbl.put, Tbl.find, hj, g, Ne.symm h]
      · simp [Tbl.put, Tbl.find, hj, g, ih]

/-! ### The canonical form -/

theorem Tbl.rising_mono {lo hi : Nat} (t : Tbl α) (h : lo ≤ hi) (r : Tbl.rising hi t = true) : Tbl.rising lo t = true := by
  cases t with
  | nil => rfl
  | cons e t =>
    simp only [Tbl.rising, Bool.and_eq_true, decide_eq_true_eq] at r ⊢
    exact ⟨by omega, r.2⟩

theorem Tbl.rising_put (t : Tbl α) (k : Nat) (x : α) {lo : Nat} (h : lo ≤ k) (r : Tbl.rising lo t = true) :
    Tbl.rising lo (Tbl.put t k x) = true := by
  induction t generalizing lo with
  | nil => simp [Tbl.put, Tbl.rising, h]
  | cons e t ih =>
    obtain ⟨j, y⟩ := e
    simp only [Tbl.rising, Bool.and_eq_true, decide_eq_true_eq] at r
    by_cases hj : j = k
    · subst hj; simp [Tbl.put, Tbl.rising, r]
    · by_cases g : k < j
      · simp only [Tbl.put, hj, g, if_false, if_true, Tbl.rising, Bool.and_eq_true, decide_eq_true_eq]
        exact ⟨h, by omega, r.2⟩
      · simp only [Tbl.put, hj, g, if_false, Tbl.rising, Bool.and_eq_true, decide_eq_true_eq]
        exact ⟨r.1, ih (by omega) r.2⟩

theorem Tbl.rising_del (t : Tbl α) (k : Nat) {lo : Nat} (r : Tbl.rising lo t = true) : Tbl.rising lo (Tbl.del t k) = true := by
  induction t generalizing lo with
  | nil => rfl
  | cons e t ih =>
    obtain ⟨j, y⟩ := e
    simp only [Tbl.rising, Bool.and_eq_true, decide_eq_true_eq] at r
    by_cases hj : j = k
    · simp only [Tbl.del, hj, if_true]
      exact ih (Tbl.rising_mono t (by omega) r.2)
    · simp only [Tbl.del, hj, if_false, Tbl.rising, Bool.and_eq_true, decide_eq_true_eq]
      exact ⟨r.1, ih r.2⟩

theorem Tbl.mem_put (t : Tbl α) (k : Nat) (x : α) {e : Nat × α} (h : e ∈ Tbl.put t k x) : e = (k, x) ∨ e ∈ t := by
  induction t with
  | nil => simpa [Tbl.put] using h
  | cons a t ih =>
    obtain ⟨j, y⟩ := a
    by_cases hj : j = k
    · simp only [Tbl.put, hj, if_true, List.mem_cons] at h ⊢
      rcases h with h | h <;> simp [h]
    · by_cases g : k < j
      · simpa [Tbl.put, hj, g] using h
      · simp only [Tbl.put, hj, g, if_false, List.mem_cons] at h ⊢
        rcases h with h | h
        · simp [h]
        · rcases ih h with h | h <;> simp [h]

theorem Tbl.mem_del (t : Tbl α) (k : Nat) {e : Nat × α} (h : e ∈ Tbl.del t k) : e ∈ t := by
  induction t with
  | nil => simp [Tbl.del] at h
  | cons a t ih =>
    obtain ⟨j, y⟩ := a
    by_cases hj : j = k
    · simp only [Tbl.del, hj, if_true] at h
      exact List.mem_cons_of_mem _ (ih h)
    · simp only [Tbl.del, hj, if_false, List.mem_cons] at h ⊢
      rcases h with h | h
      · simp [h]
      · exact .inr (ih h)

/-- A write keeps the canonical form. -/
theorem Tbl.wf_set [DecidableEq α] (d : α) (t : Tbl α) (k : Nat) (x : α) (h : Tbl.wf d t = true) : Tbl.wf d (Tbl.set d t k x) = true := by
  simp only [Tbl.wf, Bool.and_eq_true, List.all_eq_true, Bool.not_eq_true', decide_eq_false_iff_not] at h ⊢
  unfold Tbl.set
  split
  · exact ⟨Tbl.rising_del t k h.1, fun e he => h.2 e (Tbl.mem_del t k he)⟩
  · refine ⟨Tbl.rising_put t k x (Nat.zero_le _) h.1, fun e he => ?_⟩
    rcases Tbl.mem_put t k x he with rfl | he
    · assumption
    · exact h.2 e he

theorem Tbl.rising_filter (t : Tbl α) (p : Nat × α → Bool) {lo : Nat} (r : Tbl.rising lo t = true) :
    Tbl.rising lo (t.filter p) = true := by
  induction t generalizing lo with
  | nil => rfl
  | cons e t ih =>
    obtain ⟨j, y⟩ := e
    simp only [Tbl.rising, Bool.and_eq_true, decide_eq_true_eq] at r
    rw [List.filter_cons]
    split
    · simp only [Tbl.rising, Bool.and_eq_true, decide_eq_true_eq]
      exact ⟨r.1, ih r.2⟩
    · exact Tbl.rising_mono _ (by omega) (ih r.2)

/-- Leaving entries out keeps the canonical form. -/
theorem Tbl.wf_filter [DecidableEq α] (d : α) (t : Tbl α) (p : Nat × α → Bool) (h : Tbl.wf d t = true) :
    Tbl.wf d (t.filter p) = true := by
  simp only [Tbl.wf, Bool.and_eq_true, List.all_eq_true, Bool.not_eq_true', decide_eq_false_iff_not] at h ⊢
  exact ⟨Tbl.rising_filter t p h.1, fun e he => h.2 e (List.mem_filter.mp he).1⟩

end Sys2Proof
end

