-- ==== Sys2Proof/Laws/State.lean ====
section
/-! SUPPORT. What each update of the state leaves of each field. -/

namespace Sys2Proof.Machine

open Sys2Proof

/-! ### State.updSk -/

@[simp] theorem State.updSk_now (s : State) (k : Nat) (f : Skillet → Skillet) : (s.updSk k f).now = s.now := rfl
@[simp] theorem State.updSk_agenda (s : State) (k : Nat) (f : Skillet → Skillet) : (s.updSk k f).agenda = s.agenda := rfl
@[simp] theorem State.updSk_cur (s : State) (k : Nat) (f : Skillet → Skillet) : (s.updSk k f).cur = s.cur := rfl
@[simp] theorem State.updSk_curEng (s : State) (k : Nat) (f : Skillet → Skillet) : (s.updSk k f).curEng = s.curEng := rfl
@[simp] theorem State.updSk_nextId (s : State) (k : Nat) (f : Skillet → Skillet) : (s.updSk k f).nextId = s.nextId := rfl
@[simp] theorem State.updSk_chipId (s : State) (k : Nat) (f : Skillet → Skillet) : (s.updSk k f).chipId = s.chipId := rfl
@[simp] theorem State.updSk_mem (s : State) (k : Nat) (f : Skillet → Skillet) : (s.updSk k f).mem = s.mem := rfl
@[simp] theorem State.updSk_poison (s : State) (k : Nat) (f : Skillet → Skillet) : (s.updSk k f).poison = s.poison := rfl
@[simp] theorem State.updSk_recOf (s : State) (k : Nat) (f : Skillet → Skillet) : (s.updSk k f).recOf = s.recOf := rfl
@[simp] theorem State.updSk_hostMem (s : State) (k : Nat) (f : Skillet → Skillet) : (s.updSk k f).hostMem = s.hostMem := rfl
@[simp] theorem State.updSk_hostCopies (s : State) (k : Nat) (f : Skillet → Skillet) : (s.updSk k f).hostCopies = s.hostCopies := rfl
@[simp] theorem State.updSk_backInv (s : State) (k : Nat) (f : Skillet → Skillet) : (s.updSk k f).backInv = s.backInv := rfl
@[simp] theorem State.updSk_dies (s : State) (k : Nat) (f : Skillet → Skillet) : (s.updSk k f).dies = s.dies := rfl
@[simp] theorem State.updSk_launches (s : State) (k : Nat) (f : Skillet → Skillet) : (s.updSk k f).launches = s.launches := rfl
@[simp] theorem State.updSk_saved (s : State) (k : Nat) (f : Skillet → Skillet) : (s.updSk k f).saved = s.saved := rfl
@[simp] theorem State.updSk_tagCtr (s : State) (k : Nat) (f : Skillet → Skillet) : (s.updSk k f).tagCtr = s.tagCtr := rfl
@[simp] theorem State.updSk_classTbl (s : State) (k : Nat) (f : Skillet → Skillet) : (s.updSk k f).classTbl = s.classTbl := rfl
@[simp] theorem State.updSk_levels (s : State) (k : Nat) (f : Skillet → Skillet) : (s.updSk k f).levels = s.levels := rfl
@[simp] theorem State.updSk_handles (s : State) (k : Nat) (f : Skillet → Skillet) : (s.updSk k f).handles = s.handles := rfl
@[simp] theorem State.updSk_handleGen (s : State) (k : Nat) (f : Skillet → Skillet) : (s.updSk k f).handleGen = s.handleGen := rfl
@[simp] theorem State.updSk_entries (s : State) (k : Nat) (f : Skillet → Skillet) : (s.updSk k f).entries = s.entries := rfl
@[simp] theorem State.updSk_routes (s : State) (k : Nat) (f : Skillet → Skillet) : (s.updSk k f).routes = s.routes := rfl
@[simp] theorem State.updSk_inbound (s : State) (k : Nat) (f : Skillet → Skillet) : (s.updSk k f).inbound = s.inbound := rfl
@[simp] theorem State.updSk_moves (s : State) (k : Nat) (f : Skillet → Skillet) : (s.updSk k f).moves = s.moves := rfl
@[simp] theorem State.updSk_ttbl (s : State) (k : Nat) (f : Skillet → Skillet) : (s.updSk k f).ttbl = s.ttbl := rfl
@[simp] theorem State.updSk_ctxtbl (s : State) (k : Nat) (f : Skillet → Skillet) : (s.updSk k f).ctxtbl = s.ctxtbl := rfl
@[simp] theorem State.updSk_mdoor (s : State) (k : Nat) (f : Skillet → Skillet) : (s.updSk k f).mdoor = s.mdoor := rfl
@[simp] theorem State.updSk_mstat (s : State) (k : Nat) (f : Skillet → Skillet) : (s.updSk k f).mstat = s.mstat := rfl
@[simp] theorem State.updSk_mcb (s : State) (k : Nat) (f : Skillet → Skillet) : (s.updSk k f).mcb = s.mcb := rfl
@[simp] theorem State.updSk_links (s : State) (k : Nat) (f : Skillet → Skillet) : (s.updSk k f).links = s.links := rfl
@[simp] theorem State.updSk_melperHalf (s : State) (k : Nat) (f : Skillet → Skillet) : (s.updSk k f).melperHalf = s.melperHalf := rfl
@[simp] theorem State.updSk_melperUp (s : State) (k : Nat) (f : Skillet → Skillet) : (s.updSk k f).melperUp = s.melperUp := rfl
@[simp] theorem State.updSk_ucieDown (s : State) (k : Nat) (f : Skillet → Skillet) : (s.updSk k f).ucieDown = s.ucieDown := rfl
@[simp] theorem State.updSk_griddleMHz (s : State) (k : Nat) (f : Skillet → Skillet) : (s.updSk k f).griddleMHz = s.griddleMHz := rfl
@[simp] theorem State.updSk_throttled (s : State) (k : Nat) (f : Skillet → Skillet) : (s.updSk k f).throttled = s.throttled := rfl
@[simp] theorem State.updSk_throttledAt (s : State) (k : Nat) (f : Skillet → Skillet) : (s.updSk k f).throttledAt = s.throttledAt := rfl
@[simp] theorem State.updSk_powered (s : State) (k : Nat) (f : Skillet → Skillet) : (s.updSk k f).powered = s.powered := rfl
@[simp] theorem State.updSk_ports (s : State) (k : Nat) (f : Skillet → Skillet) : (s.updSk k f).ports = s.ports := rfl
@[simp] theorem State.updSk_leafCtr (s : State) (k : Nat) (f : Skillet → Skillet) : (s.updSk k f).leafCtr = s.leafCtr := rfl
@[simp] theorem State.updSk_signedAt (s : State) (k : Nat) (f : Skillet → Skillet) : (s.updSk k f).signedAt = s.signedAt := rfl
@[simp] theorem State.updSk_dirCap (s : State) (k : Nat) (f : Skillet → Skillet) : (s.updSk k f).dirCap = s.dirCap := rfl
@[simp] theorem State.updSk_firm (s : State) (k : Nat) (f : Skillet → Skillet) : (s.updSk k f).firm = s.firm := rfl
@[simp] theorem State.updSk_updating (s : State) (k : Nat) (f : Skillet → Skillet) : (s.updSk k f).updating = s.updating := rfl
@[simp] theorem State.updSk_tripLog (s : State) (k : Nat) (f : Skillet → Skillet) : (s.updSk k f).tripLog = s.tripLog := rfl
@[simp] theorem State.updSk_modSeq (s : State) (k : Nat) (f : Skillet → Skillet) : (s.updSk k f).modSeq = s.modSeq := rfl
@[simp] theorem State.updSk_mods (s : State) (k : Nat) (f : Skillet → Skillet) : (s.updSk k f).mods = s.mods := rfl
@[simp] theorem State.updSk_notifySeq (s : State) (k : Nat) (f : Skillet → Skillet) : (s.updSk k f).notifySeq = s.notifySeq := rfl
@[simp] theorem State.updSk_bootFail (s : State) (k : Nat) (f : Skillet → Skillet) : (s.updSk k f).bootFail = s.bootFail := rfl

/-! ### State.updDie -/

@[simp] theorem State.updDie_now (s : State) (d : Nat) (f : Die → Die) : (s.updDie d f).now = s.now := rfl
@[simp] theorem State.updDie_agenda (s : State) (d : Nat) (f : Die → Die) : (s.updDie d f).agenda = s.agenda := rfl
@[simp] theorem State.updDie_cur (s : State) (d : Nat) (f : Die → Die) : (s.updDie d f).cur = s.cur := rfl
@[simp] theorem State.updDie_curEng (s : State) (d : Nat) (f : Die → Die) : (s.updDie d f).curEng = s.curEng := rfl
@[simp] theorem State.updDie_nextId (s : State) (d : Nat) (f : Die → Die) : (s.updDie d f).nextId = s.nextId := rfl
@[simp] theorem State.updDie_chipId (s : State) (d : Nat) (f : Die → Die) : (s.updDie d f).chipId = s.chipId := rfl
@[simp] theorem State.updDie_mem (s : State) (d : Nat) (f : Die → Die) : (s.updDie d f).mem = s.mem := rfl
@[simp] theorem State.updDie_poison (s : State) (d : Nat) (f : Die → Die) : (s.updDie d f).poison = s.poison := rfl
@[simp] theorem State.updDie_recOf (s : State) (d : Nat) (f : Die → Die) : (s.updDie d f).recOf = s.recOf := rfl
@[simp] theorem State.updDie_hostMem (s : State) (d : Nat) (f : Die → Die) : (s.updDie d f).hostMem = s.hostMem := rfl
@[simp] theorem State.updDie_hostCopies (s : State) (d : Nat) (f : Die → Die) : (s.updDie d f).hostCopies = s.hostCopies := rfl
@[simp] theorem State.updDie_backInv (s : State) (d : Nat) (f : Die → Die) : (s.updDie d f).backInv = s.backInv := rfl
@[simp] theorem State.updDie_sks (s : State) (d : Nat) (f : Die → Die) : (s.updDie d f).sks = s.sks := rfl
@[simp] theorem State.updDie_launches (s : State) (d : Nat) (f : Die → Die) : (s.updDie d f).launches = s.launches := rfl
@[simp] theorem State.updDie_saved (s : State) (d : Nat) (f : Die → Die) : (s.updDie d f).saved = s.saved := rfl
@[simp] theorem State.updDie_tagCtr (s : State) (d : Nat) (f : Die → Die) : (s.updDie d f).tagCtr = s.tagCtr := rfl
@[simp] theorem State.updDie_classTbl (s : State) (d : Nat) (f : Die → Die) : (s.updDie d f).classTbl = s.classTbl := rfl
@[simp] theorem State.updDie_levels (s : State) (d : Nat) (f : Die → Die) : (s.updDie d f).levels = s.levels := rfl
@[simp] theorem State.updDie_handles (s : State) (d : Nat) (f : Die → Die) : (s.updDie d f).handles = s.handles := rfl
@[simp] theorem State.updDie_handleGen (s : State) (d : Nat) (f : Die → Die) : (s.updDie d f).handleGen = s.handleGen := rfl
@[simp] theorem State.updDie_entries (s : State) (d : Nat) (f : Die → Die) : (s.updDie d f).entries = s.entries := rfl
@[simp] theorem State.updDie_routes (s : State) (d : Nat) (f : Die → Die) : (s.updDie d f).routes = s.routes := rfl
@[simp] theorem State.updDie_inbound (s : State) (d : Nat) (f : Die → Die) : (s.updDie d f).inbound = s.inbound := rfl
@[simp] theorem State.updDie_moves (s : State) (d : Nat) (f : Die → Die) : (s.updDie d f).moves = s.moves := rfl
@[simp] theorem State.updDie_ttbl (s : State) (d : Nat) (f : Die → Die) : (s.updDie d f).ttbl = s.ttbl := rfl
@[simp] theorem State.updDie_ctxtbl (s : State) (d : Nat) (f : Die → Die) : (s.updDie d f).ctxtbl = s.ctxtbl := rfl
@[simp] theorem State.updDie_mdoor (s : State) (d : Nat) (f : Die → Die) : (s.updDie d f).mdoor = s.mdoor := rfl
@[simp] theorem State.updDie_mstat (s : State) (d : Nat) (f : Die → Die) : (s.updDie d f).mstat = s.mstat := rfl
@[simp] theorem State.updDie_mcb (s : State) (d : Nat) (f : Die → Die) : (s.updDie d f).mcb = s.mcb := rfl
@[simp] theorem State.updDie_links (s : State) (d : Nat) (f : Die → Die) : (s.updDie d f).links = s.links := rfl
@[simp] theorem State.updDie_melperHalf (s : State) (d : Nat) (f : Die → Die) : (s.updDie d f).melperHalf = s.melperHalf := rfl
@[simp] theorem State.updDie_melperUp (s : State) (d : Nat) (f : Die → Die) : (s.updDie d f).melperUp = s.melperUp := rfl
@[simp] theorem State.updDie_ucieDown (s : State) (d : Nat) (f : Die → Die) : (s.updDie d f).ucieDown = s.ucieDown := rfl
@[simp] theorem State.updDie_griddleMHz (s : State) (d : Nat) (f : Die → Die) : (s.updDie d f).griddleMHz = s.griddleMHz := rfl
@[simp] theorem State.updDie_throttled (s : State) (d : Nat) (f : Die → Die) : (s.updDie d f).throttled = s.throttled := rfl
@[simp] theorem State.updDie_throttledAt (s : State) (d : Nat) (f : Die → Die) : (s.updDie d f).throttledAt = s.throttledAt := rfl
@[simp] theorem State.updDie_powered (s : State) (d : Nat) (f : Die → Die) : (s.updDie d f).powered = s.powered := rfl
@[simp] theorem State.updDie_ports (s : State) (d : Nat) (f : Die → Die) : (s.updDie d f).ports = s.ports := rfl
@[simp] theorem State.updDie_leafCtr (s : State) (d : Nat) (f : Die → Die) : (s.updDie d f).leafCtr = s.leafCtr := rfl
@[simp] theorem State.updDie_signedAt (s : State) (d : Nat) (f : Die → Die) : (s.updDie d f).signedAt = s.signedAt := rfl
@[simp] theorem State.updDie_dirCap (s : State) (d : Nat) (f : Die → Die) : (s.updDie d f).dirCap = s.dirCap := rfl
@[simp] theorem State.updDie_firm (s : State) (d : Nat) (f : Die → Die) : (s.updDie d f).firm = s.firm := rfl
@[simp] theorem State.updDie_updating (s : State) (d : Nat) (f : Die → Die) : (s.updDie d f).updating = s.updating := rfl
@[simp] theorem State.updDie_tripLog (s : State) (d : Nat) (f : Die → Die) : (s.updDie d f).tripLog = s.tripLog := rfl
@[simp] theorem State.updDie_modSeq (s : State) (d : Nat) (f : Die → Die) : (s.updDie d f).modSeq = s.modSeq := rfl
@[simp] theorem State.updDie_mods (s : State) (d : Nat) (f : Die → Die) : (s.updDie d f).mods = s.mods := rfl
@[simp] theorem State.updDie_notifySeq (s : State) (d : Nat) (f : Die → Die) : (s.updDie d f).notifySeq = s.notifySeq := rfl
@[simp] theorem State.updDie_bootFail (s : State) (d : Nat) (f : Die → Die) : (s.updDie d f).bootFail = s.bootFail := rfl

/-! ### State.updLaunch -/

@[simp] theorem State.updLaunch_now (s : State) (l : Nat) (f : Launch → Launch) : (s.updLaunch l f).now = s.now := rfl
@[simp] theorem State.updLaunch_agenda (s : State) (l : Nat) (f : Launch → Launch) : (s.updLaunch l f).agenda = s.agenda := rfl
@[simp] theorem State.updLaunch_cur (s : State) (l : Nat) (f : Launch → Launch) : (s.updLaunch l f).cur = s.cur := rfl
@[simp] theorem State.updLaunch_curEng (s : State) (l : Nat) (f : Launch → Launch) : (s.updLaunch l f).curEng = s.curEng := rfl
@[simp] theorem State.updLaunch_nextId (s : State) (l : Nat) (f : Launch → Launch) : (s.updLaunch l f).nextId = s.nextId := rfl
@[simp] theorem State.updLaunch_chipId (s : State) (l : Nat) (f : Launch → Launch) : (s.updLaunch l f).chipId = s.chipId := rfl
@[simp] theorem State.updLaunch_mem (s : State) (l : Nat) (f : Launch → Launch) : (s.updLaunch l f).mem = s.mem := rfl
@[simp] theorem State.updLaunch_poison (s : State) (l : Nat) (f : Launch → Launch) : (s.updLaunch l f).poison = s.poison := rfl
@[simp] theorem State.updLaunch_recOf (s : State) (l : Nat) (f : Launch → Launch) : (s.updLaunch l f).recOf = s.recOf := rfl
@[simp] theorem State.updLaunch_hostMem (s : State) (l : Nat) (f : Launch → Launch) : (s.updLaunch l f).hostMem = s.hostMem := rfl
@[simp] theorem State.updLaunch_hostCopies (s : State) (l : Nat) (f : Launch → Launch) : (s.updLaunch l f).hostCopies = s.hostCopies := rfl
@[simp] theorem State.updLaunch_backInv (s : State) (l : Nat) (f : Launch → Launch) : (s.updLaunch l f).backInv = s.backInv := rfl
@[simp] theorem State.updLaunch_sks (s : State) (l : Nat) (f : Launch → Launch) : (s.updLaunch l f).sks = s.sks := rfl
@[simp] theorem State.updLaunch_dies (s : State) (l : Nat) (f : Launch → Launch) : (s.updLaunch l f).dies = s.dies := rfl
@[simp] theorem State.updLaunch_saved (s : State) (l : Nat) (f : Launch → Launch) : (s.updLaunch l f).saved = s.saved := rfl
@[simp] theorem State.updLaunch_tagCtr (s : State) (l : Nat) (f : Launch → Launch) : (s.updLaunch l f).tagCtr = s.tagCtr := rfl
@[simp] theorem State.updLaunch_classTbl (s : State) (l : Nat) (f : Launch → Launch) : (s.updLaunch l f).classTbl = s.classTbl := rfl
@[simp] theorem State.updLaunch_levels (s : State) (l : Nat) (f : Launch → Launch) : (s.updLaunch l f).levels = s.levels := rfl
@[simp] theorem State.updLaunch_handles (s : State) (l : Nat) (f : Launch → Launch) : (s.updLaunch l f).handles = s.handles := rfl
@[simp] theorem State.updLaunch_handleGen (s : State) (l : Nat) (f : Launch → Launch) : (s.updLaunch l f).handleGen = s.handleGen := rfl
@[simp] theorem State.updLaunch_entries (s : State) (l : Nat) (f : Launch → Launch) : (s.updLaunch l f).entries = s.entries := rfl
@[simp] theorem State.updLaunch_routes (s : State) (l : Nat) (f : Launch → Launch) : (s.updLaunch l f).routes = s.routes := rfl
@[simp] theorem State.updLaunch_inbound (s : State) (l : Nat) (f : Launch → Launch) : (s.updLaunch l f).inbound = s.inbound := rfl
@[simp] theorem State.updLaunch_moves (s : State) (l : Nat) (f : Launch → Launch) : (s.updLaunch l f).moves = s.moves := rfl
@[simp] theorem State.updLaunch_ttbl (s : State) (l : Nat) (f : Launch → Launch) : (s.updLaunch l f).ttbl = s.ttbl := rfl
@[simp] theorem State.updLaunch_ctxtbl (s : State) (l : Nat) (f : Launch → Launch) : (s.updLaunch l f).ctxtbl = s.ctxtbl := rfl
@[simp] theorem State.updLaunch_mdoor (s : State) (l : Nat) (f : Launch → Launch) : (s.updLaunch l f).mdoor = s.mdoor := rfl
@[simp] theorem State.updLaunch_mstat (s : State) (l : Nat) (f : Launch → Launch) : (s.updLaunch l f).mstat = s.mstat := rfl
@[simp] theorem State.updLaunch_mcb (s : State) (l : Nat) (f : Launch → Launch) : (s.updLaunch l f).mcb = s.mcb := rfl
@[simp] theorem State.updLaunch_links (s : State) (l : Nat) (f : Launch → Launch) : (s.updLaunch l f).links = s.links := rfl
@[simp] theorem State.updLaunch_melperHalf (s : State) (l : Nat) (f : Launch → Launch) : (s.updLaunch l f).melperHalf = s.melperHalf := rfl
@[simp] theorem State.updLaunch_melperUp (s : State) (l : Nat) (f : Launch → Launch) : (s.updLaunch l f).melperUp = s.melperUp := rfl
@[simp] theorem State.updLaunch_ucieDown (s : State) (l : Nat) (f : Launch → Launch) : (s.updLaunch l f).ucieDown = s.ucieDown := rfl
@[simp] theorem State.updLaunch_griddleMHz (s : State) (l : Nat) (f : Launch → Launch) : (s.updLaunch l f).griddleMHz = s.griddleMHz := rfl
@[simp] theorem State.updLaunch_throttled (s : State) (l : Nat) (f : Launch → Launch) : (s.updLaunch l f).throttled = s.throttled := rfl
@[simp] theorem State.updLaunch_throttledAt (s : State) (l : Nat) (f : Launch → Launch) : (s.updLaunch l f).throttledAt = s.throttledAt := rfl
@[simp] theorem State.updLaunch_powered (s : State) (l : Nat) (f : Launch → Launch) : (s.updLaunch l f).powered = s.powered := rfl
@[simp] theorem State.updLaunch_ports (s : State) (l : Nat) (f : Launch → Launch) : (s.updLaunch l f).ports = s.ports := rfl
@[simp] theorem State.updLaunch_leafCtr (s : State) (l : Nat) (f : Launch → Launch) : (s.updLaunch l f).leafCtr = s.leafCtr := rfl
@[simp] theorem State.updLaunch_signedAt (s : State) (l : Nat) (f : Launch → Launch) : (s.updLaunch l f).signedAt = s.signedAt := rfl
@[simp] theorem State.updLaunch_dirCap (s : State) (l : Nat) (f : Launch → Launch) : (s.updLaunch l f).dirCap = s.dirCap := rfl
@[simp] theorem State.updLaunch_firm (s : State) (l : Nat) (f : Launch → Launch) : (s.updLaunch l f).firm = s.firm := rfl
@[simp] theorem State.updLaunch_updating (s : State) (l : Nat) (f : Launch → Launch) : (s.updLaunch l f).updating = s.updating := rfl
@[simp] theorem State.updLaunch_tripLog (s : State) (l : Nat) (f : Launch → Launch) : (s.updLaunch l f).tripLog = s.tripLog := rfl
@[simp] theorem State.updLaunch_modSeq (s : State) (l : Nat) (f : Launch → Launch) : (s.updLaunch l f).modSeq = s.modSeq := rfl
@[simp] theorem State.updLaunch_mods (s : State) (l : Nat) (f : Launch → Launch) : (s.updLaunch l f).mods = s.mods := rfl
@[simp] theorem State.updLaunch_notifySeq (s : State) (l : Nat) (f : Launch → Launch) : (s.updLaunch l f).notifySeq = s.notifySeq := rfl
@[simp] theorem State.updLaunch_bootFail (s : State) (l : Nat) (f : Launch → Launch) : (s.updLaunch l f).bootFail = s.bootFail := rfl

/-! ### State.onTk -/

@[simp] theorem State.onTk_now (s : State) (k : Nat) (f : Issue → Issue) : (s.onTk k f).now = s.now := rfl
@[simp] theorem State.onTk_agenda (s : State) (k : Nat) (f : Issue → Issue) : (s.onTk k f).agenda = s.agenda := rfl
@[simp] theorem State.onTk_cur (s : State) (k : Nat) (f : Issue → Issue) : (s.onTk k f).cur = s.cur := rfl
@[simp] theorem State.onTk_curEng (s : State) (k : Nat) (f : Issue → Issue) : (s.onTk k f).curEng = s.curEng := rfl
@[simp] theorem State.onTk_nextId (s : State) (k : Nat) (f : Issue → Issue) : (s.onTk k f).nextId = s.nextId := rfl
@[simp] theorem State.onTk_chipId (s : State) (k : Nat) (f : Issue → Issue) : (s.onTk k f).chipId = s.chipId := rfl
@[simp] theorem State.onTk_mem (s : State) (k : Nat) (f : Issue → Issue) : (s.onTk k f).mem = s.mem := rfl
@[simp] theorem State.onTk_poison (s : State) (k : Nat) (f : Issue → Issue) : (s.onTk k f).poison = s.poison := rfl
@[simp] theorem State.onTk_recOf (s : State) (k : Nat) (f : Issue → Issue) : (s.onTk k f).recOf = s.recOf := rfl
@[simp] theorem State.onTk_hostMem (s : State) (k : Nat) (f : Issue → Issue) : (s.onTk k f).hostMem = s.hostMem := rfl
@[simp] theorem State.onTk_hostCopies (s : State) (k : Nat) (f : Issue → Issue) : (s.onTk k f).hostCopies = s.hostCopies := rfl
@[simp] theorem State.onTk_backInv (s : State) (k : Nat) (f : Issue → Issue) : (s.onTk k f).backInv = s.backInv := rfl
@[simp] theorem State.onTk_dies (s : State) (k : Nat) (f : Issue → Issue) : (s.onTk k f).dies = s.dies := rfl
@[simp] theorem State.onTk_launches (s : State) (k : Nat) (f : Issue → Issue) : (s.onTk k f).launches = s.launches := rfl
@[simp] theorem State.onTk_saved (s : State) (k : Nat) (f : Issue → Issue) : (s.onTk k f).saved = s.saved := rfl
@[simp] theorem State.onTk_tagCtr (s : State) (k : Nat) (f : Issue → Issue) : (s.onTk k f).tagCtr = s.tagCtr := rfl
@[simp] theorem State.onTk_classTbl (s : State) (k : Nat) (f : Issue → Issue) : (s.onTk k f).classTbl = s.classTbl := rfl
@[simp] theorem State.onTk_levels (s : State) (k : Nat) (f : Issue → Issue) : (s.onTk k f).levels = s.levels := rfl
@[simp] theorem State.onTk_handles (s : State) (k : Nat) (f : Issue → Issue) : (s.onTk k f).handles = s.handles := rfl
@[simp] theorem State.onTk_handleGen (s : State) (k : Nat) (f : Issue → Issue) : (s.onTk k f).handleGen = s.handleGen := rfl
@[simp] theorem State.onTk_entries (s : State) (k : Nat) (f : Issue → Issue) : (s.onTk k f).entries = s.entries := rfl
@[simp] theorem State.onTk_routes (s : State) (k : Nat) (f : Issue → Issue) : (s.onTk k f).routes = s.routes := rfl
@[simp] theorem State.onTk_inbound (s : State) (k : Nat) (f : Issue → Issue) : (s.onTk k f).inbound = s.inbound := rfl
@[simp] theorem State.onTk_moves (s : State) (k : Nat) (f : Issue → Issue) : (s.onTk k f).moves = s.moves := rfl
@[simp] theorem State.onTk_ttbl (s : State) (k : Nat) (f : Issue → Issue) : (s.onTk k f).ttbl = s.ttbl := rfl
@[simp] theorem State.onTk_ctxtbl (s : State) (k : Nat) (f : Issue → Issue) : (s.onTk k f).ctxtbl = s.ctxtbl := rfl
@[simp] theorem State.onTk_mdoor (s : State) (k : Nat) (f : Issue → Issue) : (s.onTk k f).mdoor = s.mdoor := rfl
@[simp] theorem State.onTk_mstat (s : State) (k : Nat) (f : Issue → Issue) : (s.onTk k f).mstat = s.mstat := rfl
@[simp] theorem State.onTk_mcb (s : State) (k : Nat) (f : Issue → Issue) : (s.onTk k f).mcb = s.mcb := rfl
@[simp] theorem State.onTk_links (s : State) (k : Nat) (f : Issue → Issue) : (s.onTk k f).links = s.links := rfl
@[simp] theorem State.onTk_melperHalf (s : State) (k : Nat) (f : Issue → Issue) : (s.onTk k f).melperHalf = s.melperHalf := rfl
@[simp] theorem State.onTk_melperUp (s : State) (k : Nat) (f : Issue → Issue) : (s.onTk k f).melperUp = s.melperUp := rfl
@[simp] theorem State.onTk_ucieDown (s : State) (k : Nat) (f : Issue → Issue) : (s.onTk k f).ucieDown = s.ucieDown := rfl
@[simp] theorem State.onTk_griddleMHz (s : State) (k : Nat) (f : Issue → Issue) : (s.onTk k f).griddleMHz = s.griddleMHz := rfl
@[simp] theorem State.onTk_throttled (s : State) (k : Nat) (f : Issue → Issue) : (s.onTk k f).throttled = s.throttled := rfl
@[simp] theorem State.onTk_throttledAt (s : State) (k : Nat) (f : Issue → Issue) : (s.onTk k f).throttledAt = s.throttledAt := rfl
@[simp] theorem State.onTk_powered (s : State) (k : Nat) (f : Issue → Issue) : (s.onTk k f).powered = s.powered := rfl
@[simp] theorem State.onTk_ports (s : State) (k : Nat) (f : Issue → Issue) : (s.onTk k f).ports = s.ports := rfl
@[simp] theorem State.onTk_leafCtr (s : State) (k : Nat) (f : Issue → Issue) : (s.onTk k f).leafCtr = s.leafCtr := rfl
@[simp] theorem State.onTk_signedAt (s : State) (k : Nat) (f : Issue → Issue) : (s.onTk k f).signedAt = s.signedAt := rfl
@[simp] theorem State.onTk_dirCap (s : State) (k : Nat) (f : Issue → Issue) : (s.onTk k f).dirCap = s.dirCap := rfl
@[simp] theorem State.onTk_firm (s : State) (k : Nat) (f : Issue → Issue) : (s.onTk k f).firm = s.firm := rfl
@[simp] theorem State.onTk_updating (s : State) (k : Nat) (f : Issue → Issue) : (s.onTk k f).updating = s.updating := rfl
@[simp] theorem State.onTk_tripLog (s : State) (k : Nat) (f : Issue → Issue) : (s.onTk k f).tripLog = s.tripLog := rfl
@[simp] theorem State.onTk_modSeq (s : State) (k : Nat) (f : Issue → Issue) : (s.onTk k f).modSeq = s.modSeq := rfl
@[simp] theorem State.onTk_mods (s : State) (k : Nat) (f : Issue → Issue) : (s.onTk k f).mods = s.mods := rfl
@[simp] theorem State.onTk_notifySeq (s : State) (k : Nat) (f : Issue → Issue) : (s.onTk k f).notifySeq = s.notifySeq := rfl
@[simp] theorem State.onTk_bootFail (s : State) (k : Nat) (f : Issue → Issue) : (s.onTk k f).bootFail = s.bootFail := rfl

/-! ### State.onInfo -/

@[simp] theorem State.onInfo_now (s : State) (k : Nat) (f : TaskInfo → TaskInfo) : (s.onInfo k f).now = s.now := rfl
@[simp] theorem State.onInfo_agenda (s : State) (k : Nat) (f : TaskInfo → TaskInfo) : (s.onInfo k f).agenda = s.agenda := rfl
@[simp] theorem State.onInfo_cur (s : State) (k : Nat) (f : TaskInfo → TaskInfo) : (s.onInfo k f).cur = s.cur := rfl
@[simp] theorem State.onInfo_curEng (s : State) (k : Nat) (f : TaskInfo → TaskInfo) : (s.onInfo k f).curEng = s.curEng := rfl
@[simp] theorem State.onInfo_nextId (s : State) (k : Nat) (f : TaskInfo → TaskInfo) : (s.onInfo k f).nextId = s.nextId := rfl
@[simp] theorem State.onInfo_chipId (s : State) (k : Nat) (f : TaskInfo → TaskInfo) : (s.onInfo k f).chipId = s.chipId := rfl
@[simp] theorem State.onInfo_mem (s : State) (k : Nat) (f : TaskInfo → TaskInfo) : (s.onInfo k f).mem = s.mem := rfl
@[simp] theorem State.onInfo_poison (s : State) (k : Nat) (f : TaskInfo → TaskInfo) : (s.onInfo k f).poison = s.poison := rfl
@[simp] theorem State.onInfo_recOf (s : State) (k : Nat) (f : TaskInfo → TaskInfo) : (s.onInfo k f).recOf = s.recOf := rfl
@[simp] theorem State.onInfo_hostMem (s : State) (k : Nat) (f : TaskInfo → TaskInfo) : (s.onInfo k f).hostMem = s.hostMem := rfl
@[simp] theorem State.onInfo_hostCopies (s : State) (k : Nat) (f : TaskInfo → TaskInfo) : (s.onInfo k f).hostCopies = s.hostCopies := rfl
@[simp] theorem State.onInfo_backInv (s : State) (k : Nat) (f : TaskInfo → TaskInfo) : (s.onInfo k f).backInv = s.backInv := rfl
@[simp] theorem State.onInfo_dies (s : State) (k : Nat) (f : TaskInfo → TaskInfo) : (s.onInfo k f).dies = s.dies := rfl
@[simp] theorem State.onInfo_launches (s : State) (k : Nat) (f : TaskInfo → TaskInfo) : (s.onInfo k f).launches = s.launches := rfl
@[simp] theorem State.onInfo_saved (s : State) (k : Nat) (f : TaskInfo → TaskInfo) : (s.onInfo k f).saved = s.saved := rfl
@[simp] theorem State.onInfo_tagCtr (s : State) (k : Nat) (f : TaskInfo → TaskInfo) : (s.onInfo k f).tagCtr = s.tagCtr := rfl
@[simp] theorem State.onInfo_classTbl (s : State) (k : Nat) (f : TaskInfo → TaskInfo) : (s.onInfo k f).classTbl = s.classTbl := rfl
@[simp] theorem State.onInfo_levels (s : State) (k : Nat) (f : TaskInfo → TaskInfo) : (s.onInfo k f).levels = s.levels := rfl
@[simp] theorem State.onInfo_handles (s : State) (k : Nat) (f : TaskInfo → TaskInfo) : (s.onInfo k f).handles = s.handles := rfl
@[simp] theorem State.onInfo_handleGen (s : State) (k : Nat) (f : TaskInfo → TaskInfo) : (s.onInfo k f).handleGen = s.handleGen := rfl
@[simp] theorem State.onInfo_entries (s : State) (k : Nat) (f : TaskInfo → TaskInfo) : (s.onInfo k f).entries = s.entries := rfl
@[simp] theorem State.onInfo_routes (s : State) (k : Nat) (f : TaskInfo → TaskInfo) : (s.onInfo k f).routes = s.routes := rfl
@[simp] theorem State.onInfo_inbound (s : State) (k : Nat) (f : TaskInfo → TaskInfo) : (s.onInfo k f).inbound = s.inbound := rfl
@[simp] theorem State.onInfo_moves (s : State) (k : Nat) (f : TaskInfo → TaskInfo) : (s.onInfo k f).moves = s.moves := rfl
@[simp] theorem State.onInfo_ttbl (s : State) (k : Nat) (f : TaskInfo → TaskInfo) : (s.onInfo k f).ttbl = s.ttbl := rfl
@[simp] theorem State.onInfo_ctxtbl (s : State) (k : Nat) (f : TaskInfo → TaskInfo) : (s.onInfo k f).ctxtbl = s.ctxtbl := rfl
@[simp] theorem State.onInfo_mdoor (s : State) (k : Nat) (f : TaskInfo → TaskInfo) : (s.onInfo k f).mdoor = s.mdoor := rfl
@[simp] theorem State.onInfo_mstat (s : State) (k : Nat) (f : TaskInfo → TaskInfo) : (s.onInfo k f).mstat = s.mstat := rfl
@[simp] theorem State.onInfo_mcb (s : State) (k : Nat) (f : TaskInfo → TaskInfo) : (s.onInfo k f).mcb = s.mcb := rfl
@[simp] theorem State.onInfo_links (s : State) (k : Nat) (f : TaskInfo → TaskInfo) : (s.onInfo k f).links = s.links := rfl
@[simp] theorem State.onInfo_melperHalf (s : State) (k : Nat) (f : TaskInfo → TaskInfo) : (s.onInfo k f).melperHalf = s.melperHalf := rfl
@[simp] theorem State.onInfo_melperUp (s : State) (k : Nat) (f : TaskInfo → TaskInfo) : (s.onInfo k f).melperUp = s.melperUp := rfl
@[simp] theorem State.onInfo_ucieDown (s : State) (k : Nat) (f : TaskInfo → TaskInfo) : (s.onInfo k f).ucieDown = s.ucieDown := rfl
@[simp] theorem State.onInfo_griddleMHz (s : State) (k : Nat) (f : TaskInfo → TaskInfo) : (s.onInfo k f).griddleMHz = s.griddleMHz := rfl
@[simp] theorem State.onInfo_throttled (s : State) (k : Nat) (f : TaskInfo → TaskInfo) : (s.onInfo k f).throttled = s.throttled := rfl
@[simp] theorem State.onInfo_throttledAt (s : State) (k : Nat) (f : TaskInfo → TaskInfo) : (s.onInfo k f).throttledAt = s.throttledAt := rfl
@[simp] theorem State.onInfo_powered (s : State) (k : Nat) (f : TaskInfo → TaskInfo) : (s.onInfo k f).powered = s.powered := rfl
@[simp] theorem State.onInfo_ports (s : State) (k : Nat) (f : TaskInfo → TaskInfo) : (s.onInfo k f).ports = s.ports := rfl
@[simp] theorem State.onInfo_leafCtr (s : State) (k : Nat) (f : TaskInfo → TaskInfo) : (s.onInfo k f).leafCtr = s.leafCtr := rfl
@[simp] theorem State.onInfo_signedAt (s : State) (k : Nat) (f : TaskInfo → TaskInfo) : (s.onInfo k f).signedAt = s.signedAt := rfl
@[simp] theorem State.onInfo_dirCap (s : State) (k : Nat) (f : TaskInfo → TaskInfo) : (s.onInfo k f).dirCap = s.dirCap := rfl
@[simp] theorem State.onInfo_firm (s : State) (k : Nat) (f : TaskInfo → TaskInfo) : (s.onInfo k f).firm = s.firm := rfl
@[simp] theorem State.onInfo_updating (s : State) (k : Nat) (f : TaskInfo → TaskInfo) : (s.onInfo k f).updating = s.updating := rfl
@[simp] theorem State.onInfo_tripLog (s : State) (k : Nat) (f : TaskInfo → TaskInfo) : (s.onInfo k f).tripLog = s.tripLog := rfl
@[simp] theorem State.onInfo_modSeq (s : State) (k : Nat) (f : TaskInfo → TaskInfo) : (s.onInfo k f).modSeq = s.modSeq := rfl
@[simp] theorem State.onInfo_mods (s : State) (k : Nat) (f : TaskInfo → TaskInfo) : (s.onInfo k f).mods = s.mods := rfl
@[simp] theorem State.onInfo_notifySeq (s : State) (k : Nat) (f : TaskInfo → TaskInfo) : (s.onInfo k f).notifySeq = s.notifySeq := rfl
@[simp] theorem State.onInfo_bootFail (s : State) (k : Nat) (f : TaskInfo → TaskInfo) : (s.onInfo k f).bootFail = s.bootFail := rfl

/-! ### State.onEng -/

@[simp] theorem State.onEng_now (s : State) (k : Nat) (e : Engine) (f : Eng → Eng) : (s.onEng k e f).now = s.now := rfl
@[simp] theorem State.onEng_agenda (s : State) (k : Nat) (e : Engine) (f : Eng → Eng) : (s.onEng k e f).agenda = s.agenda := rfl
@[simp] theorem State.onEng_cur (s : State) (k : Nat) (e : Engine) (f : Eng → Eng) : (s.onEng k e f).cur = s.cur := rfl
@[simp] theorem State.onEng_curEng (s : State) (k : Nat) (e : Engine) (f : Eng → Eng) : (s.onEng k e f).curEng = s.curEng := rfl
@[simp] theorem State.onEng_nextId (s : State) (k : Nat) (e : Engine) (f : Eng → Eng) : (s.onEng k e f).nextId = s.nextId := rfl
@[simp] theorem State.onEng_chipId (s : State) (k : Nat) (e : Engine) (f : Eng → Eng) : (s.onEng k e f).chipId = s.chipId := rfl
@[simp] theorem State.onEng_mem (s : State) (k : Nat) (e : Engine) (f : Eng → Eng) : (s.onEng k e f).mem = s.mem := rfl
@[simp] theorem State.onEng_poison (s : State) (k : Nat) (e : Engine) (f : Eng → Eng) : (s.onEng k e f).poison = s.poison := rfl
@[simp] theorem State.onEng_recOf (s : State) (k : Nat) (e : Engine) (f : Eng → Eng) : (s.onEng k e f).recOf = s.recOf := rfl
@[simp] theorem State.onEng_hostMem (s : State) (k : Nat) (e : Engine) (f : Eng → Eng) : (s.onEng k e f).hostMem = s.hostMem := rfl
@[simp] theorem State.onEng_hostCopies (s : State) (k : Nat) (e : Engine) (f : Eng → Eng) : (s.onEng k e f).hostCopies = s.hostCopies := rfl
@[simp] theorem State.onEng_backInv (s : State) (k : Nat) (e : Engine) (f : Eng → Eng) : (s.onEng k e f).backInv = s.backInv := rfl
@[simp] theorem State.onEng_dies (s : State) (k : Nat) (e : Engine) (f : Eng → Eng) : (s.onEng k e f).dies = s.dies := rfl
@[simp] theorem State.onEng_launches (s : State) (k : Nat) (e : Engine) (f : Eng → Eng) : (s.onEng k e f).launches = s.launches := rfl
@[simp] theorem State.onEng_saved (s : State) (k : Nat) (e : Engine) (f : Eng → Eng) : (s.onEng k e f).saved = s.saved := rfl
@[simp] theorem State.onEng_tagCtr (s : State) (k : Nat) (e : Engine) (f : Eng → Eng) : (s.onEng k e f).tagCtr = s.tagCtr := rfl
@[simp] theorem State.onEng_classTbl (s : State) (k : Nat) (e : Engine) (f : Eng → Eng) : (s.onEng k e f).classTbl = s.classTbl := rfl
@[simp] theorem State.onEng_levels (s : State) (k : Nat) (e : Engine) (f : Eng → Eng) : (s.onEng k e f).levels = s.levels := rfl
@[simp] theorem State.onEng_handles (s : State) (k : Nat) (e : Engine) (f : Eng → Eng) : (s.onEng k e f).handles = s.handles := rfl
@[simp] theorem State.onEng_handleGen (s : State) (k : Nat) (e : Engine) (f : Eng → Eng) : (s.onEng k e f).handleGen = s.handleGen := rfl
@[simp] theorem State.onEng_entries (s : State) (k : Nat) (e : Engine) (f : Eng → Eng) : (s.onEng k e f).entries = s.entries := rfl
@[simp] theorem State.onEng_routes (s : State) (k : Nat) (e : Engine) (f : Eng → Eng) : (s.onEng k e f).routes = s.routes := rfl
@[simp] theorem State.onEng_inbound (s : State) (k : Nat) (e : Engine) (f : Eng → Eng) : (s.onEng k e f).inbound = s.inbound := rfl
@[simp] theorem State.onEng_moves (s : State) (k : Nat) (e : Engine) (f : Eng → Eng) : (s.onEng k e f).moves = s.moves := rfl
@[simp] theorem State.onEng_ttbl (s : State) (k : Nat) (e : Engine) (f : Eng → Eng) : (s.onEng k e f).ttbl = s.ttbl := rfl
@[simp] theorem State.onEng_ctxtbl (s : State) (k : Nat) (e : Engine) (f : Eng → Eng) : (s.onEng k e f).ctxtbl = s.ctxtbl := rfl
@[simp] theorem State.onEng_mdoor (s : State) (k : Nat) (e : Engine) (f : Eng → Eng) : (s.onEng k e f).mdoor = s.mdoor := rfl
@[simp] theorem State.onEng_mstat (s : State) (k : Nat) (e : Engine) (f : Eng → Eng) : (s.onEng k e f).mstat = s.mstat := rfl
@[simp] theorem State.onEng_mcb (s : State) (k : Nat) (e : Engine) (f : Eng → Eng) : (s.onEng k e f).mcb = s.mcb := rfl
@[simp] theorem State.onEng_links (s : State) (k : Nat) (e : Engine) (f : Eng → Eng) : (s.onEng k e f).links = s.links := rfl
@[simp] theorem State.onEng_melperHalf (s : State) (k : Nat) (e : Engine) (f : Eng → Eng) : (s.onEng k e f).melperHalf = s.melperHalf := rfl
@[simp] theorem State.onEng_melperUp (s : State) (k : Nat) (e : Engine) (f : Eng → Eng) : (s.onEng k e f).melperUp = s.melperUp := rfl
@[simp] theorem State.onEng_ucieDown (s : State) (k : Nat) (e : Engine) (f : Eng → Eng) : (s.onEng k e f).ucieDown = s.ucieDown := rfl
@[simp] theorem State.onEng_griddleMHz (s : State) (k : Nat) (e : Engine) (f : Eng → Eng) : (s.onEng k e f).griddleMHz = s.griddleMHz := rfl
@[simp] theorem State.onEng_throttled (s : State) (k : Nat) (e : Engine) (f : Eng → Eng) : (s.onEng k e f).throttled = s.throttled := rfl
@[simp] theorem State.onEng_throttledAt (s : State) (k : Nat) (e : Engine) (f : Eng → Eng) : (s.onEng k e f).throttledAt = s.throttledAt := rfl
@[simp] theorem State.onEng_powered (s : State) (k : Nat) (e : Engine) (f : Eng → Eng) : (s.onEng k e f).powered = s.powered := rfl
@[simp] theorem State.onEng_ports (s : State) (k : Nat) (e : Engine) (f : Eng → Eng) : (s.onEng k e f).ports = s.ports := rfl
@[simp] theorem State.onEng_leafCtr (s : State) (k : Nat) (e : Engine) (f : Eng → Eng) : (s.onEng k e f).leafCtr = s.leafCtr := rfl
@[simp] theorem State.onEng_signedAt (s : State) (k : Nat) (e : Engine) (f : Eng → Eng) : (s.onEng k e f).signedAt = s.signedAt := rfl
@[simp] theorem State.onEng_dirCap (s : State) (k : Nat) (e : Engine) (f : Eng → Eng) : (s.onEng k e f).dirCap = s.dirCap := rfl
@[simp] theorem State.onEng_firm (s : State) (k : Nat) (e : Engine) (f : Eng → Eng) : (s.onEng k e f).firm = s.firm := rfl
@[simp] theorem State.onEng_updating (s : State) (k : Nat) (e : Engine) (f : Eng → Eng) : (s.onEng k e f).updating = s.updating := rfl
@[simp] theorem State.onEng_tripLog (s : State) (k : Nat) (e : Engine) (f : Eng → Eng) : (s.onEng k e f).tripLog = s.tripLog := rfl
@[simp] theorem State.onEng_modSeq (s : State) (k : Nat) (e : Engine) (f : Eng → Eng) : (s.onEng k e f).modSeq = s.modSeq := rfl
@[simp] theorem State.onEng_mods (s : State) (k : Nat) (e : Engine) (f : Eng → Eng) : (s.onEng k e f).mods = s.mods := rfl
@[simp] theorem State.onEng_notifySeq (s : State) (k : Nat) (e : Engine) (f : Eng → Eng) : (s.onEng k e f).notifySeq = s.notifySeq := rfl
@[simp] theorem State.onEng_bootFail (s : State) (k : Nat) (e : Engine) (f : Eng → Eng) : (s.onEng k e f).bootFail = s.bootFail := rfl

/-! ### Skillet.onT, Skillet.onInfo -/

@[simp] theorem Skillet.onT_fenced (x : Skillet) (f : Issue → Issue) : (x.onT f).fenced = x.fenced := rfl
@[simp] theorem Skillet.onT_halted (x : Skillet) (f : Issue → Issue) : (x.onT f).halted = x.halted := rfl
@[simp] theorem Skillet.onT_launch (x : Skillet) (f : Issue → Issue) : (x.onT f).launch = x.launch := rfl
@[simp] theorem Skillet.onT_busy (x : Skillet) (f : Issue → Issue) : (x.onT f).busy = x.busy := rfl
@[simp] theorem Skillet.onT_reserved (x : Skillet) (f : Issue → Issue) : (x.onT f).reserved = x.reserved := rfl
@[simp] theorem Skillet.onT_hw (x : Skillet) (f : Issue → Issue) : (x.onT f).hw = x.hw := rfl
@[simp] theorem Skillet.onT_tried (x : Skillet) (f : Issue → Issue) : (x.onT f).tried = x.tried := rfl
@[simp] theorem Skillet.onT_pool (x : Skillet) (f : Issue → Issue) : (x.onT f).pool = x.pool := rfl
@[simp] theorem Skillet.onT_claim (x : Skillet) (f : Issue → Issue) : (x.onT f).claim = x.claim := rfl
@[simp] theorem Skillet.onT_atlb (x : Skillet) (f : Issue → Issue) : (x.onT f).atlb = x.atlb := rfl
@[simp] theorem Skillet.onT_handler (x : Skillet) (f : Issue → Issue) : (x.onT f).handler = x.handler := rfl
@[simp] theorem Skillet.onT_keep (x : Skillet) (f : Issue → Issue) : (x.onT f).keep = x.keep := rfl
@[simp] theorem Skillet.onT_scr (x : Skillet) (f : Issue → Issue) : (x.onT f).scr = x.scr := rfl
@[simp] theorem Skillet.onT_t (x : Skillet) (f : Issue → Issue) : (x.onT f).t = f x.t := rfl
@[simp] theorem Skillet.onT_info (x : Skillet) (f : Issue → Issue) : (x.onT f).info = x.info := rfl
@[simp] theorem Skillet.onInfo_fenced (x : Skillet) (f : TaskInfo → TaskInfo) : (x.onInfo f).fenced = x.fenced := rfl
@[simp] theorem Skillet.onInfo_halted (x : Skillet) (f : TaskInfo → TaskInfo) : (x.onInfo f).halted = x.halted := rfl
@[simp] theorem Skillet.onInfo_launch (x : Skillet) (f : TaskInfo → TaskInfo) : (x.onInfo f).launch = x.launch := rfl
@[simp] theorem Skillet.onInfo_busy (x : Skillet) (f : TaskInfo → TaskInfo) : (x.onInfo f).busy = x.busy := rfl
@[simp] theorem Skillet.onInfo_reserved (x : Skillet) (f : TaskInfo → TaskInfo) : (x.onInfo f).reserved = x.reserved := rfl
@[simp] theorem Skillet.onInfo_hw (x : Skillet) (f : TaskInfo → TaskInfo) : (x.onInfo f).hw = x.hw := rfl
@[simp] theorem Skillet.onInfo_tried (x : Skillet) (f : TaskInfo → TaskInfo) : (x.onInfo f).tried = x.tried := rfl
@[simp] theorem Skillet.onInfo_pool (x : Skillet) (f : TaskInfo → TaskInfo) : (x.onInfo f).pool = x.pool := rfl
@[simp] theorem Skillet.onInfo_claim (x : Skillet) (f : TaskInfo → TaskInfo) : (x.onInfo f).claim = x.claim := rfl
@[simp] theorem Skillet.onInfo_atlb (x : Skillet) (f : TaskInfo → TaskInfo) : (x.onInfo f).atlb = x.atlb := rfl
@[simp] theorem Skillet.onInfo_handler (x : Skillet) (f : TaskInfo → TaskInfo) : (x.onInfo f).handler = x.handler := rfl
@[simp] theorem Skillet.onInfo_keep (x : Skillet) (f : TaskInfo → TaskInfo) : (x.onInfo f).keep = x.keep := rfl
@[simp] theorem Skillet.onInfo_scr (x : Skillet) (f : TaskInfo → TaskInfo) : (x.onInfo f).scr = x.scr := rfl
@[simp] theorem Skillet.onInfo_t (x : Skillet) (f : TaskInfo → TaskInfo) : (x.onInfo f).t = x.t := rfl
@[simp] theorem Skillet.onInfo_info (x : Skillet) (f : TaskInfo → TaskInfo) : (x.onInfo f).info = f x.info := rfl

/-! ### Reading a Skillet, a die or an engine after an update -/

@[simp] theorem State.sk_updSk_same (s : State) (k : Nat) (f : Skillet → Skillet) : (s.updSk k f).sk k = f (s.sk k) :=
  Tbl.look_upd_same ..

theorem State.sk_updSk_other (s : State) {k j : Nat} (f : Skillet → Skillet) (h : j ≠ k) : (s.updSk k f).sk j = s.sk j :=
  Tbl.look_upd_other _ _ _ h

@[simp] theorem State.die_updSk (s : State) (k d : Nat) (f : Skillet → Skillet) : (s.updSk k f).die d = s.die d := rfl
@[simp] theorem State.sk_updDie (s : State) (k d : Nat) (f : Die → Die) : (s.updDie d f).sk k = s.sk k := rfl
@[simp] theorem State.sk_updLaunch (s : State) (k l : Nat) (f : Launch → Launch) : (s.updLaunch l f).sk k = s.sk k := rfl
@[simp] theorem State.die_updLaunch (s : State) (d l : Nat) (f : Launch → Launch) : (s.updLaunch l f).die d = s.die d := rfl

@[simp] theorem State.die_updDie_same (s : State) (d : Nat) (f : Die → Die) : (s.updDie d f).die d = f (s.die d) :=
  Tbl.look_upd_same ..

theorem State.die_updDie_other (s : State) {d j : Nat} (f : Die → Die) (h : j ≠ d) : (s.updDie d f).die j = s.die j :=
  Tbl.look_upd_other _ _ _ h

@[simp] theorem State.sk_onTk_same (s : State) (k : Nat) (f : Issue → Issue) : (s.onTk k f).sk k = (s.sk k).onT f :=
  State.sk_updSk_same ..
@[simp] theorem State.sk_onInfo_same (s : State) (k : Nat) (f : TaskInfo → TaskInfo) : (s.onInfo k f).sk k = (s.sk k).onInfo f :=
  State.sk_updSk_same ..
@[simp] theorem State.tk_onTk_same (s : State) (k : Nat) (f : Issue → Issue) : (s.onTk k f).tk k = f (s.tk k) := by
  simp [State.tk]
@[simp] theorem State.tk_onInfo (s : State) (k : Nat) (f : TaskInfo → TaskInfo) : (s.onInfo k f).tk k = s.tk k := by
  simp [State.tk]
@[simp] theorem State.tk_onEng_same (s : State) (k : Nat) (e : Engine) (f : Eng → Eng) :
    (s.onEng k e f).tk k = (s.tk k).setEng e (f ((s.tk k).eng e)) := by
  simp [State.onEng]

@[simp] theorem Issue.eng_setEng_same (t : Issue) (e : Engine) (x : Eng) : (t.setEng e x).eng e = x := by cases e <;> rfl
theorem Issue.eng_setEng_other (t : Issue) {e e' : Engine} (x : Eng) (h : e' ≠ e) : (t.setEng e x).eng e' = t.eng e' := by
  cases e <;> cases e' <;> first | rfl | exact absurd rfl h

end Sys2Proof.Machine
end

