-- ==== Sys2Proof/Laws/Regs.lean ====
section
/-! SUPPORT. Registers after the writes of an instruction, and what issue and retirement leave of them (01 R22, R23, R29). -/

namespace Sys2Proof.Machine

open Sys2Proof

/-! ### Writing a register -/

theorem Issue.getS_setS (t : Issue) (d r : BitVec 6) (x : DWord) :
    (t.setS d x).getS r = if r = d ∧ r ≠ 0 then x else t.getS r := by
  unfold Issue.setS
  split
  · rename_i h
    subst h
    split
    · rename_i h; exact absurd h.1 h.2
    · rfl
  · rename_i hd
    unfold Issue.getS
    by_cases hr : r = 0
    · simp [hr]
    · simp only [hr, if_false, ne_eq, not_false_eq_true, and_true]
      rw [Tbl.look_set]
      by_cases h : r = d
      · simp [h]
      · have : ¬ r.toNat = d.toNat := fun e => h (BitVec.eq_of_toNat_eq e)
        simp [h, this]

theorem Issue.getA_setA (t : Issue) (d r : BitVec 5) (x : DWord) (p : Bool) :
    (t.setA d x p).getA r = if r = d ∧ r ≠ 0 then x else t.getA r := by
  unfold Issue.setA
  split
  · rename_i h
    subst h
    split
    · rename_i h; exact absurd h.1 h.2
    · rfl
  · rename_i hd
    unfold Issue.getA
    by_cases hr : r = 0
    · simp [hr]
    · simp only [hr, if_false, ne_eq, not_false_eq_true, and_true]
      rw [Tbl.look_set]
      by_cases h : r = d
      · simp [h]
      · have : ¬ r.toNat = d.toNat := fun e => h (BitVec.eq_of_toNat_eq e)
        simp [h, this]

theorem Issue.getK_setK (t : Issue) (d r : Nat) (x : DWord) (p : Bool) : (t.setK d x p).getK r = if r = d then x else t.getK r :=
  Tbl.look_set ..

theorem Issue.getM_setM (t : Issue) (d r : Nat) (x : LaneMask) : (t.setM d x).getM r = if r = d then x else t.getM r := Tbl.look_set ..

theorem Issue.getV_setV (t : Issue) (d r : Nat) (x : VWord) (p : LaneMask) : (t.setV d x p).getV r = if r = d then x else t.getV r :=
  Tbl.look_set ..

theorem Issue.getVP_setV (t : Issue) (d r : Nat) (x : VWord) (p : LaneMask) : (t.setV d x p).getVP r = if r = d then p else t.getVP r :=
  Tbl.look_set ..

/-! ### Fields a write leaves alone -/

@[simp] theorem Issue.setS_c (t : Issue) (d : BitVec 6) (x : DWord) : (t.setS d x).c = t.c := by unfold Issue.setS; split <;> rfl
@[simp] theorem Issue.setS_a (t : Issue) (d : BitVec 6) (x : DWord) : (t.setS d x).a = t.a := by unfold Issue.setS; split <;> rfl
@[simp] theorem Issue.setS_v (t : Issue) (d : BitVec 6) (x : DWord) : (t.setS d x).v = t.v := by unfold Issue.setS; split <;> rfl
@[simp] theorem Issue.setS_ar (t : Issue) (d : BitVec 6) (x : DWord) : (t.setS d x).ar = t.ar := by unfold Issue.setS; split <;> rfl
@[simp] theorem Issue.setS_aP (t : Issue) (d : BitVec 6) (x : DWord) : (t.setS d x).aP = t.aP := by unfold Issue.setS; split <;> rfl
@[simp] theorem Issue.setS_k (t : Issue) (d : BitVec 6) (x : DWord) : (t.setS d x).k = t.k := by unfold Issue.setS; split <;> rfl
@[simp] theorem Issue.setS_kP (t : Issue) (d : BitVec 6) (x : DWord) : (t.setS d x).kP = t.kP := by unfold Issue.setS; split <;> rfl
@[simp] theorem Issue.setS_m (t : Issue) (d : BitVec 6) (x : DWord) : (t.setS d x).m = t.m := by unfold Issue.setS; split <;> rfl
@[simp] theorem Issue.setS_vr (t : Issue) (d : BitVec 6) (x : DWord) : (t.setS d x).vr = t.vr := by unfold Issue.setS; split <;> rfl
@[simp] theorem Issue.setS_vP (t : Issue) (d : BitVec 6) (x : DWord) : (t.setS d x).vP = t.vP := by unfold Issue.setS; split <;> rfl
@[simp] theorem Issue.setS_vl (t : Issue) (d : BitVec 6) (x : DWord) : (t.setS d x).vl = t.vl := by unfold Issue.setS; split <;> rfl
@[simp] theorem Issue.setS_wp (t : Issue) (d : BitVec 6) (x : DWord) : (t.setS d x).wp = t.wp := by unfold Issue.setS; split <;> rfl
@[simp] theorem Issue.setS_qn (t : Issue) (d : BitVec 6) (x : DWord) : (t.setS d x).qn = t.qn := by unfold Issue.setS; split <;> rfl
@[simp] theorem Issue.setS_win (t : Issue) (d : BitVec 6) (x : DWord) : (t.setS d x).win = t.win := by unfold Issue.setS; split <;> rfl
@[simp] theorem Issue.setS_cst (t : Issue) (d : BitVec 6) (x : DWord) : (t.setS d x).cst = t.cst := by unfold Issue.setS; split <;> rfl
@[simp] theorem Issue.setS_dA (t : Issue) (d : BitVec 6) (x : DWord) : (t.setS d x).dA = t.dA := by unfold Issue.setS; split <;> rfl
@[simp] theorem Issue.setS_dV (t : Issue) (d : BitVec 6) (x : DWord) : (t.setS d x).dV = t.dV := by unfold Issue.setS; split <;> rfl
@[simp] theorem Issue.setS_oqa (t : Issue) (d : BitVec 6) (x : DWord) : (t.setS d x).oqa = t.oqa := by unfold Issue.setS; split <;> rfl
@[simp] theorem Issue.setS_oqv (t : Issue) (d : BitVec 6) (x : DWord) : (t.setS d x).oqv = t.oqv := by unfold Issue.setS; split <;> rfl
@[simp] theorem Issue.setS_ca (t : Issue) (d : BitVec 6) (x : DWord) : (t.setS d x).ca = t.ca := by unfold Issue.setS; split <;> rfl
@[simp] theorem Issue.setS_cv (t : Issue) (d : BitVec 6) (x : DWord) : (t.setS d x).cv = t.cv := by unfold Issue.setS; split <;> rfl
@[simp] theorem Issue.setS_av (t : Issue) (d : BitVec 6) (x : DWord) : (t.setS d x).av = t.av := by unfold Issue.setS; split <;> rfl
@[simp] theorem Issue.setS_va (t : Issue) (d : BitVec 6) (x : DWord) : (t.setS d x).va = t.va := by unfold Issue.setS; split <;> rfl
@[simp] theorem Issue.setS_ac (t : Issue) (d : BitVec 6) (x : DWord) : (t.setS d x).ac = t.ac := by unfold Issue.setS; split <;> rfl
@[simp] theorem Issue.setS_vc (t : Issue) (d : BitVec 6) (x : DWord) : (t.setS d x).vc = t.vc := by unfold Issue.setS; split <;> rfl
@[simp] theorem Issue.setS_lq0 (t : Issue) (d : BitVec 6) (x : DWord) : (t.setS d x).lq0 = t.lq0 := by unfold Issue.setS; split <;> rfl
@[simp] theorem Issue.setS_lq1 (t : Issue) (d : BitVec 6) (x : DWord) : (t.setS d x).lq1 = t.lq1 := by unfold Issue.setS; split <;> rfl
@[simp] theorem Issue.setS_sq0 (t : Issue) (d : BitVec 6) (x : DWord) : (t.setS d x).sq0 = t.sq0 := by unfold Issue.setS; split <;> rfl
@[simp] theorem Issue.setS_sq1 (t : Issue) (d : BitVec 6) (x : DWord) : (t.setS d x).sq1 = t.sq1 := by unfold Issue.setS; split <;> rfl
@[simp] theorem Issue.setS_slipw (t : Issue) (d : BitVec 6) (x : DWord) : (t.setS d x).slipw = t.slipw := by unfold Issue.setS; split <;> rfl
@[simp] theorem Issue.setS_fpctl (t : Issue) (d : BitVec 6) (x : DWord) : (t.setS d x).fpctl = t.fpctl := by unfold Issue.setS; split <;> rfl
@[simp] theorem Issue.setS_srseed (t : Issue) (d : BitVec 6) (x : DWord) : (t.setS d x).srseed = t.srseed := by unfold Issue.setS; split <;> rfl
@[simp] theorem Issue.setS_remt (t : Issue) (d : BitVec 6) (x : DWord) : (t.setS d x).remt = t.remt := by unfold Issue.setS; split <;> rfl
@[simp] theorem Issue.setS_mbox (t : Issue) (d : BitVec 6) (x : DWord) : (t.setS d x).mbox = t.mbox := by unfold Issue.setS; split <;> rfl
@[simp] theorem Issue.setS_watch (t : Issue) (d : BitVec 6) (x : DWord) : (t.setS d x).watch = t.watch := by unfold Issue.setS; split <;> rfl
@[simp] theorem Issue.setS_waitFrom (t : Issue) (d : BitVec 6) (x : DWord) : (t.setS d x).waitFrom = t.waitFrom := by unfold Issue.setS; split <;> rfl
@[simp] theorem Issue.setS_vret (t : Issue) (d : BitVec 6) (x : DWord) : (t.setS d x).vret = t.vret := by unfold Issue.setS; split <;> rfl
@[simp] theorem Issue.setS_pfs (t : Issue) (d : BitVec 6) (x : DWord) : (t.setS d x).pfs = t.pfs := by unfold Issue.setS; split <;> rfl
@[simp] theorem Issue.setS_cmd (t : Issue) (d : BitVec 6) (x : DWord) : (t.setS d x).cmd = t.cmd := by unfold Issue.setS; split <;> rfl
@[simp] theorem Issue.setA_c (t : Issue) (d : BitVec 5) (x : DWord) (p : Bool) : (t.setA d x p).c = t.c := by unfold Issue.setA; split <;> rfl
@[simp] theorem Issue.setA_a (t : Issue) (d : BitVec 5) (x : DWord) (p : Bool) : (t.setA d x p).a = t.a := by unfold Issue.setA; split <;> rfl
@[simp] theorem Issue.setA_v (t : Issue) (d : BitVec 5) (x : DWord) (p : Bool) : (t.setA d x p).v = t.v := by unfold Issue.setA; split <;> rfl
@[simp] theorem Issue.setA_s (t : Issue) (d : BitVec 5) (x : DWord) (p : Bool) : (t.setA d x p).s = t.s := by unfold Issue.setA; split <;> rfl
@[simp] theorem Issue.setA_k (t : Issue) (d : BitVec 5) (x : DWord) (p : Bool) : (t.setA d x p).k = t.k := by unfold Issue.setA; split <;> rfl
@[simp] theorem Issue.setA_kP (t : Issue) (d : BitVec 5) (x : DWord) (p : Bool) : (t.setA d x p).kP = t.kP := by unfold Issue.setA; split <;> rfl
@[simp] theorem Issue.setA_m (t : Issue) (d : BitVec 5) (x : DWord) (p : Bool) : (t.setA d x p).m = t.m := by unfold Issue.setA; split <;> rfl
@[simp] theorem Issue.setA_vr (t : Issue) (d : BitVec 5) (x : DWord) (p : Bool) : (t.setA d x p).vr = t.vr := by unfold Issue.setA; split <;> rfl
@[simp] theorem Issue.setA_vP (t : Issue) (d : BitVec 5) (x : DWord) (p : Bool) : (t.setA d x p).vP = t.vP := by unfold Issue.setA; split <;> rfl
@[simp] theorem Issue.setA_vl (t : Issue) (d : BitVec 5) (x : DWord) (p : Bool) : (t.setA d x p).vl = t.vl := by unfold Issue.setA; split <;> rfl
@[simp] theorem Issue.setA_wp (t : Issue) (d : BitVec 5) (x : DWord) (p : Bool) : (t.setA d x p).wp = t.wp := by unfold Issue.setA; split <;> rfl
@[simp] theorem Issue.setA_qn (t : Issue) (d : BitVec 5) (x : DWord) (p : Bool) : (t.setA d x p).qn = t.qn := by unfold Issue.setA; split <;> rfl
@[simp] theorem Issue.setA_win (t : Issue) (d : BitVec 5) (x : DWord) (p : Bool) : (t.setA d x p).win = t.win := by unfold Issue.setA; split <;> rfl
@[simp] theorem Issue.setA_cst (t : Issue) (d : BitVec 5) (x : DWord) (p : Bool) : (t.setA d x p).cst = t.cst := by unfold Issue.setA; split <;> rfl
@[simp] theorem Issue.setA_dA (t : Issue) (d : BitVec 5) (x : DWord) (p : Bool) : (t.setA d x p).dA = t.dA := by unfold Issue.setA; split <;> rfl
@[simp] theorem Issue.setA_dV (t : Issue) (d : BitVec 5) (x : DWord) (p : Bool) : (t.setA d x p).dV = t.dV := by unfold Issue.setA; split <;> rfl
@[simp] theorem Issue.setA_oqa (t : Issue) (d : BitVec 5) (x : DWord) (p : Bool) : (t.setA d x p).oqa = t.oqa := by unfold Issue.setA; split <;> rfl
@[simp] theorem Issue.setA_oqv (t : Issue) (d : BitVec 5) (x : DWord) (p : Bool) : (t.setA d x p).oqv = t.oqv := by unfold Issue.setA; split <;> rfl
@[simp] theorem Issue.setA_ca (t : Issue) (d : BitVec 5) (x : DWord) (p : Bool) : (t.setA d x p).ca = t.ca := by unfold Issue.setA; split <;> rfl
@[simp] theorem Issue.setA_cv (t : Issue) (d : BitVec 5) (x : DWord) (p : Bool) : (t.setA d x p).cv = t.cv := by unfold Issue.setA; split <;> rfl
@[simp] theorem Issue.setA_av (t : Issue) (d : BitVec 5) (x : DWord) (p : Bool) : (t.setA d x p).av = t.av := by unfold Issue.setA; split <;> rfl
@[simp] theorem Issue.setA_va (t : Issue) (d : BitVec 5) (x : DWord) (p : Bool) : (t.setA d x p).va = t.va := by unfold Issue.setA; split <;> rfl
@[simp] theorem Issue.setA_ac (t : Issue) (d : BitVec 5) (x : DWord) (p : Bool) : (t.setA d x p).ac = t.ac := by unfold Issue.setA; split <;> rfl
@[simp] theorem Issue.setA_vc (t : Issue) (d : BitVec 5) (x : DWord) (p : Bool) : (t.setA d x p).vc = t.vc := by unfold Issue.setA; split <;> rfl
@[simp] theorem Issue.setA_lq0 (t : Issue) (d : BitVec 5) (x : DWord) (p : Bool) : (t.setA d x p).lq0 = t.lq0 := by unfold Issue.setA; split <;> rfl
@[simp] theorem Issue.setA_lq1 (t : Issue) (d : BitVec 5) (x : DWord) (p : Bool) : (t.setA d x p).lq1 = t.lq1 := by unfold Issue.setA; split <;> rfl
@[simp] theorem Issue.setA_sq0 (t : Issue) (d : BitVec 5) (x : DWord) (p : Bool) : (t.setA d x p).sq0 = t.sq0 := by unfold Issue.setA; split <;> rfl
@[simp] theorem Issue.setA_sq1 (t : Issue) (d : BitVec 5) (x : DWord) (p : Bool) : (t.setA d x p).sq1 = t.sq1 := by unfold Issue.setA; split <;> rfl
@[simp] theorem Issue.setA_slipw (t : Issue) (d : BitVec 5) (x : DWord) (p : Bool) : (t.setA d x p).slipw = t.slipw := by unfold Issue.setA; split <;> rfl
@[simp] theorem Issue.setA_fpctl (t : Issue) (d : BitVec 5) (x : DWord) (p : Bool) : (t.setA d x p).fpctl = t.fpctl := by unfold Issue.setA; split <;> rfl
@[simp] theorem Issue.setA_srseed (t : Issue) (d : BitVec 5) (x : DWord) (p : Bool) : (t.setA d x p).srseed = t.srseed := by unfold Issue.setA; split <;> rfl
@[simp] theorem Issue.setA_remt (t : Issue) (d : BitVec 5) (x : DWord) (p : Bool) : (t.setA d x p).remt = t.remt := by unfold Issue.setA; split <;> rfl
@[simp] theorem Issue.setA_mbox (t : Issue) (d : BitVec 5) (x : DWord) (p : Bool) : (t.setA d x p).mbox = t.mbox := by unfold Issue.setA; split <;> rfl
@[simp] theorem Issue.setA_watch (t : Issue) (d : BitVec 5) (x : DWord) (p : Bool) : (t.setA d x p).watch = t.watch := by unfold Issue.setA; split <;> rfl
@[simp] theorem Issue.setA_waitFrom (t : Issue) (d : BitVec 5) (x : DWord) (p : Bool) : (t.setA d x p).waitFrom = t.waitFrom := by unfold Issue.setA; split <;> rfl
@[simp] theorem Issue.setA_vret (t : Issue) (d : BitVec 5) (x : DWord) (p : Bool) : (t.setA d x p).vret = t.vret := by unfold Issue.setA; split <;> rfl
@[simp] theorem Issue.setA_pfs (t : Issue) (d : BitVec 5) (x : DWord) (p : Bool) : (t.setA d x p).pfs = t.pfs := by unfold Issue.setA; split <;> rfl
@[simp] theorem Issue.setA_cmd (t : Issue) (d : BitVec 5) (x : DWord) (p : Bool) : (t.setA d x p).cmd = t.cmd := by unfold Issue.setA; split <;> rfl
@[simp] theorem Issue.setK_c (t : Issue) (d : Nat) (x : DWord) (p : Bool) : (t.setK d x p).c = t.c := rfl
@[simp] theorem Issue.setK_a (t : Issue) (d : Nat) (x : DWord) (p : Bool) : (t.setK d x p).a = t.a := rfl
@[simp] theorem Issue.setK_v (t : Issue) (d : Nat) (x : DWord) (p : Bool) : (t.setK d x p).v = t.v := rfl
@[simp] theorem Issue.setK_s (t : Issue) (d : Nat) (x : DWord) (p : Bool) : (t.setK d x p).s = t.s := rfl
@[simp] theorem Issue.setK_ar (t : Issue) (d : Nat) (x : DWord) (p : Bool) : (t.setK d x p).ar = t.ar := rfl
@[simp] theorem Issue.setK_aP (t : Issue) (d : Nat) (x : DWord) (p : Bool) : (t.setK d x p).aP = t.aP := rfl
@[simp] theorem Issue.setK_m (t : Issue) (d : Nat) (x : DWord) (p : Bool) : (t.setK d x p).m = t.m := rfl
@[simp] theorem Issue.setK_vr (t : Issue) (d : Nat) (x : DWord) (p : Bool) : (t.setK d x p).vr = t.vr := rfl
@[simp] theorem Issue.setK_vP (t : Issue) (d : Nat) (x : DWord) (p : Bool) : (t.setK d x p).vP = t.vP := rfl
@[simp] theorem Issue.setK_vl (t : Issue) (d : Nat) (x : DWord) (p : Bool) : (t.setK d x p).vl = t.vl := rfl
@[simp] theorem Issue.setK_wp (t : Issue) (d : Nat) (x : DWord) (p : Bool) : (t.setK d x p).wp = t.wp := rfl
@[simp] theorem Issue.setK_qn (t : Issue) (d : Nat) (x : DWord) (p : Bool) : (t.setK d x p).qn = t.qn := rfl
@[simp] theorem Issue.setK_win (t : Issue) (d : Nat) (x : DWord) (p : Bool) : (t.setK d x p).win = t.win := rfl
@[simp] theorem Issue.setK_cst (t : Issue) (d : Nat) (x : DWord) (p : Bool) : (t.setK d x p).cst = t.cst := rfl
@[simp] theorem Issue.setK_dA (t : Issue) (d : Nat) (x : DWord) (p : Bool) : (t.setK d x p).dA = t.dA := rfl
@[simp] theorem Issue.setK_dV (t : Issue) (d : Nat) (x : DWord) (p : Bool) : (t.setK d x p).dV = t.dV := rfl
@[simp] theorem Issue.setK_oqa (t : Issue) (d : Nat) (x : DWord) (p : Bool) : (t.setK d x p).oqa = t.oqa := rfl
@[simp] theorem Issue.setK_oqv (t : Issue) (d : Nat) (x : DWord) (p : Bool) : (t.setK d x p).oqv = t.oqv := rfl
@[simp] theorem Issue.setK_ca (t : Issue) (d : Nat) (x : DWord) (p : Bool) : (t.setK d x p).ca = t.ca := rfl
@[simp] theorem Issue.setK_cv (t : Issue) (d : Nat) (x : DWord) (p : Bool) : (t.setK d x p).cv = t.cv := rfl
@[simp] theorem Issue.setK_av (t : Issue) (d : Nat) (x : DWord) (p : Bool) : (t.setK d x p).av = t.av := rfl
@[simp] theorem Issue.setK_va (t : Issue) (d : Nat) (x : DWord) (p : Bool) : (t.setK d x p).va = t.va := rfl
@[simp] theorem Issue.setK_ac (t : Issue) (d : Nat) (x : DWord) (p : Bool) : (t.setK d x p).ac = t.ac := rfl
@[simp] theorem Issue.setK_vc (t : Issue) (d : Nat) (x : DWord) (p : Bool) : (t.setK d x p).vc = t.vc := rfl
@[simp] theorem Issue.setK_lq0 (t : Issue) (d : Nat) (x : DWord) (p : Bool) : (t.setK d x p).lq0 = t.lq0 := rfl
@[simp] theorem Issue.setK_lq1 (t : Issue) (d : Nat) (x : DWord) (p : Bool) : (t.setK d x p).lq1 = t.lq1 := rfl
@[simp] theorem Issue.setK_sq0 (t : Issue) (d : Nat) (x : DWord) (p : Bool) : (t.setK d x p).sq0 = t.sq0 := rfl
@[simp] theorem Issue.setK_sq1 (t : Issue) (d : Nat) (x : DWord) (p : Bool) : (t.setK d x p).sq1 = t.sq1 := rfl
@[simp] theorem Issue.setK_slipw (t : Issue) (d : Nat) (x : DWord) (p : Bool) : (t.setK d x p).slipw = t.slipw := rfl
@[simp] theorem Issue.setK_fpctl (t : Issue) (d : Nat) (x : DWord) (p : Bool) : (t.setK d x p).fpctl = t.fpctl := rfl
@[simp] theorem Issue.setK_srseed (t : Issue) (d : Nat) (x : DWord) (p : Bool) : (t.setK d x p).srseed = t.srseed := rfl
@[simp] theorem Issue.setK_remt (t : Issue) (d : Nat) (x : DWord) (p : Bool) : (t.setK d x p).remt = t.remt := rfl
@[simp] theorem Issue.setK_mbox (t : Issue) (d : Nat) (x : DWord) (p : Bool) : (t.setK d x p).mbox = t.mbox := rfl
@[simp] theorem Issue.setK_watch (t : Issue) (d : Nat) (x : DWord) (p : Bool) : (t.setK d x p).watch = t.watch := rfl
@[simp] theorem Issue.setK_waitFrom (t : Issue) (d : Nat) (x : DWord) (p : Bool) : (t.setK d x p).waitFrom = t.waitFrom := rfl
@[simp] theorem Issue.setK_vret (t : Issue) (d : Nat) (x : DWord) (p : Bool) : (t.setK d x p).vret = t.vret := rfl
@[simp] theorem Issue.setK_pfs (t : Issue) (d : Nat) (x : DWord) (p : Bool) : (t.setK d x p).pfs = t.pfs := rfl
@[simp] theorem Issue.setK_cmd (t : Issue) (d : Nat) (x : DWord) (p : Bool) : (t.setK d x p).cmd = t.cmd := rfl
@[simp] theorem Issue.setM_c (t : Issue) (d : Nat) (x : LaneMask) : (t.setM d x).c = t.c := rfl
@[simp] theorem Issue.setM_a (t : Issue) (d : Nat) (x : LaneMask) : (t.setM d x).a = t.a := rfl
@[simp] theorem Issue.setM_v (t : Issue) (d : Nat) (x : LaneMask) : (t.setM d x).v = t.v := rfl
@[simp] theorem Issue.setM_s (t : Issue) (d : Nat) (x : LaneMask) : (t.setM d x).s = t.s := rfl
@[simp] theorem Issue.setM_ar (t : Issue) (d : Nat) (x : LaneMask) : (t.setM d x).ar = t.ar := rfl
@[simp] theorem Issue.setM_aP (t : Issue) (d : Nat) (x : LaneMask) : (t.setM d x).aP = t.aP := rfl
@[simp] theorem Issue.setM_k (t : Issue) (d : Nat) (x : LaneMask) : (t.setM d x).k = t.k := rfl
@[simp] theorem Issue.setM_kP (t : Issue) (d : Nat) (x : LaneMask) : (t.setM d x).kP = t.kP := rfl
@[simp] theorem Issue.setM_vr (t : Issue) (d : Nat) (x : LaneMask) : (t.setM d x).vr = t.vr := rfl
@[simp] theorem Issue.setM_vP (t : Issue) (d : Nat) (x : LaneMask) : (t.setM d x).vP = t.vP := rfl
@[simp] theorem Issue.setM_vl (t : Issue) (d : Nat) (x : LaneMask) : (t.setM d x).vl = t.vl := rfl
@[simp] theorem Issue.setM_wp (t : Issue) (d : Nat) (x : LaneMask) : (t.setM d x).wp = t.wp := rfl
@[simp] theorem Issue.setM_qn (t : Issue) (d : Nat) (x : LaneMask) : (t.setM d x).qn = t.qn := rfl
@[simp] theorem Issue.setM_win (t : Issue) (d : Nat) (x : LaneMask) : (t.setM d x).win = t.win := rfl
@[simp] theorem Issue.setM_cst (t : Issue) (d : Nat) (x : LaneMask) : (t.setM d x).cst = t.cst := rfl
@[simp] theorem Issue.setM_dA (t : Issue) (d : Nat) (x : LaneMask) : (t.setM d x).dA = t.dA := rfl
@[simp] theorem Issue.setM_dV (t : Issue) (d : Nat) (x : LaneMask) : (t.setM d x).dV = t.dV := rfl
@[simp] theorem Issue.setM_oqa (t : Issue) (d : Nat) (x : LaneMask) : (t.setM d x).oqa = t.oqa := rfl
@[simp] theorem Issue.setM_oqv (t : Issue) (d : Nat) (x : LaneMask) : (t.setM d x).oqv = t.oqv := rfl
@[simp] theorem Issue.setM_ca (t : Issue) (d : Nat) (x : LaneMask) : (t.setM d x).ca = t.ca := rfl
@[simp] theorem Issue.setM_cv (t : Issue) (d : Nat) (x : LaneMask) : (t.setM d x).cv = t.cv := rfl
@[simp] theorem Issue.setM_av (t : Issue) (d : Nat) (x : LaneMask) : (t.setM d x).av = t.av := rfl
@[simp] theorem Issue.setM_va (t : Issue) (d : Nat) (x : LaneMask) : (t.setM d x).va = t.va := rfl
@[simp] theorem Issue.setM_ac (t : Issue) (d : Nat) (x : LaneMask) : (t.setM d x).ac = t.ac := rfl
@[simp] theorem Issue.setM_vc (t : Issue) (d : Nat) (x : LaneMask) : (t.setM d x).vc = t.vc := rfl
@[simp] theorem Issue.setM_lq0 (t : Issue) (d : Nat) (x : LaneMask) : (t.setM d x).lq0 = t.lq0 := rfl
@[simp] theorem Issue.setM_lq1 (t : Issue) (d : Nat) (x : LaneMask) : (t.setM d x).lq1 = t.lq1 := rfl
@[simp] theorem Issue.setM_sq0 (t : Issue) (d : Nat) (x : LaneMask) : (t.setM d x).sq0 = t.sq0 := rfl
@[simp] theorem Issue.setM_sq1 (t : Issue) (d : Nat) (x : LaneMask) : (t.setM d x).sq1 = t.sq1 := rfl
@[simp] theorem Issue.setM_slipw (t : Issue) (d : Nat) (x : LaneMask) : (t.setM d x).slipw = t.slipw := rfl
@[simp] theorem Issue.setM_fpctl (t : Issue) (d : Nat) (x : LaneMask) : (t.setM d x).fpctl = t.fpctl := rfl
@[simp] theorem Issue.setM_srseed (t : Issue) (d : Nat) (x : LaneMask) : (t.setM d x).srseed = t.srseed := rfl
@[simp] theorem Issue.setM_remt (t : Issue) (d : Nat) (x : LaneMask) : (t.setM d x).remt = t.remt := rfl
@[simp] theorem Issue.setM_mbox (t : Issue) (d : Nat) (x : LaneMask) : (t.setM d x).mbox = t.mbox := rfl
@[simp] theorem Issue.setM_watch (t : Issue) (d : Nat) (x : LaneMask) : (t.setM d x).watch = t.watch := rfl
@[simp] theorem Issue.setM_waitFrom (t : Issue) (d : Nat) (x : LaneMask) : (t.setM d x).waitFrom = t.waitFrom := rfl
@[simp] theorem Issue.setM_vret (t : Issue) (d : Nat) (x : LaneMask) : (t.setM d x).vret = t.vret := rfl
@[simp] theorem Issue.setM_pfs (t : Issue) (d : Nat) (x : LaneMask) : (t.setM d x).pfs = t.pfs := rfl
@[simp] theorem Issue.setM_cmd (t : Issue) (d : Nat) (x : LaneMask) : (t.setM d x).cmd = t.cmd := rfl
@[simp] theorem Issue.setV_c (t : Issue) (d : Nat) (x : VWord) (p : LaneMask) : (t.setV d x p).c = t.c := rfl
@[simp] theorem Issue.setV_a (t : Issue) (d : Nat) (x : VWord) (p : LaneMask) : (t.setV d x p).a = t.a := rfl
@[simp] theorem Issue.setV_v (t : Issue) (d : Nat) (x : VWord) (p : LaneMask) : (t.setV d x p).v = t.v := rfl
@[simp] theorem Issue.setV_s (t : Issue) (d : Nat) (x : VWord) (p : LaneMask) : (t.setV d x p).s = t.s := rfl
@[simp] theorem Issue.setV_ar (t : Issue) (d : Nat) (x : VWord) (p : LaneMask) : (t.setV d x p).ar = t.ar := rfl
@[simp] theorem Issue.setV_aP (t : Issue) (d : Nat) (x : VWord) (p : LaneMask) : (t.setV d x p).aP = t.aP := rfl
@[simp] theorem Issue.setV_k (t : Issue) (d : Nat) (x : VWord) (p : LaneMask) : (t.setV d x p).k = t.k := rfl
@[simp] theorem Issue.setV_kP (t : Issue) (d : Nat) (x : VWord) (p : LaneMask) : (t.setV d x p).kP = t.kP := rfl
@[simp] theorem Issue.setV_m (t : Issue) (d : Nat) (x : VWord) (p : LaneMask) : (t.setV d x p).m = t.m := rfl
@[simp] theorem Issue.setV_vl (t : Issue) (d : Nat) (x : VWord) (p : LaneMask) : (t.setV d x p).vl = t.vl := rfl
@[simp] theorem Issue.setV_wp (t : Issue) (d : Nat) (x : VWord) (p : LaneMask) : (t.setV d x p).wp = t.wp := rfl
@[simp] theorem Issue.setV_qn (t : Issue) (d : Nat) (x : VWord) (p : LaneMask) : (t.setV d x p).qn = t.qn := rfl
@[simp] theorem Issue.setV_win (t : Issue) (d : Nat) (x : VWord) (p : LaneMask) : (t.setV d x p).win = t.win := rfl
@[simp] theorem Issue.setV_cst (t : Issue) (d : Nat) (x : VWord) (p : LaneMask) : (t.setV d x p).cst = t.cst := rfl
@[simp] theorem Issue.setV_dA (t : Issue) (d : Nat) (x : VWord) (p : LaneMask) : (t.setV d x p).dA = t.dA := rfl
@[simp] theorem Issue.setV_dV (t : Issue) (d : Nat) (x : VWord) (p : LaneMask) : (t.setV d x p).dV = t.dV := rfl
@[simp] theorem Issue.setV_oqa (t : Issue) (d : Nat) (x : VWord) (p : LaneMask) : (t.setV d x p).oqa = t.oqa := rfl
@[simp] theorem Issue.setV_oqv (t : Issue) (d : Nat) (x : VWord) (p : LaneMask) : (t.setV d x p).oqv = t.oqv := rfl
@[simp] theorem Issue.setV_ca (t : Issue) (d : Nat) (x : VWord) (p : LaneMask) : (t.setV d x p).ca = t.ca := rfl
@[simp] theorem Issue.setV_cv (t : Issue) (d : Nat) (x : VWord) (p : LaneMask) : (t.setV d x p).cv = t.cv := rfl
@[simp] theorem Issue.setV_av (t : Issue) (d : Nat) (x : VWord) (p : LaneMask) : (t.setV d x p).av = t.av := rfl
@[simp] theorem Issue.setV_va (t : Issue) (d : Nat) (x : VWord) (p : LaneMask) : (t.setV d x p).va = t.va := rfl
@[simp] theorem Issue.setV_ac (t : Issue) (d : Nat) (x : VWord) (p : LaneMask) : (t.setV d x p).ac = t.ac := rfl
@[simp] theorem Issue.setV_vc (t : Issue) (d : Nat) (x : VWord) (p : LaneMask) : (t.setV d x p).vc = t.vc := rfl
@[simp] theorem Issue.setV_lq0 (t : Issue) (d : Nat) (x : VWord) (p : LaneMask) : (t.setV d x p).lq0 = t.lq0 := rfl
@[simp] theorem Issue.setV_lq1 (t : Issue) (d : Nat) (x : VWord) (p : LaneMask) : (t.setV d x p).lq1 = t.lq1 := rfl
@[simp] theorem Issue.setV_sq0 (t : Issue) (d : Nat) (x : VWord) (p : LaneMask) : (t.setV d x p).sq0 = t.sq0 := rfl
@[simp] theorem Issue.setV_sq1 (t : Issue) (d : Nat) (x : VWord) (p : LaneMask) : (t.setV d x p).sq1 = t.sq1 := rfl
@[simp] theorem Issue.setV_slipw (t : Issue) (d : Nat) (x : VWord) (p : LaneMask) : (t.setV d x p).slipw = t.slipw := rfl
@[simp] theorem Issue.setV_fpctl (t : Issue) (d : Nat) (x : VWord) (p : LaneMask) : (t.setV d x p).fpctl = t.fpctl := rfl
@[simp] theorem Issue.setV_srseed (t : Issue) (d : Nat) (x : VWord) (p : LaneMask) : (t.setV d x p).srseed = t.srseed := rfl
@[simp] theorem Issue.setV_remt (t : Issue) (d : Nat) (x : VWord) (p : LaneMask) : (t.setV d x p).remt = t.remt := rfl
@[simp] theorem Issue.setV_mbox (t : Issue) (d : Nat) (x : VWord) (p : LaneMask) : (t.setV d x p).mbox = t.mbox := rfl
@[simp] theorem Issue.setV_watch (t : Issue) (d : Nat) (x : VWord) (p : LaneMask) : (t.setV d x p).watch = t.watch := rfl
@[simp] theorem Issue.setV_waitFrom (t : Issue) (d : Nat) (x : VWord) (p : LaneMask) : (t.setV d x p).waitFrom = t.waitFrom := rfl
@[simp] theorem Issue.setV_vret (t : Issue) (d : Nat) (x : VWord) (p : LaneMask) : (t.setV d x p).vret = t.vret := rfl
@[simp] theorem Issue.setV_pfs (t : Issue) (d : Nat) (x : VWord) (p : LaneMask) : (t.setV d x p).pfs = t.pfs := rfl
@[simp] theorem Issue.setV_cmd (t : Issue) (d : Nat) (x : VWord) (p : LaneMask) : (t.setV d x p).cmd = t.cmd := rfl
@[simp] theorem Issue.setEng_s (t : Issue) (e : Engine) (x : Eng) : (t.setEng e x).s = t.s := by cases e <;> rfl
@[simp] theorem Issue.setEng_ar (t : Issue) (e : Engine) (x : Eng) : (t.setEng e x).ar = t.ar := by cases e <;> rfl
@[simp] theorem Issue.setEng_aP (t : Issue) (e : Engine) (x : Eng) : (t.setEng e x).aP = t.aP := by cases e <;> rfl
@[simp] theorem Issue.setEng_k (t : Issue) (e : Engine) (x : Eng) : (t.setEng e x).k = t.k := by cases e <;> rfl
@[simp] theorem Issue.setEng_kP (t : Issue) (e : Engine) (x : Eng) : (t.setEng e x).kP = t.kP := by cases e <;> rfl
@[simp] theorem Issue.setEng_m (t : Issue) (e : Engine) (x : Eng) : (t.setEng e x).m = t.m := by cases e <;> rfl
@[simp] theorem Issue.setEng_vr (t : Issue) (e : Engine) (x : Eng) : (t.setEng e x).vr = t.vr := by cases e <;> rfl
@[simp] theorem Issue.setEng_vP (t : Issue) (e : Engine) (x : Eng) : (t.setEng e x).vP = t.vP := by cases e <;> rfl
@[simp] theorem Issue.setEng_vl (t : Issue) (e : Engine) (x : Eng) : (t.setEng e x).vl = t.vl := by cases e <;> rfl
@[simp] theorem Issue.setEng_wp (t : Issue) (e : Engine) (x : Eng) : (t.setEng e x).wp = t.wp := by cases e <;> rfl
@[simp] theorem Issue.setEng_qn (t : Issue) (e : Engine) (x : Eng) : (t.setEng e x).qn = t.qn := by cases e <;> rfl
@[simp] theorem Issue.setEng_win (t : Issue) (e : Engine) (x : Eng) : (t.setEng e x).win = t.win := by cases e <;> rfl
@[simp] theorem Issue.setEng_cst (t : Issue) (e : Engine) (x : Eng) : (t.setEng e x).cst = t.cst := by cases e <;> rfl
@[simp] theorem Issue.setEng_dA (t : Issue) (e : Engine) (x : Eng) : (t.setEng e x).dA = t.dA := by cases e <;> rfl
@[simp] theorem Issue.setEng_dV (t : Issue) (e : Engine) (x : Eng) : (t.setEng e x).dV = t.dV := by cases e <;> rfl
@[simp] theorem Issue.setEng_oqa (t : Issue) (e : Engine) (x : Eng) : (t.setEng e x).oqa = t.oqa := by cases e <;> rfl
@[simp] theorem Issue.setEng_oqv (t : Issue) (e : Engine) (x : Eng) : (t.setEng e x).oqv = t.oqv := by cases e <;> rfl
@[simp] theorem Issue.setEng_ca (t : Issue) (e : Engine) (x : Eng) : (t.setEng e x).ca = t.ca := by cases e <;> rfl
@[simp] theorem Issue.setEng_cv (t : Issue) (e : Engine) (x : Eng) : (t.setEng e x).cv = t.cv := by cases e <;> rfl
@[simp] theorem Issue.setEng_av (t : Issue) (e : Engine) (x : Eng) : (t.setEng e x).av = t.av := by cases e <;> rfl
@[simp] theorem Issue.setEng_va (t : Issue) (e : Engine) (x : Eng) : (t.setEng e x).va = t.va := by cases e <;> rfl
@[simp] theorem Issue.setEng_ac (t : Issue) (e : Engine) (x : Eng) : (t.setEng e x).ac = t.ac := by cases e <;> rfl
@[simp] theorem Issue.setEng_vc (t : Issue) (e : Engine) (x : Eng) : (t.setEng e x).vc = t.vc := by cases e <;> rfl
@[simp] theorem Issue.setEng_lq0 (t : Issue) (e : Engine) (x : Eng) : (t.setEng e x).lq0 = t.lq0 := by cases e <;> rfl
@[simp] theorem Issue.setEng_lq1 (t : Issue) (e : Engine) (x : Eng) : (t.setEng e x).lq1 = t.lq1 := by cases e <;> rfl
@[simp] theorem Issue.setEng_sq0 (t : Issue) (e : Engine) (x : Eng) : (t.setEng e x).sq0 = t.sq0 := by cases e <;> rfl
@[simp] theorem Issue.setEng_sq1 (t : Issue) (e : Engine) (x : Eng) : (t.setEng e x).sq1 = t.sq1 := by cases e <;> rfl
@[simp] theorem Issue.setEng_slipw (t : Issue) (e : Engine) (x : Eng) : (t.setEng e x).slipw = t.slipw := by cases e <;> rfl
@[simp] theorem Issue.setEng_fpctl (t : Issue) (e : Engine) (x : Eng) : (t.setEng e x).fpctl = t.fpctl := by cases e <;> rfl
@[simp] theorem Issue.setEng_srseed (t : Issue) (e : Engine) (x : Eng) : (t.setEng e x).srseed = t.srseed := by cases e <;> rfl
@[simp] theorem Issue.setEng_remt (t : Issue) (e : Engine) (x : Eng) : (t.setEng e x).remt = t.remt := by cases e <;> rfl
@[simp] theorem Issue.setEng_mbox (t : Issue) (e : Engine) (x : Eng) : (t.setEng e x).mbox = t.mbox := by cases e <;> rfl
@[simp] theorem Issue.setEng_watch (t : Issue) (e : Engine) (x : Eng) : (t.setEng e x).watch = t.watch := by cases e <;> rfl
@[simp] theorem Issue.setEng_waitFrom (t : Issue) (e : Engine) (x : Eng) : (t.setEng e x).waitFrom = t.waitFrom := by cases e <;> rfl
@[simp] theorem Issue.setEng_vret (t : Issue) (e : Engine) (x : Eng) : (t.setEng e x).vret = t.vret := by cases e <;> rfl
@[simp] theorem Issue.setEng_pfs (t : Issue) (e : Engine) (x : Eng) : (t.setEng e x).pfs = t.pfs := by cases e <;> rfl
@[simp] theorem Issue.setEng_cmd (t : Issue) (e : Engine) (x : Eng) : (t.setEng e x).cmd = t.cmd := by cases e <;> rfl
@[simp] theorem Issue.setFifo_c (t : Issue) (q : Fifo) (x : List FifoEnt) : (t.setFifo q x).c = t.c := by cases q <;> rfl
@[simp] theorem Issue.setFifo_a (t : Issue) (q : Fifo) (x : List FifoEnt) : (t.setFifo q x).a = t.a := by cases q <;> rfl
@[simp] theorem Issue.setFifo_v (t : Issue) (q : Fifo) (x : List FifoEnt) : (t.setFifo q x).v = t.v := by cases q <;> rfl
@[simp] theorem Issue.setFifo_s (t : Issue) (q : Fifo) (x : List FifoEnt) : (t.setFifo q x).s = t.s := by cases q <;> rfl
@[simp] theorem Issue.setFifo_ar (t : Issue) (q : Fifo) (x : List FifoEnt) : (t.setFifo q x).ar = t.ar := by cases q <;> rfl
@[simp] theorem Issue.setFifo_aP (t : Issue) (q : Fifo) (x : List FifoEnt) : (t.setFifo q x).aP = t.aP := by cases q <;> rfl
@[simp] theorem Issue.setFifo_k (t : Issue) (q : Fifo) (x : List FifoEnt) : (t.setFifo q x).k = t.k := by cases q <;> rfl
@[simp] theorem Issue.setFifo_kP (t : Issue) (q : Fifo) (x : List FifoEnt) : (t.setFifo q x).kP = t.kP := by cases q <;> rfl
@[simp] theorem Issue.setFifo_m (t : Issue) (q : Fifo) (x : List FifoEnt) : (t.setFifo q x).m = t.m := by cases q <;> rfl
@[simp] theorem Issue.setFifo_vr (t : Issue) (q : Fifo) (x : List FifoEnt) : (t.setFifo q x).vr = t.vr := by cases q <;> rfl
@[simp] theorem Issue.setFifo_vP (t : Issue) (q : Fifo) (x : List FifoEnt) : (t.setFifo q x).vP = t.vP := by cases q <;> rfl
@[simp] theorem Issue.setFifo_vl (t : Issue) (q : Fifo) (x : List FifoEnt) : (t.setFifo q x).vl = t.vl := by cases q <;> rfl
@[simp] theorem Issue.setFifo_wp (t : Issue) (q : Fifo) (x : List FifoEnt) : (t.setFifo q x).wp = t.wp := by cases q <;> rfl
@[simp] theorem Issue.setFifo_qn (t : Issue) (q : Fifo) (x : List FifoEnt) : (t.setFifo q x).qn = t.qn := by cases q <;> rfl
@[simp] theorem Issue.setFifo_win (t : Issue) (q : Fifo) (x : List FifoEnt) : (t.setFifo q x).win = t.win := by cases q <;> rfl
@[simp] theorem Issue.setFifo_cst (t : Issue) (q : Fifo) (x : List FifoEnt) : (t.setFifo q x).cst = t.cst := by cases q <;> rfl
@[simp] theorem Issue.setFifo_dA (t : Issue) (q : Fifo) (x : List FifoEnt) : (t.setFifo q x).dA = t.dA := by cases q <;> rfl
@[simp] theorem Issue.setFifo_dV (t : Issue) (q : Fifo) (x : List FifoEnt) : (t.setFifo q x).dV = t.dV := by cases q <;> rfl
@[simp] theorem Issue.setFifo_oqa (t : Issue) (q : Fifo) (x : List FifoEnt) : (t.setFifo q x).oqa = t.oqa := by cases q <;> rfl
@[simp] theorem Issue.setFifo_oqv (t : Issue) (q : Fifo) (x : List FifoEnt) : (t.setFifo q x).oqv = t.oqv := by cases q <;> rfl
@[simp] theorem Issue.setFifo_lq0 (t : Issue) (q : Fifo) (x : List FifoEnt) : (t.setFifo q x).lq0 = t.lq0 := by cases q <;> rfl
@[simp] theorem Issue.setFifo_lq1 (t : Issue) (q : Fifo) (x : List FifoEnt) : (t.setFifo q x).lq1 = t.lq1 := by cases q <;> rfl
@[simp] theorem Issue.setFifo_sq0 (t : Issue) (q : Fifo) (x : List FifoEnt) : (t.setFifo q x).sq0 = t.sq0 := by cases q <;> rfl
@[simp] theorem Issue.setFifo_sq1 (t : Issue) (q : Fifo) (x : List FifoEnt) : (t.setFifo q x).sq1 = t.sq1 := by cases q <;> rfl
@[simp] theorem Issue.setFifo_slipw (t : Issue) (q : Fifo) (x : List FifoEnt) : (t.setFifo q x).slipw = t.slipw := by cases q <;> rfl
@[simp] theorem Issue.setFifo_fpctl (t : Issue) (q : Fifo) (x : List FifoEnt) : (t.setFifo q x).fpctl = t.fpctl := by cases q <;> rfl
@[simp] theorem Issue.setFifo_srseed (t : Issue) (q : Fifo) (x : List FifoEnt) : (t.setFifo q x).srseed = t.srseed := by cases q <;> rfl
@[simp] theorem Issue.setFifo_remt (t : Issue) (q : Fifo) (x : List FifoEnt) : (t.setFifo q x).remt = t.remt := by cases q <;> rfl
@[simp] theorem Issue.setFifo_mbox (t : Issue) (q : Fifo) (x : List FifoEnt) : (t.setFifo q x).mbox = t.mbox := by cases q <;> rfl
@[simp] theorem Issue.setFifo_watch (t : Issue) (q : Fifo) (x : List FifoEnt) : (t.setFifo q x).watch = t.watch := by cases q <;> rfl
@[simp] theorem Issue.setFifo_waitFrom (t : Issue) (q : Fifo) (x : List FifoEnt) : (t.setFifo q x).waitFrom = t.waitFrom := by cases q <;> rfl
@[simp] theorem Issue.setFifo_vret (t : Issue) (q : Fifo) (x : List FifoEnt) : (t.setFifo q x).vret = t.vret := by cases q <;> rfl
@[simp] theorem Issue.setFifo_pfs (t : Issue) (q : Fifo) (x : List FifoEnt) : (t.setFifo q x).pfs = t.pfs := by cases q <;> rfl
@[simp] theorem Issue.setFifo_cmd (t : Issue) (q : Fifo) (x : List FifoEnt) : (t.setFifo q x).cmd = t.cmd := by cases q <;> rfl

/-! ### The architectural registers a task keeps -/

theorem Issue.sameRegs_refl (t : Issue) : t.sameRegs t := by simp [Issue.sameRegs]

theorem Issue.sameRegs_trans {t u v : Issue} (h : t.sameRegs u) (g : u.sameRegs v) : t.sameRegs v := by
  simp only [Issue.sameRegs] at *; simp [h, g]

theorem Issue.setEng_regs (t : Issue) (e : Engine) (x : Eng) : (t.setEng e x).sameRegs t := by simp [Issue.sameRegs]

theorem Issue.setFifo_regs (t : Issue) (q : Fifo) (x : List FifoEnt) : (t.setFifo q x).sameRegs t := by simp [Issue.sameRegs]

theorem Issue.tokPop_regs (t : Issue) (e : Engine) (tok : BitVec 4) : (t.tokPop e tok).sameRegs t := by
  unfold Issue.tokPop Issue.popFifo
  dsimp only
  split <;> split <;> simp [Issue.sameRegs]

theorem Issue.tokPush_regs (t : Issue) (e : Engine) (tok : BitVec 4) (x : FifoEnt) : (t.tokPush e tok x).sameRegs t := by
  unfold Issue.tokPush Issue.pushFifo
  dsimp only
  split <;> split <;> simp [Issue.sameRegs]

theorem Issue.point_regs (t : Issue) (e : Engine) : (t.point e).sameRegs t := by cases e <;> simp [Issue.point, Issue.sameRegs]

theorem Skillet.tryEdge_regs (x : Skillet) (e : Engine) : (x.tryEdge e).t.sameRegs x.t := by
  unfold Skillet.tryEdge
  split
  · exact Issue.sameRegs_refl _
  · dsimp only
    split
    · exact Issue.sameRegs_refl _
    · simp only [Skillet.onT_t]
      split
      · exact Issue.sameRegs_trans (Issue.point_regs ..) (Issue.setEng_regs ..)
      · exact Issue.setEng_regs ..

theorem Skillet.advance_regs (x : Skillet) (e : Engine) (n : Nat) : (x.advance e n).t.sameRegs x.t :=
  Issue.sameRegs_trans (Skillet.tryEdge_regs _ _) (Issue.setEng_regs ..)

theorem Skillet.stepped_regs (x : Skillet) (e : Engine) (i : DWord) : (x.stepped e i).t.sameRegs x.t := by
  unfold Skillet.stepped
  split
  · split
    · exact Issue.sameRegs_refl _
    · exact Issue.setEng_regs ..
  · exact Issue.sameRegs_refl _

theorem Issue.unstall_regs (t : Issue) : t.unstall.sameRegs t := by simp [Issue.unstall, Issue.sameRegs]

/-- Retirement leaves every register. -/
theorem State.retire_regs (s : State) (k : Nat) (e : Engine) (n : Nat) (tok : BitVec 4) :
    ((s.retire k e n tok).tk k).sameRegs (s.tk k) := by
  have h : ((s.updSk k (fun x =>
      (((x.onT (fun t => (t.tokPop e tok).tokPush e tok (.full 0))).advance e n).stepped e 0).unstall)).tk k).sameRegs (s.tk k) := by
    simp only [State.tk, State.sk_updSk_same, Skillet.unstall, Skillet.onT_t]
    refine Issue.sameRegs_trans (Issue.unstall_regs _) ?_
    refine Issue.sameRegs_trans (Skillet.stepped_regs ..) (Issue.sameRegs_trans (Skillet.advance_regs ..) ?_)
    exact Issue.sameRegs_trans (Issue.tokPush_regs ..) (Issue.tokPop_regs ..)
  unfold State.retire State.turnOver
  split
  · simpa [State.tk] using h
  · exact h

end Sys2Proof.Machine
end

