-- ==== Sys2Proof/Laws/Issue.lean ====
section
/-! SUPPORT. Issue and retirement of an instruction, said once: which state a word that acts leaves, and where its engine stands then
(01 R22, R23, 12 R295). -/

namespace Sys2Proof.Machine

open Sys2Proof

/-! ### Where the engine stands after a retirement -/

theorem Issue.eng_setFifo (t : Issue) (q : Fifo) (x : List FifoEnt) (e : Engine) : (t.setFifo q x).eng e = t.eng e := by
  cases q <;> cases e <;> rfl

theorem Issue.eng_tokPop (t : Issue) (e e' : Engine) (tok : BitVec 4) : (t.tokPop e tok).eng e' = t.eng e' := by
  unfold Issue.tokPop Issue.popFifo
  dsimp only
  split <;> split <;> simp [Issue.eng_setFifo]

theorem Issue.eng_tokPush (t : Issue) (e e' : Engine) (tok : BitVec 4) (x : FifoEnt) : (t.tokPush e tok x).eng e' = t.eng e' := by
  unfold Issue.tokPush Issue.pushFifo
  dsimp only
  split <;> split <;> simp [Issue.eng_setFifo]

theorem State.turnOver_tk (s : State) (k : Nat) (b : Bool) : (s.turnOver k b).tk k = s.tk k := by
  unfold State.turnOver
  split
  · simp [State.tk]
  · rfl

theorem Skillet.stepped_none (x : Skillet) (e : Engine) (i : DWord) (h : x.info.step = none) : x.stepped e i = x := by
  simp [Skillet.stepped, h]

/-- An engine that has just issued waits on nothing. -/
theorem Issue.eng_unstall (t : Issue) (e : Engine) (h : (t.eng e).stall = none) : t.unstall.eng e = t.eng e := by
  cases e <;> simp only [Issue.eng] at h ⊢ <;> simp only [Issue.unstall] <;> split <;> simp [← h]

theorem Skillet.advance_straight (x : Skillet) (e : Engine) (n : Nat) (h : (x.t.eng e).loops = []) :
    x.advance e n = x.onT (fun t => t.setEng e { t.eng e with
      pc := (t.eng e).pc + BitVec.ofNat 56 n, loops := [], edge := none, stall := none }) := by
  have hp (p : BitVec 56) : BitVec.ofNat 56 (p.toNat + n) = p + BitVec.ofNat 56 n := by
    apply BitVec.eq_of_toNat_eq
    simp [BitVec.toNat_add]
  unfold Skillet.advance Skillet.tryEdge
  cases e <;> simp [Issue.eng, Issue.setEng, Skillet.onT] at h ⊢ <;> simp [h, edgeLoop, hp]

/-- The engine after a retirement outside hardware loops: past the word, issuing on. -/
theorem State.retire_eng (s : State) (k : Nat) (e : Engine) (n : Nat) (tok : BitVec 4) (hl : ((s.tk k).eng e).loops = [])
    (hs : (s.sk k).info.step = none) :
    ((s.retire k e n tok).tk k).eng e =
      { (s.tk k).eng e with pc := ((s.tk k).eng e).pc + BitVec.ofNat 56 n, loops := [], edge := none, stall := none } := by
  unfold State.retire
  rw [State.turnOver_tk]
  simp only [State.tk, State.sk_updSk_same]
  have h1 : ((((s.sk k).onT (fun t => (t.tokPop e tok).tokPush e tok (.full 0))).t).eng e).loops = [] := by
    simpa [Issue.eng_tokPop, Issue.eng_tokPush, State.tk] using hl
  rw [Skillet.advance_straight _ _ _ h1, Skillet.stepped_none _ _ _ (by simpa using hs), Skillet.unstall, Skillet.onT_t,
    Issue.eng_unstall _ _ (by simp)]
  simp [Issue.eng_tokPop, Issue.eng_tokPush]

theorem State.retire_sk_other (s : State) {k j : Nat} (e : Engine) (n : Nat) (tok : BitVec 4) (h : j ≠ k) :
    (s.retire k e n tok).sk j = s.sk j := by
  unfold State.retire State.turnOver
  split
  · unfold State.onInfo
    rw [State.sk_updSk_other _ _ h, State.sk_updLaunch, State.sk_updSk_other _ _ h]
  · exact State.sk_updSk_other _ _ h

theorem Skillet.tryEdge_frame (x : Skillet) (e : Engine) : (x.tryEdge e).handler = x.handler ∧ (x.tryEdge e).scr = x.scr ∧
    (x.tryEdge e).busy = x.busy := by
  unfold Skillet.tryEdge
  split
  · exact ⟨rfl, rfl, rfl⟩
  · dsimp only
    split <;> exact ⟨rfl, rfl, rfl⟩

theorem Skillet.stepped_frame (x : Skillet) (e : Engine) (i : DWord) : (x.stepped e i).handler = x.handler ∧ (x.stepped e i).scr = x.scr := by
  unfold Skillet.stepped
  split
  · split <;> exact ⟨rfl, rfl⟩
  · exact ⟨rfl, rfl⟩

theorem State.turnOver_handler (s : State) (k : Nat) (b : Bool) :
    ((s.turnOver k b).sk k).handler = (s.sk k).handler ∧ ((s.turnOver k b).sk k).scr = (s.sk k).scr := by
  unfold State.turnOver
  split
  · simp
  · exact ⟨rfl, rfl⟩

/-- A retirement touches nothing but the task's issue state and its turn. -/
theorem State.retire_sameElse (s : State) (k : Nat) (e : Engine) (n : Nat) (tok : BitVec 4) (hk : k = s.cur) :
    s.sameElse (s.retire k e n tok) := by
  subst hk
  have h : (s.retire s.cur e n tok).mem = s.mem ∧ (s.retire s.cur e n tok).hostMem = s.hostMem ∧
      (s.retire s.cur e n tok).dies = s.dies ∧ (s.retire s.cur e n tok).handles = s.handles ∧ (s.retire s.cur e n tok).links = s.links := by
    unfold State.retire State.turnOver
    split <;> simp
  refine ⟨h.1, h.2.1, h.2.2.1, h.2.2.2.1, h.2.2.2.2, fun j hj => State.retire_sk_other _ _ _ _ hj, ?_, ?_⟩
  · unfold State.retire
    rw [(State.turnOver_handler _ _ _).1, State.sk_updSk_same, Skillet.unstall, Skillet.onT_handler, (Skillet.stepped_frame _ _ _).1]
    exact (Skillet.tryEdge_frame _ _).1
  · unfold State.retire
    rw [(State.turnOver_handler _ _ _).2, State.sk_updSk_same, Skillet.unstall, Skillet.onT_scr, (Skillet.stepped_frame _ _ _).2]
    exact (Skillet.tryEdge_frame _ _).2.1

/-! ### Issue -/

/-- An instruction without a turn that finds its tokens, acts and leaves its task running is the state it acts to, retired. -/
theorem State.issue_ok (s t : State) (k : Nat) (e : Engine) (n : Nat) (tok : BitVec 4) (recv send : Option Fifo) (body : State → Act)
    (hr : (s.tk k).tokReady e tok recv send = true) (hb : body s = .ok t) (hs : (t.sk k).busy = true) :
    s.issue k e n tok recv send false body = t.retire k e n tok := by
  simp [State.issue, hr, hb, Except.map, State.settle, hs]

/-- An instruction without a turn that finds its tokens and stops: what becomes of it is `settle`'s. -/
theorem State.issue_error (s : State) (k : Nat) (e : Engine) (n : Nat) (tok : BitVec 4) (recv send : Option Fifo) (body : State → Act)
    (x : Stop) (hr : (s.tk k).tokReady e tok recv send = true) (hb : body s = .error x) :
    s.issue k e n tok recv send false body = s.settle k e (.error x) := by
  simp [State.issue, hr, hb, Except.map]

/-- A turn of a task at D0 or D1, or of a handler, passes its gate at once. -/
theorem State.turnGate_pass (s : State) (k : Nat) (e : Engine) (h : (s.sk k).handler.isSome = true ∨ s.levelOf k < 2) :
    s.turnGate k e = .ok s := by
  unfold State.turnGate
  rcases h with h | h <;> simp [h]

/-- As `issue_ok`, for a command that is a turn, where turns are not taken. -/
theorem State.issue_turn_ok (s t : State) (k : Nat) (e : Engine) (n : Nat) (tok : BitVec 4) (recv send : Option Fifo) (turn : Bool)
    (body : State → Act) (hg : (s.sk k).handler.isSome = true ∨ s.levelOf k < 2)
    (hr : (s.tk k).tokReady e tok recv send = true) (hb : body s = .ok t) (hs : (t.sk k).busy = true) :
    s.issue k e n tok recv send turn body = t.retire k e n tok := by
  cases turn
  · exact State.issue_ok s t k e n tok recv send body hr hb hs
  · simp [State.issue, hr, State.turnGate_pass s k e hg, hb, Except.map, State.settle, hs]

end Sys2Proof.Machine
end

