-- ==== Sys2Proof/Laws/Memory.lean ====
section
/-! SUPPORT. Laws of memory: reading after writing, and that every operation on memory keeps its canonical form. -/

namespace Sys2Proof.Machine

open Sys2Proof

theorem rdB_wrB (m : List Host.Cell) (a i : Nat) (b : Byte) : rdB (wrB m a b) i = if i = a then b else rdB m i := Tbl.look_set ..

/-- A byte no cell of a write names reads as before. -/
theorem rdB_wrCells_other (ws : List (Nat × Byte)) (m : List Host.Cell) (i : Nat) (h : ∀ c ∈ ws, c.1 ≠ i) :
    rdB (wrCells m ws) i = rdB m i := by
  induction ws generalizing m with
  | nil => rfl
  | cons c r ih =>
    obtain ⟨a, b⟩ := c
    rw [wrCells, ih _ (fun c hc => h c (List.mem_cons_of_mem _ hc)), rdB_wrB, if_neg]
    exact fun e => h (a, b) List.mem_cons_self e.symm

theorem mem_cellsAt {a i : Nat} {b : Byte} {bs : List Byte} (h : (i, b) ∈ cellsAt a bs) : a ≤ i ∧ i < a + bs.length := by
  induction bs generalizing a with
  | nil => simp [cellsAt] at h
  | cons c r ih =>
    simp only [cellsAt, List.mem_cons, Prod.mk.injEq] at h
    rcases h with ⟨rfl, _⟩ | h
    · simp
    · have := ih h
      simp only [List.length_cons]
      omega

/-- A byte outside the bytes written at an address reads as before. -/
theorem rdB_wrCells_outside (bs : List Byte) (m : List Host.Cell) (a i : Nat) (h : i < a ∨ a + bs.length ≤ i) :
    rdB (wrCells m (cellsAt a bs)) i = rdB m i :=
  rdB_wrCells_other _ _ _ (fun c hc e => by
    obtain ⟨j, b⟩ := c
    have := mem_cellsAt hc
    simp only at e
    omega)

/-- The bytes written at an address are read back. -/
theorem rdBytes_wrCells (bs : List Byte) (m : List Host.Cell) (a : Nat) : rdBytes (wrCells m (cellsAt a bs)) a bs.length = bs := by
  induction bs generalizing m a with
  | nil => rfl
  | cons b r ih =>
    simp only [cellsAt, wrCells, List.length_cons, rdBytes, ih]
    rw [rdB_wrCells_outside _ _ _ _ (.inl (Nat.lt_succ_self a)), rdB_wrB]
    simp

/-! ### The canonical form -/

theorem wf_wrB (m : List Host.Cell) (a : Nat) (b : Byte) (h : Memory.wf m = true) : Memory.wf (wrB m a b) = true := Tbl.wf_set _ _ _ _ h

theorem wf_wrCells (ws : List (Nat × Byte)) (m : List Host.Cell) (h : Memory.wf m = true) : Memory.wf (wrCells m ws) = true := by
  induction ws generalizing m with
  | nil => exact h
  | cons c r ih => exact ih _ (wf_wrB _ _ _ h)

theorem wf_filter (m : List Host.Cell) (p : Host.Cell → Bool) (h : Memory.wf m = true) : Memory.wf (m.filter p) = true :=
  Tbl.wf_filter _ _ _ h

theorem wf_fillRange (m : List Host.Cell) (pa n : Nat) (ws : List (Nat × Byte)) (h : Memory.wf m = true) :
    Memory.wf (fillRange m pa n ws) = true := wf_wrCells _ _ (wf_filter _ _ h)

@[simp] theorem State.hostBack_mem (s : State) (d line : Nat) : (s.hostBack d line).mem = s.mem := by
  unfold State.hostBack
  split
  · split <;> rfl
  · rfl

@[simp] theorem State.hostDrop_mem (s : State) (d line : Nat) : (s.hostDrop d line).mem = s.mem := by
  unfold State.hostDrop
  dsimp only
  split <;> exact State.hostBack_mem s d line

/-- Dropping host lines from the dies leaves device memory. -/
theorem State.hostDrops_mem (s : State) (ds : List Nat) (line : Nat) : (ds.foldl (fun s d => s.hostDrop d line) s).mem = s.mem := by
  induction ds generalizing s with
  | nil => rfl
  | cons d r ih => simp [List.foldl_cons, ih]

theorem State.emptyRecs_mem_wf (s : State) (ls : List Nat) (b : Writer) (h : Memory.wf s.mem = true) :
    Memory.wf (s.emptyRecs ls b).mem = true := by
  unfold State.emptyRecs
  have keep (rs : List Nat) (s : State) :
      (rs.foldl (fun s r => allDies.foldl (fun s d => s.hostDrop d ((r - 2 ^ 52) / 64)) s) s).mem = s.mem := by
    induction rs generalizing s with
    | nil => rfl
    | cons r rs ih => rw [List.foldl_cons, ih, State.hostDrops_mem]
  split
  · refine wf_filter _ _ ?_
    rw [keep]
    exact h
  · exact h

@[simp] theorem State.noteMods_mem (s : State) (ws : List (Nat × Byte)) (b : Writer) : (s.noteMods ws b).mem = s.mem := by
  unfold State.noteMods
  dsimp only
  split <;> (try split) <;> rfl

@[simp] theorem State.noteMods_hostMem (s : State) (ws : List (Nat × Byte)) (b : Writer) : (s.noteMods ws b).hostMem = s.hostMem := by
  unfold State.noteMods
  dsimp only
  split <;> (try split) <;> rfl

/-- What a write to some lines brings about beside the bytes keeps device memory canonical. -/
theorem State.touchLines_mem_wf (s : State) (ls : List Nat) (b : Writer) (h : Memory.wf s.mem = true) :
    Memory.wf (s.touchLines ls b).mem = true := State.emptyRecs_mem_wf s ls b h

/-- Bytes that land at their home keep device memory canonical. -/
theorem State.land_mem_wf (s : State) (ws : List (Nat × Byte)) (b : Writer) (h : Memory.wf s.mem = true) :
    Memory.wf (s.land ws b).mem = true := by
  refine wf_wrCells _ _ ?_
  show Memory.wf ((s.touchLines (linesOf ws) b).noteMods ws b).mem = true
  rw [State.noteMods_mem]
  exact State.touchLines_mem_wf _ _ _ h

/-- Writing a die's dirty host line back keeps host memory canonical. -/
theorem State.hostBack_hostMem_wf (s : State) (d line : Nat) (h : Memory.wf s.hostMem = true) :
    Memory.wf (s.hostBack d line).hostMem = true := by
  unfold State.hostBack
  split
  · split
    · exact wf_wrCells _ _ h
    · exact h
  · exact h

/-- Writing a remote-dirty line through keeps device memory canonical. -/
theorem State.writeThrough_mem_wf (s : State) (d line : Nat) (h : Memory.wf s.mem = true) :
    Memory.wf (s.writeThrough d line).mem = true := by
  unfold State.writeThrough
  split
  · exact h
  · exact State.land_mem_wf _ _ _ h

/-- Folding over a list an operation that keeps device memory canonical keeps it. -/
theorem foldl_mem_wf {α : Type} (f : State → α → State) (hf : ∀ s a, Memory.wf s.mem = true → Memory.wf (f s a).mem = true)
    (ls : List α) (s : State) (h : Memory.wf s.mem = true) : Memory.wf (ls.foldl f s).mem = true := by
  induction ls generalizing s with
  | nil => exact h
  | cons a r ih => exact ih _ (hf _ _ h)

/-- Folding over lines an operation that leaves device memory leaves it. -/
theorem foldl_mem {α : Type} (f : State → α → State) (hf : ∀ s a, (f s a).mem = s.mem) (ls : List α) (s : State) :
    (ls.foldl f s).mem = s.mem := by
  induction ls generalizing s with
  | nil => rfl
  | cons a r ih => rw [List.foldl_cons, ih, hf]

@[simp] theorem State.hostGet_mem (s : State) (d line : Nat) (own : Bool) : (s.hostGet d line own).mem = s.mem := by
  have keep : ((allDies.filter (· != d)).foldl (fun s e => if own then s.hostDrop e line else s.hostBack e line) s).mem = s.mem :=
    foldl_mem _ (fun s e => by cases own <;> simp) _ _
  unfold State.hostGet
  dsimp only
  split <;> exact keep

@[simp] theorem State.hostWrite_mem (s : State) (d : Nat) (ws : List (Nat × Byte)) (b : Writer) : (s.hostWrite d ws b).mem = s.mem := by
  unfold State.hostWrite
  show ((State.updDie _ _ _).noteMods _ _).mem = s.mem
  rw [State.noteMods_mem]
  exact foldl_mem _ (fun s l => State.hostGet_mem s d l true) _ _

theorem State.wrRec_mem_wf (s : State) (d : Nat) (l : Loc) (r : RRec) (h : Memory.wf s.mem = true) : Memory.wf (s.wrRec d l r).mem = true := by
  unfold State.wrRec
  split
  · rw [State.hostWrite_mem]; exact h
  · exact wf_wrCells _ _ h

@[simp] theorem State.dropClean_mem (s : State) (d : Nat) (ls : List Nat) : (s.dropClean d ls).mem = s.mem := by
  unfold State.dropClean
  split <;> rfl

theorem State.raceUpdate_mem_wf (s : State) (ag : Agent) (l : Loc) (f : RRec → RRec) (h : Memory.wf s.mem = true) :
    Memory.wf (s.raceUpdate ag l f).mem = true := by
  unfold State.raceUpdate
  split
  · split
    · exact h
    · exact State.wrRec_mem_wf _ _ _ _ h
  · exact h

theorem State.writePage_mem_wf (s : State) (d page : Nat) (h : Memory.wf s.mem = true) : Memory.wf (s.writePage d page).mem = true :=
  foldl_mem_wf (fun s (x : DirtyLine) => s.writeThrough d x.line) (fun s x h => State.writeThrough_mem_wf s d x.line h) _ s h

theorem State.putPage_mem_wf (s t : State) (d asid : Nat) (l : Loc) (ws : List (Nat × Byte)) (h : Memory.wf s.mem = true)
    (hl : (!l.host && (apertureOf l.pa).isNone) = true) (e : s.putPage d asid l ws = .ok t) : Memory.wf t.mem = true := by
  unfold State.putPage at e
  rw [if_pos hl] at e
  split at e
  · cases e
  · cases e
    refine wf_fillRange _ _ _ _ ?_
    rw [State.dropClean_mem]
    exact State.touchLines_mem_wf _ _ _ (State.writePage_mem_wf _ _ _ h)

end Sys2Proof.Machine
end

