-- ==== Sys2Proof/Laws/PerInstr.lean ====
section
/-! SUPPORT. The family Encoding: every instruction that has a word of its own decodes from the words the encoder gives it, one lemma for
each constructor of Instr. -/

namespace Sys2Proof.Laws

open Sys2Proof

set_option linter.unusedSimpArgs false

/-! ### One lemma for each format -/

theorem dec_CR (m : BitVec 6) (n : BitVec 2) (f : CR) {i : Instr} (hm : m ≠ 0x3f#6) (hr : rowCR m n f = some i) (hw : i.wellFormed = true) :
    decodeWords (packCR m n f) 0 = .ok i := by
  simp [decodeWords, decodeRow, decodeC, isLong, hm, hr, hw]

theorem dec_CI (m : BitVec 6) (f : CI) {i : Instr} (hm : m ≠ 0x3f#6) (h1 : ∀ n g, rowCR m n g = none) (hr : rowCI m f = some i)
    (hw : i.wellFormed = true) : decodeWords (packCI m f) 0 = .ok i := by
  simp [decodeWords, decodeRow, decodeC, isLong, hm, h1, hr, hw]

theorem dec_CU (m : BitVec 6) (f : CU) {i : Instr} (hm : m ≠ 0x3f#6) (h1 : ∀ n g, rowCR m n g = none) (h2 : ∀ g, rowCI m g = none)
    (hr : rowCU m f = some i) (hw : i.wellFormed = true) : decodeWords (packCU m f) 0 = .ok i := by
  simp [decodeWords, decodeRow, decodeC, isLong, hm, h1, h2, hr, hw]

theorem dec_CK (m : BitVec 6) (f : CK) {i : Instr} (hm : m ≠ 0x3f#6) (h1 : ∀ n g, rowCR m n g = none) (h2 : ∀ g, rowCI m g = none)
    (h3 : ∀ g, rowCU m g = none) (hr : rowCK m f = some i) (hw : i.wellFormed = true) : decodeWords (packCK m f) 0 = .ok i := by
  simp [decodeWords, decodeRow, decodeC, isLong, hm, h1, h2, h3, hr, hw]

theorem dec_L (cl : BitVec 6) (var : BitVec 2) (op : BitVec 8) (f : LW) {i : Instr} (hr : rowL cl var op f = some i)
    (hw : i.wellFormed = true) : decodeWords (packL0 f) (packL1 cl var op f) = .ok i := by
  simp [decodeWords, decodeRow, decodeC, isLong, hr, hw]

theorem dec_SB (m : BitVec 6) (f : SB) {i : Instr} (hm : m ≠ 0x3f#6) (hr : rowSB m f = some i) (hw : i.wellFormed = true) :
    decodeWords (packSB m f) 0 = .ok i := by
  simp [decodeWords, decodeRow, decodeS, isLong, hm, hr, hw]

theorem dec_SJ (m : BitVec 6) (f : SJ) {i : Instr} (hm : m ≠ 0x3f#6) (h1 : ∀ g, rowSB m g = none) (hr : rowSJ m f = some i)
    (hw : i.wellFormed = true) : decodeWords (packSJ m f) 0 = .ok i := by
  simp [decodeWords, decodeRow, decodeS, isLong, hm, h1, hr, hw]

theorem dec_SL (m : BitVec 6) (f : SL) {i : Instr} (hm : m ≠ 0x3f#6) (h1 : ∀ g, rowSB m g = none) (h2 : ∀ g, rowSJ m g = none)
    (hr : rowSL m f = some i) (hw : i.wellFormed = true) : decodeWords (packSL m f) 0 = .ok i := by
  simp [decodeWords, decodeRow, decodeS, isLong, hm, h1, h2, hr, hw]

theorem dec_SX (k : BitVec 2) (f : SX) {i : Instr} (hr : rowSX k f = some i) (hw : i.wellFormed = true) :
    decodeWords (packSX0 f) (packSX1 k f) = .ok i := by
  simp [decodeWords, decodeRow, decodeS, isLong, hr, hw]

theorem dec_AM (m : BitVec 6) (f : AM) {i : Instr} (hm : m ≠ 0x3f#6) (hr : rowAM m f = some i) (hw : i.wellFormed = true) :
    decodeWords (packAM m f) 0 = .ok i := by
  simp [decodeWords, decodeRow, decodeA, isLong, hm, hr, hw]

theorem dec_AX (m : BitVec 6) (n : BitVec 1) (f : AX) {i : Instr} (hm : m ≠ 0x3f#6) (h1 : ∀ g, rowAM m g = none)
    (hr : rowAX m n f = some i) (hw : i.wellFormed = true) : decodeWords (packAX m n f) 0 = .ok i := by
  simp [decodeWords, decodeRow, decodeA, isLong, hm, h1, hr, hw]

theorem dec_AR (m : BitVec 6) (n : BitVec 5) (f : AR) {i : Instr} (hm : m ≠ 0x3f#6) (h1 : ∀ g, rowAM m g = none)
    (h2 : ∀ k g, rowAX m k g = none) (hr : rowAR m n f = some i) (hw : i.wellFormed = true) :
    decodeWords (packAR m n f) 0 = .ok i := by
  simp [decodeWords, decodeRow, decodeA, isLong, hm, h1, h2, hr, hw]

theorem dec_AI (m : BitVec 6) (f : AI) {i : Instr} (hm : m ≠ 0x3f#6) (h1 : ∀ g, rowAM m g = none) (h2 : ∀ k g, rowAX m k g = none)
    (h3 : ∀ k g, rowAR m k g = none) (hr : rowAI m f = some i) (hw : i.wellFormed = true) : decodeWords (packAI m f) 0 = .ok i := by
  simp [decodeWords, decodeRow, decodeA, isLong, hm, h1, h2, h3, hr, hw]

theorem dec_AU (m : BitVec 6) (f : AU) {i : Instr} (hm : m ≠ 0x3f#6) (h1 : ∀ g, rowAM m g = none) (h2 : ∀ k g, rowAX m k g = none)
    (h3 : ∀ k g, rowAR m k g = none) (h4 : ∀ g, rowAI m g = none) (hr : rowAU m f = some i) (hw : i.wellFormed = true) :
    decodeWords (packAU m f) 0 = .ok i := by
  simp [decodeWords, decodeRow, decodeA, isLong, hm, h1, h2, h3, h4, hr, hw]

theorem dec_AL (x : BitVec 8) (f : AL) {i : Instr} (hx : (xopWide x && x[0]) = f.w64) (hr : rowAL x f = some i)
    (hw : i.wellFormed = true) : decodeWords (packAL0 x f) (packAL1 f) = .ok i := by
  simp [decodeWords, decodeRow, decodeA, isLong, unpack_packAL x f hx, hr, hw]

theorem dec_VR (m : BitVec 6) (n : BitVec 2) (f : VR) {i : Instr} (hm : m ≠ 0x3f#6 ∧ m ≠ 4#6 ∧ m ≠ 5#6) (hr : rowVR m n f = some i)
    (hw : i.wellFormed = true) : decodeWords (packVR m n f) 0 = .ok i := by
  simp [decodeWords, decodeRow, decodeV, isLong, hm, hr, hw]

theorem dec_VK (n : BitVec 4) (f : VK) {i : Instr} (hr : rowVK n f = some i) (hw : i.wellFormed = true) :
    decodeWords (packVK n f) 0 = .ok i := by
  simp [decodeWords, decodeRow, decodeV, isLong, hr, hw]

theorem dec_VI (f : VI) (hw : (Instr.kli f).wellFormed = true) : decodeWords (packVI 0x05 f) 0 = .ok (.kli f) := by
  simp [decodeWords, decodeRow, decodeV, isLong, hw]

theorem dec_VL (x : BitVec 8) (f : VL) {i : Instr} (hr : rowVL x f = some i) (hw : i.wellFormed = true) :
    decodeWords (packVL0 x f) (packVL1 f) = .ok i := by
  simp [decodeWords, decodeRow, decodeV, isLong, hr, hw]

end Sys2Proof.Laws

/-! ### The family -/

/-- An instruction with a word of its own decodes from what the encoder gives it. -/
def Sys2Proof.Laws.Encoding.Statement (i : Sys2Proof.Instr) : Prop :=
  i.hasWord = true → i.wellFormed = true → Sys2Proof.decodeEncoded i = .ok i

namespace Sys2Proof.Laws

open Sys2Proof

set_option linter.unusedSimpArgs false

theorem Encoding.nop (f : CU) : Encoding.Statement (.nop f) := fun _ h => dec_CU 0x01 f (by decide) (by intro n g; rcases two_bits n with rfl | rfl | rfl | rfl <;> rfl) (fun _ => rfl) rfl h
theorem Encoding.add (f : CR) : Encoding.Statement (.add f) := fun _ h => dec_CR 0x02 0 f (by decide) rfl h
theorem Encoding.sub (f : CR) : Encoding.Statement (.sub f) := fun _ h => dec_CR 0x02 1 f (by decide) rfl h
theorem Encoding.mul (f : CR) : Encoding.Statement (.mul f) := fun _ h => dec_CR 0x02 2 f (by decide) rfl h
theorem Encoding.mulh (f : CR) : Encoding.Statement (.mulh f) := fun _ h => dec_CR 0x02 3 f (by decide) rfl h
theorem Encoding.mulhn (f : CR) : Encoding.Statement (.mulhn f) := fun _ h => dec_CR 0x03 0 f (by decide) rfl h
theorem Encoding.div (f : CR) : Encoding.Statement (.div f) := fun _ h => dec_CR 0x03 1 f (by decide) rfl h
theorem Encoding.divn (f : CR) : Encoding.Statement (.divn f) := fun _ h => dec_CR 0x03 2 f (by decide) rfl h
theorem Encoding.rem (f : CR) : Encoding.Statement (.rem f) := fun _ h => dec_CR 0x03 3 f (by decide) rfl h
theorem Encoding.remn (f : CR) : Encoding.Statement (.remn f) := fun _ h => dec_CR 0x04 0 f (by decide) rfl h
theorem Encoding.and (f : CR) : Encoding.Statement (.and f) := fun _ h => dec_CR 0x04 1 f (by decide) rfl h
theorem Encoding.or (f : CR) : Encoding.Statement (.or f) := fun _ h => dec_CR 0x04 2 f (by decide) rfl h
theorem Encoding.xor (f : CR) : Encoding.Statement (.xor f) := fun _ h => dec_CR 0x04 3 f (by decide) rfl h
theorem Encoding.andn (f : CR) : Encoding.Statement (.andn f) := fun _ h => dec_CR 0x05 0 f (by decide) rfl h
theorem Encoding.shl (f : CR) : Encoding.Statement (.shl f) := fun _ h => dec_CR 0x05 1 f (by decide) rfl h
theorem Encoding.shr (f : CR) : Encoding.Statement (.shr f) := fun _ h => dec_CR 0x05 2 f (by decide) rfl h
theorem Encoding.sra (f : CR) : Encoding.Statement (.sra f) := fun _ h => dec_CR 0x05 3 f (by decide) rfl h
theorem Encoding.rot (f : CR) : Encoding.Statement (.rot f) := fun _ h => dec_CR 0x06 0 f (by decide) rfl h
theorem Encoding.min (f : CR) : Encoding.Statement (.min f) := fun _ h => dec_CR 0x06 1 f (by decide) rfl h
theorem Encoding.max (f : CR) : Encoding.Statement (.max f) := fun _ h => dec_CR 0x06 2 f (by decide) rfl h
theorem Encoding.minn (f : CR) : Encoding.Statement (.minn f) := fun _ h => dec_CR 0x06 3 f (by decide) rfl h
theorem Encoding.maxn (f : CR) : Encoding.Statement (.maxn f) := fun _ h => dec_CR 0x07 0 f (by decide) rfl h
theorem Encoding.slt (f : CR) : Encoding.Statement (.slt f) := fun _ h => dec_CR 0x07 1 f (by decide) rfl h
theorem Encoding.sltn (f : CR) : Encoding.Statement (.sltn f) := fun _ h => dec_CR 0x07 2 f (by decide) rfl h
theorem Encoding.seq (f : CR) : Encoding.Statement (.seq f) := fun _ h => dec_CR 0x07 3 f (by decide) rfl h
theorem Encoding.sel (f : CR) : Encoding.Statement (.sel f) := fun _ h => dec_CR 0x08 0 f (by decide) rfl h
theorem Encoding.clz (f : CR) : Encoding.Statement (.clz f) := fun _ h => dec_CR 0x08 1 f (by decide) rfl h
theorem Encoding.ctz (f : CR) : Encoding.Statement (.ctz f) := fun _ h => dec_CR 0x08 2 f (by decide) rfl h
theorem Encoding.popc (f : CR) : Encoding.Statement (.popc f) := fun _ h => dec_CR 0x08 3 f (by decide) rfl h
theorem Encoding.bfx (f : CR) : Encoding.Statement (.bfx f) := fun _ h => dec_CR 0x09 0 f (by decide) rfl h
theorem Encoding.bfi (f : CR) : Encoding.Statement (.bfi f) := fun _ h => dec_CR 0x09 1 f (by decide) rfl h
theorem Encoding.addi (f : CI) : Encoding.Statement (.addi f) := fun _ h => dec_CI 0x10 f (by decide) (by intro n g; rcases two_bits n with rfl | rfl | rfl | rfl <;> rfl) rfl h
theorem Encoding.andi (f : CI) : Encoding.Statement (.andi f) := fun _ h => dec_CI 0x11 f (by decide) (by intro n g; rcases two_bits n with rfl | rfl | rfl | rfl <;> rfl) rfl h
theorem Encoding.ori (f : CI) : Encoding.Statement (.ori f) := fun _ h => dec_CI 0x12 f (by decide) (by intro n g; rcases two_bits n with rfl | rfl | rfl | rfl <;> rfl) rfl h
theorem Encoding.xori (f : CI) : Encoding.Statement (.xori f) := fun _ h => dec_CI 0x13 f (by decide) (by intro n g; rcases two_bits n with rfl | rfl | rfl | rfl <;> rfl) rfl h
theorem Encoding.shli (f : CI) : Encoding.Statement (.shli f) := fun _ h => dec_CI 0x14 f (by decide) (by intro n g; rcases two_bits n with rfl | rfl | rfl | rfl <;> rfl) rfl h
theorem Encoding.shri (f : CI) : Encoding.Statement (.shri f) := fun _ h => dec_CI 0x15 f (by decide) (by intro n g; rcases two_bits n with rfl | rfl | rfl | rfl <;> rfl) rfl h
theorem Encoding.srai (f : CI) : Encoding.Statement (.srai f) := fun _ h => dec_CI 0x16 f (by decide) (by intro n g; rcases two_bits n with rfl | rfl | rfl | rfl <;> rfl) rfl h
theorem Encoding.ldc (f : CI) : Encoding.Statement (.ldc f) := fun _ h => dec_CI 0x17 f (by decide) (by intro n g; rcases two_bits n with rfl | rfl | rfl | rfl <;> rfl) rfl h
theorem Encoding.stc (f : CI) : Encoding.Statement (.stc f) := fun _ h => dec_CI 0x18 f (by decide) (by intro n g; rcases two_bits n with rfl | rfl | rfl | rfl <;> rfl) rfl h
theorem Encoding.li (f : CU) : Encoding.Statement (.li f) := fun _ h => dec_CU 0x19 f (by decide) (by intro n g; rcases two_bits n with rfl | rfl | rfl | rfl <;> rfl) (fun _ => rfl) rfl h
theorem Encoding.lih (f : CU) : Encoding.Statement (.lih f) := fun _ h => dec_CU 0x1a f (by decide) (by intro n g; rcases two_bits n with rfl | rfl | rfl | rfl <;> rfl) (fun _ => rfl) rfl h
theorem Encoding.addpc (f : CU) : Encoding.Statement (.addpc f) := fun _ h => dec_CU 0x1b f (by decide) (by intro n g; rcases two_bits n with rfl | rfl | rfl | rfl <;> rfl) (fun _ => rfl) rfl h
theorem Encoding.srd (f : CK) : Encoding.Statement (.srd f) := fun _ h => dec_CK 0x1c f (by decide) (by intro n g; rcases two_bits n with rfl | rfl | rfl | rfl <;> rfl) (fun _ => rfl) (fun _ => rfl) rfl h
theorem Encoding.swt (f : CK) : Encoding.Statement (.swt f) := fun _ h => dec_CK 0x1d f (by decide) (by intro n g; rcases two_bits n with rfl | rfl | rfl | rfl <;> rfl) (fun _ => rfl) (fun _ => rfl) rfl h
theorem Encoding.sendCa (f : CR) : Encoding.Statement (.sendCa f) := fun _ h => dec_CR 0x1e 1 f (by decide) rfl h
theorem Encoding.sendCv (f : CR) : Encoding.Statement (.sendCv f) := fun _ h => dec_CR 0x1e 2 f (by decide) rfl h
theorem Encoding.recvAc (f : CR) : Encoding.Statement (.recvAc f) := fun _ h => dec_CR 0x1f 1 f (by decide) rfl h
theorem Encoding.recvVc (f : CR) : Encoding.Statement (.recvVc f) := fun _ h => dec_CR 0x1f 2 f (by decide) rfl h
theorem Encoding.beq (f : SB) : Encoding.Statement (.beq f) := fun _ h => dec_SB 0x01 f (by decide) rfl h
theorem Encoding.bne (f : SB) : Encoding.Statement (.bne f) := fun _ h => dec_SB 0x02 f (by decide) rfl h
theorem Encoding.blt (f : SB) : Encoding.Statement (.blt f) := fun _ h => dec_SB 0x03 f (by decide) rfl h
theorem Encoding.bge (f : SB) : Encoding.Statement (.bge f) := fun _ h => dec_SB 0x04 f (by decide) rfl h
theorem Encoding.bltn (f : SB) : Encoding.Statement (.bltn f) := fun _ h => dec_SB 0x05 f (by decide) rfl h
theorem Encoding.bgen (f : SB) : Encoding.Statement (.bgen f) := fun _ h => dec_SB 0x06 f (by decide) rfl h
theorem Encoding.jmp (f : SJ) : Encoding.Statement (.jmp f) := fun _ h => dec_SJ 0x08 f (by decide) (fun _ => rfl) rfl h
theorem Encoding.call (f : SJ) : Encoding.Statement (.call f) := fun _ h => dec_SJ 0x09 f (by decide) (fun _ => rfl) rfl h
theorem Encoding.jmpLong (f : SX) : Encoding.Statement (.jmpLong f) := fun _ h => dec_SX 0 f rfl h
theorem Encoding.callLong (f : SX) : Encoding.Statement (.callLong f) := fun _ h => dec_SX 1 f rfl h
theorem Encoding.callr (f : SB) : Encoding.Statement (.callr f) := fun _ h => dec_SB 0x0a f (by decide) rfl h
theorem Encoding.ret (f : SB) : Encoding.Statement (.ret f) := fun _ h => dec_SB 0x0b f (by decide) rfl h
theorem Encoding.loop (f : SL) : Encoding.Statement (.loop f) := fun _ h => dec_SL 0x0c f (by decide) (fun _ => rfl) (fun _ => rfl) rfl h
theorem Encoding.loopr (f : SL) : Encoding.Statement (.loopr f) := fun _ h => dec_SL 0x0d f (by decide) (fun _ => rfl) (fun _ => rfl) rfl h
theorem Encoding.loopm (f : SL) : Encoding.Statement (.loopm f) := fun _ h => dec_SL 0x0e f (by decide) (fun _ => rfl) (fun _ => rfl) rfl h
theorem Encoding.ldI8 (f : AM) : Encoding.Statement (.ldI8 f) := fun _ h => dec_AM 0x01 f (by decide) rfl h
theorem Encoding.ldN8 (f : AM) : Encoding.Statement (.ldN8 f) := fun _ h => dec_AM 0x02 f (by decide) rfl h
theorem Encoding.ldI16 (f : AM) : Encoding.Statement (.ldI16 f) := fun _ h => dec_AM 0x03 f (by decide) rfl h
theorem Encoding.ldN16 (f : AM) : Encoding.Statement (.ldN16 f) := fun _ h => dec_AM 0x04 f (by decide) rfl h
theorem Encoding.ldI32 (f : AM) : Encoding.Statement (.ldI32 f) := fun _ h => dec_AM 0x05 f (by decide) rfl h
theorem Encoding.ldN32 (f : AM) : Encoding.Statement (.ldN32 f) := fun _ h => dec_AM 0x06 f (by decide) rfl h
theorem Encoding.ld64 (f : AM) : Encoding.Statement (.ld64 f) := fun _ h => dec_AM 0x07 f (by decide) rfl h
theorem Encoding.st8 (f : AM) : Encoding.Statement (.st8 f) := fun _ h => dec_AM 0x08 f (by decide) rfl h
theorem Encoding.st16 (f : AM) : Encoding.Statement (.st16 f) := fun _ h => dec_AM 0x09 f (by decide) rfl h
theorem Encoding.st32 (f : AM) : Encoding.Statement (.st32 f) := fun _ h => dec_AM 0x0a f (by decide) rfl h
theorem Encoding.st64 (f : AM) : Encoding.Statement (.st64 f) := fun _ h => dec_AM 0x0b f (by decide) rfl h
theorem Encoding.ldIndexed (f : AX) : Encoding.Statement (.ldIndexed f) := fun _ h => dec_AX 0x0c 0 f (by decide) (fun _ => rfl) rfl h
theorem Encoding.ldIndexedS (f : AX) : Encoding.Statement (.ldIndexedS f) := fun _ h => dec_AX 0x0c 1 f (by decide) (fun _ => rfl) rfl h
theorem Encoding.stIndexed (f : AX) : Encoding.Statement (.stIndexed f) := fun _ h => dec_AX 0x0d 0 f (by decide) (fun _ => rfl) rfl h
theorem Encoding.ldI8S (f : AM) : Encoding.Statement (.ldI8S f) := fun _ h => dec_AM 0x11 f (by decide) rfl h
theorem Encoding.ldN8S (f : AM) : Encoding.Statement (.ldN8S f) := fun _ h => dec_AM 0x12 f (by decide) rfl h
theorem Encoding.ldI16S (f : AM) : Encoding.Statement (.ldI16S f) := fun _ h => dec_AM 0x13 f (by decide) rfl h
theorem Encoding.ldN16S (f : AM) : Encoding.Statement (.ldN16S f) := fun _ h => dec_AM 0x14 f (by decide) rfl h
theorem Encoding.ldI32S (f : AM) : Encoding.Statement (.ldI32S f) := fun _ h => dec_AM 0x15 f (by decide) rfl h
theorem Encoding.ldN32S (f : AM) : Encoding.Statement (.ldN32S f) := fun _ h => dec_AM 0x16 f (by decide) rfl h
theorem Encoding.ld64S (f : AM) : Encoding.Statement (.ld64S f) := fun _ h => dec_AM 0x17 f (by decide) rfl h
theorem Encoding.vld (f : AM) : Encoding.Statement (.vld f) := fun _ h => dec_AM 0x18 f (by decide) rfl h
theorem Encoding.vldS (f : AM) : Encoding.Statement (.vldS f) := fun _ h => dec_AM 0x19 f (by decide) rfl h
theorem Encoding.vst (f : AM) : Encoding.Statement (.vst f) := fun _ h => dec_AM 0x1a f (by decide) rfl h
theorem Encoding.vlds (f : AX) : Encoding.Statement (.vlds f) := fun _ h => dec_AX 0x1b 0 f (by decide) (fun _ => rfl) rfl h
theorem Encoding.vldsS (f : AX) : Encoding.Statement (.vldsS f) := fun _ h => dec_AX 0x1b 1 f (by decide) (fun _ => rfl) rfl h
theorem Encoding.vldx (f : AX) : Encoding.Statement (.vldx f) := fun _ h => dec_AX 0x1c 0 f (by decide) (fun _ => rfl) rfl h
theorem Encoding.vldxS (f : AX) : Encoding.Statement (.vldxS f) := fun _ h => dec_AX 0x1c 1 f (by decide) (fun _ => rfl) rfl h
theorem Encoding.vsts (f : AX) : Encoding.Statement (.vsts f) := fun _ h => dec_AX 0x1d 0 f (by decide) (fun _ => rfl) rfl h
theorem Encoding.vstx (f : AX) : Encoding.Statement (.vstx f) := fun _ h => dec_AX 0x1e 0 f (by decide) (fun _ => rfl) rfl h
theorem Encoding.adda (f : AR) : Encoding.Statement (.adda f) := fun _ h => dec_AR 0x30 0 f (by decide) (fun _ => rfl) (by intro n g; unfold rowAX; split <;> simp_all) rfl h
theorem Encoding.suba (f : AR) : Encoding.Statement (.suba f) := fun _ h => dec_AR 0x30 1 f (by decide) (fun _ => rfl) (by intro n g; unfold rowAX; split <;> simp_all) rfl h
theorem Encoding.mova (f : AR) : Encoding.Statement (.mova f) := fun _ h => dec_AR 0x30 2 f (by decide) (fun _ => rfl) (by intro n g; unfold rowAX; split <;> simp_all) rfl h
theorem Encoding.sendAAc (f : AR) : Encoding.Statement (.sendAAc f) := fun _ h => dec_AR 0x31 1 f (by decide) (fun _ => rfl) (by intro n g; unfold rowAX; split <;> simp_all) rfl h
theorem Encoding.sendAAv (f : AR) : Encoding.Statement (.sendAAv f) := fun _ h => dec_AR 0x31 2 f (by decide) (fun _ => rfl) (by intro n g; unfold rowAX; split <;> simp_all) rfl h
theorem Encoding.recvACa (f : AR) : Encoding.Statement (.recvACa f) := fun _ h => dec_AR 0x32 1 f (by decide) (fun _ => rfl) (by intro n g; unfold rowAX; split <;> simp_all) rfl h
theorem Encoding.recvAVa (f : AR) : Encoding.Statement (.recvAVa f) := fun _ h => dec_AR 0x32 2 f (by decide) (fun _ => rfl) (by intro n g; unfold rowAX; split <;> simp_all) rfl h
theorem Encoding.addai (f : AI) : Encoding.Statement (.addai f) := fun _ h => dec_AI 0x33 f (by decide) (fun _ => rfl) (by intro n g; unfold rowAX; split <;> simp_all) (by intro n g; unfold rowAR; split <;> simp_all) rfl h
theorem Encoding.shla (f : AI) : Encoding.Statement (.shla f) := fun _ h => dec_AI 0x34 f (by decide) (fun _ => rfl) (by intro n g; unfold rowAX; split <;> simp_all) (by intro n g; unfold rowAR; split <;> simp_all) rfl h
theorem Encoding.mulai (f : AI) : Encoding.Statement (.mulai f) := fun _ h => dec_AI 0x35 f (by decide) (fun _ => rfl) (by intro n g; unfold rowAX; split <;> simp_all) (by intro n g; unfold rowAR; split <;> simp_all) rfl h
theorem Encoding.lia (f : AU) : Encoding.Statement (.lia f) := fun _ h => dec_AU 0x36 f (by decide) (fun _ => rfl) (by intro n g; unfold rowAX; split <;> simp_all) (by intro n g; unfold rowAR; split <;> simp_all) (fun _ => rfl) rfl h
theorem Encoding.spld (f : AL) : Encoding.Statement (.spld f) := by
  intro _ h
  have w : (!f.w64 && f.scope == 0 && !f.ord && f.b == 0 && f.c == 0 && f.qs == 0) = true := h
  simp only [Bool.and_eq_true, Bool.or_eq_true, Bool.not_eq_true', beq_iff_eq] at w
  have hw : f.w64 = false := by simp [w]
  show decodeWords (packAL0 (0x01 ||| (BitVec.ofBool f.w64).setWidth 8) f) (packAL1 f) = .ok _
  rw [hw]
  exact dec_AL 0x01 f (by rw [hw]; decide) (by simp [rowAL, w]) h
theorem Encoding.spldVector (f : AL) : Encoding.Statement (.spldVector f) := by
  intro _ h
  have w : (!f.w64 && f.scope == 0 && !f.ord && f.d == 0 && f.b == 0 && f.c == 0 && (f.qs == 1 || f.qs == 2)) = true := h
  simp only [Bool.and_eq_true, Bool.or_eq_true, Bool.not_eq_true', beq_iff_eq] at w
  have hw : f.w64 = false := by simp [w]
  show decodeWords (packAL0 (0x01 ||| (BitVec.ofBool f.w64).setWidth 8) f) (packAL1 f) = .ok _
  rw [hw]
  exact dec_AL 0x01 f (by rw [hw]; decide) (by rcases w with ⟨_, w⟩; rcases w with w | w <;> simp [rowAL, w]) h
theorem Encoding.spst (f : AL) : Encoding.Statement (.spst f) := by
  intro _ h
  have w : (!f.w64 && f.scope == 0 && !f.ord && f.d == 0 && f.c == 0 && f.qs == 0) = true := h
  simp only [Bool.and_eq_true, Bool.or_eq_true, Bool.not_eq_true', beq_iff_eq] at w
  have hw : f.w64 = false := by simp [w]
  show decodeWords (packAL0 (0x02 ||| (BitVec.ofBool f.w64).setWidth 8) f) (packAL1 f) = .ok _
  rw [hw]
  exact dec_AL 0x02 f (by rw [hw]; decide) (by simp [rowAL, w]) h
theorem Encoding.spstVector (f : AL) : Encoding.Statement (.spstVector f) := by
  intro _ h
  have w : (!f.w64 && f.scope == 0 && !f.ord && f.d == 0 && f.b == 0 && f.c == 0 && (f.qs == 3 || f.qs == 4)) = true := h
  simp only [Bool.and_eq_true, Bool.or_eq_true, Bool.not_eq_true', beq_iff_eq] at w
  have hw : f.w64 = false := by simp [w]
  show decodeWords (packAL0 (0x02 ||| (BitVec.ofBool f.w64).setWidth 8) f) (packAL1 f) = .ok _
  rw [hw]
  exact dec_AL 0x02 f (by rw [hw]; decide) (by rcases w with ⟨_, w⟩; rcases w with w | w <;> simp [rowAL, w]) h
theorem Encoding.lda (f : AL) : Encoding.Statement (.lda f) := by
  intro _ h
  show decodeWords (packAL0 (0x08 ||| (BitVec.ofBool f.w64).setWidth 8) f) (packAL1 f) = .ok _
  cases hw : f.w64
  · exact dec_AL 0x08 f (by rw [hw]; decide) rfl h
  · exact dec_AL 0x09 f (by rw [hw]; decide) rfl h
theorem Encoding.stl (f : AL) : Encoding.Statement (.stl f) := by
  intro _ h
  show decodeWords (packAL0 (0x0a ||| (BitVec.ofBool f.w64).setWidth 8) f) (packAL1 f) = .ok _
  cases hw : f.w64
  · exact dec_AL 0x0a f (by rw [hw]; decide) rfl h
  · exact dec_AL 0x0b f (by rw [hw]; decide) rfl h
theorem Encoding.fence (f : AL) : Encoding.Statement (.fence f) := by
  intro _ h
  have w : (!f.w64 && f.d == 0 && f.a == 0 && f.b == 0 && f.c == 0 && f.qs == 0 && f.imm == 0) = true := h
  simp only [Bool.and_eq_true, Bool.or_eq_true, Bool.not_eq_true', beq_iff_eq] at w
  have hw : f.w64 = false := by simp [w]
  show decodeWords (packAL0 (0x0c ||| (BitVec.ofBool f.w64).setWidth 8) f) (packAL1 f) = .ok _
  rw [hw]
  exact dec_AL 0x0c f (by rw [hw]; decide) rfl h
theorem Encoding.aadd (f : AL) : Encoding.Statement (.aadd f) := by
  intro _ h
  show decodeWords (packAL0 (0x10 ||| (BitVec.ofBool f.w64).setWidth 8) f) (packAL1 f) = .ok _
  cases hw : f.w64
  · exact dec_AL 0x10 f (by rw [hw]; decide) rfl h
  · exact dec_AL 0x11 f (by rw [hw]; decide) rfl h
theorem Encoding.aand (f : AL) : Encoding.Statement (.aand f) := by
  intro _ h
  show decodeWords (packAL0 (0x12 ||| (BitVec.ofBool f.w64).setWidth 8) f) (packAL1 f) = .ok _
  cases hw : f.w64
  · exact dec_AL 0x12 f (by rw [hw]; decide) rfl h
  · exact dec_AL 0x13 f (by rw [hw]; decide) rfl h
theorem Encoding.aor (f : AL) : Encoding.Statement (.aor f) := by
  intro _ h
  show decodeWords (packAL0 (0x14 ||| (BitVec.ofBool f.w64).setWidth 8) f) (packAL1 f) = .ok _
  cases hw : f.w64
  · exact dec_AL 0x14 f (by rw [hw]; decide) rfl h
  · exact dec_AL 0x15 f (by rw [hw]; decide) rfl h
theorem Encoding.axor (f : AL) : Encoding.Statement (.axor f) := by
  intro _ h
  show decodeWords (packAL0 (0x16 ||| (BitVec.ofBool f.w64).setWidth 8) f) (packAL1 f) = .ok _
  cases hw : f.w64
  · exact dec_AL 0x16 f (by rw [hw]; decide) rfl h
  · exact dec_AL 0x17 f (by rw [hw]; decide) rfl h
theorem Encoding.aswap (f : AL) : Encoding.Statement (.aswap f) := by
  intro _ h
  show decodeWords (packAL0 (0x18 ||| (BitVec.ofBool f.w64).setWidth 8) f) (packAL1 f) = .ok _
  cases hw : f.w64
  · exact dec_AL 0x18 f (by rw [hw]; decide) rfl h
  · exact dec_AL 0x19 f (by rw [hw]; decide) rfl h
theorem Encoding.acas (f : AL) : Encoding.Statement (.acas f) := by
  intro _ h
  show decodeWords (packAL0 (0x1a ||| (BitVec.ofBool f.w64).setWidth 8) f) (packAL1 f) = .ok _
  cases hw : f.w64
  · exact dec_AL 0x1a f (by rw [hw]; decide) rfl h
  · exact dec_AL 0x1b f (by rw [hw]; decide) rfl h
theorem Encoding.amin (f : AL) : Encoding.Statement (.amin f) := by
  intro _ h
  show decodeWords (packAL0 (0x1c ||| (BitVec.ofBool f.w64).setWidth 8) f) (packAL1 f) = .ok _
  cases hw : f.w64
  · exact dec_AL 0x1c f (by rw [hw]; decide) rfl h
  · exact dec_AL 0x1d f (by rw [hw]; decide) rfl h
theorem Encoding.amax (f : AL) : Encoding.Statement (.amax f) := by
  intro _ h
  show decodeWords (packAL0 (0x1e ||| (BitVec.ofBool f.w64).setWidth 8) f) (packAL1 f) = .ok _
  cases hw : f.w64
  · exact dec_AL 0x1e f (by rw [hw]; decide) rfl h
  · exact dec_AL 0x1f f (by rw [hw]; decide) rfl h
theorem Encoding.aminn (f : AL) : Encoding.Statement (.aminn f) := by
  intro _ h
  show decodeWords (packAL0 (0x20 ||| (BitVec.ofBool f.w64).setWidth 8) f) (packAL1 f) = .ok _
  cases hw : f.w64
  · exact dec_AL 0x20 f (by rw [hw]; decide) rfl h
  · exact dec_AL 0x21 f (by rw [hw]; decide) rfl h
theorem Encoding.amaxn (f : AL) : Encoding.Statement (.amaxn f) := by
  intro _ h
  show decodeWords (packAL0 (0x22 ||| (BitVec.ofBool f.w64).setWidth 8) f) (packAL1 f) = .ok _
  cases hw : f.w64
  · exact dec_AL 0x22 f (by rw [hw]; decide) rfl h
  · exact dec_AL 0x23 f (by rw [hw]; decide) rfl h
theorem Encoding.waita (f : AL) : Encoding.Statement (.waita f) := by
  intro _ h
  have w : (!f.w64 && f.qs == 0) = true := h
  simp only [Bool.and_eq_true, Bool.or_eq_true, Bool.not_eq_true', beq_iff_eq] at w
  have hw : f.w64 = false := by simp [w]
  show decodeWords (packAL0 (0x30 ||| (BitVec.ofBool f.w64).setWidth 8) f) (packAL1 f) = .ok _
  rw [hw]
  exact dec_AL 0x30 f (by rw [hw]; decide) rfl h
theorem Encoding.pfb (f : AL) : Encoding.Statement (.pfb f) := by
  intro _ h
  have w : (!f.w64 && f.scope == 0 && !f.ord && f.d == 0 && f.qs == 0) = true := h
  simp only [Bool.and_eq_true, Bool.or_eq_true, Bool.not_eq_true', beq_iff_eq] at w
  have hw : f.w64 = false := by simp [w]
  show decodeWords (packAL0 (0x31 ||| (BitVec.ofBool f.w64).setWidth 8) f) (packAL1 f) = .ok _
  rw [hw]
  exact dec_AL 0x31 f (by rw [hw]; decide) rfl h
theorem Encoding.chkp (f : AL) : Encoding.Statement (.chkp f) := by
  intro _ h
  have w : (!f.w64 && f.scope == 0 && !f.ord && f.d == 0 && f.b == 0 && f.c == 0 && f.imm == 0 && f.qs == 0) = true := h
  simp only [Bool.and_eq_true, Bool.or_eq_true, Bool.not_eq_true', beq_iff_eq] at w
  have hw : f.w64 = false := by simp [w]
  show decodeWords (packAL0 (0x32 ||| (BitVec.ofBool f.w64).setWidth 8) f) (packAL1 f) = .ok _
  rw [hw]
  exact dec_AL 0x32 f (by rw [hw]; decide) (by simp [rowAL, w]) h
theorem Encoding.chkpQueue (f : AL) : Encoding.Statement (.chkpQueue f) := by
  intro _ h
  have w : (!f.w64 && f.scope == 0 && !f.ord && f.a == 0 && f.d == 0 && f.b == 0 && f.c == 0 && f.imm == 0 && (f.qs == 1 || f.qs == 2 || f.qs == 3 || f.qs == 4)) = true := h
  simp only [Bool.and_eq_true, Bool.or_eq_true, Bool.not_eq_true', beq_iff_eq] at w
  have hw : f.w64 = false := by simp [w]
  show decodeWords (packAL0 (0x32 ||| (BitVec.ofBool f.w64).setWidth 8) f) (packAL1 f) = .ok _
  rw [hw]
  exact dec_AL 0x32 f (by rw [hw]; decide) (by rcases w with ⟨_, w⟩; rcases w with ((w | w) | w) | w <;> simp [rowAL, w]) h
theorem Encoding.vadd (f : VR) : Encoding.Statement (.vadd f) := fun _ h => dec_VR 0x01 0 f (by decide) rfl h
theorem Encoding.vsub (f : VR) : Encoding.Statement (.vsub f) := fun _ h => dec_VR 0x01 1 f (by decide) rfl h
theorem Encoding.vmul (f : VR) : Encoding.Statement (.vmul f) := fun _ h => dec_VR 0x01 2 f (by decide) rfl h
theorem Encoding.vmin (f : VR) : Encoding.Statement (.vmin f) := fun _ h => dec_VR 0x01 3 f (by decide) rfl h
theorem Encoding.vmax (f : VR) : Encoding.Statement (.vmax f) := fun _ h => dec_VR 0x02 0 f (by decide) rfl h
theorem Encoding.vand (f : VR) : Encoding.Statement (.vand f) := fun _ h => dec_VR 0x02 1 f (by decide) rfl h
theorem Encoding.vor (f : VR) : Encoding.Statement (.vor f) := fun _ h => dec_VR 0x02 2 f (by decide) rfl h
theorem Encoding.vxor (f : VR) : Encoding.Statement (.vxor f) := fun _ h => dec_VR 0x02 3 f (by decide) rfl h
theorem Encoding.vmov (f : VR) : Encoding.Statement (.vmov f) := fun _ h => dec_VR 0x03 0 f (by decide) rfl h
theorem Encoding.vnot (f : VR) : Encoding.Statement (.vnot f) := fun _ h => dec_VR 0x03 1 f (by decide) rfl h
theorem Encoding.vabs (f : VR) : Encoding.Statement (.vabs f) := fun _ h => dec_VR 0x03 2 f (by decide) rfl h
theorem Encoding.vneg (f : VR) : Encoding.Statement (.vneg f) := fun _ h => dec_VR 0x03 3 f (by decide) rfl h
theorem Encoding.vaddK (f : VK) : Encoding.Statement (.vaddK f) := fun _ h => dec_VK 0 f rfl h
theorem Encoding.vsubK (f : VK) : Encoding.Statement (.vsubK f) := fun _ h => dec_VK 1 f rfl h
theorem Encoding.vmulK (f : VK) : Encoding.Statement (.vmulK f) := fun _ h => dec_VK 2 f rfl h
theorem Encoding.vminK (f : VK) : Encoding.Statement (.vminK f) := fun _ h => dec_VK 3 f rfl h
theorem Encoding.vmaxK (f : VK) : Encoding.Statement (.vmaxK f) := fun _ h => dec_VK 4 f rfl h
theorem Encoding.vshl (f : VK) : Encoding.Statement (.vshl f) := fun _ h => dec_VK 5 f rfl h
theorem Encoding.vshr (f : VK) : Encoding.Statement (.vshr f) := fun _ h => dec_VK 6 f rfl h
theorem Encoding.vsra (f : VK) : Encoding.Statement (.vsra f) := fun _ h => dec_VK 7 f rfl h
theorem Encoding.vbcast (f : VK) : Encoding.Statement (.vbcast f) := fun _ h => dec_VK 8 f rfl h
theorem Encoding.vslup (f : VK) : Encoding.Statement (.vslup f) := fun _ h => dec_VK 9 f rfl h
theorem Encoding.vsldn (f : VK) : Encoding.Statement (.vsldn f) := fun _ h => dec_VK 10 f rfl h
theorem Encoding.kli (f : VI) : Encoding.Statement (.kli f) := fun _ h => dec_VI f h
theorem Encoding.kadd (f : VR) : Encoding.Statement (.kadd f) := fun _ h => dec_VR 0x06 0 f (by decide) rfl h
theorem Encoding.kmov (f : VR) : Encoding.Statement (.kmov f) := fun _ h => dec_VR 0x06 1 f (by decide) rfl h
theorem Encoding.sendVVc (f : VR) : Encoding.Statement (.sendVVc f) := fun _ h => dec_VR 0x07 1 f (by decide) rfl h
theorem Encoding.sendVVa (f : VR) : Encoding.Statement (.sendVVa f) := fun _ h => dec_VR 0x07 2 f (by decide) rfl h
theorem Encoding.recvVCv (f : VR) : Encoding.Statement (.recvVCv f) := fun _ h => dec_VR 0x08 1 f (by decide) rfl h
theorem Encoding.recvVAv (f : VR) : Encoding.Statement (.recvVAv f) := fun _ h => dec_VR 0x08 2 f (by decide) rfl h
theorem Encoding.vcfg (f : VL) : Encoding.Statement (.vcfg f) := fun _ h => dec_VL 0x01 f rfl h
theorem Encoding.vaddLong (f : VL) : Encoding.Statement (.vaddLong f) := fun _ h => dec_VL 0x10 f rfl h
theorem Encoding.vsubLong (f : VL) : Encoding.Statement (.vsubLong f) := fun _ h => dec_VL 0x11 f rfl h
theorem Encoding.vmulLong (f : VL) : Encoding.Statement (.vmulLong f) := fun _ h => dec_VL 0x12 f rfl h
theorem Encoding.vfma (f : VL) : Encoding.Statement (.vfma f) := fun _ h => dec_VL 0x13 f rfl h
theorem Encoding.vfms (f : VL) : Encoding.Statement (.vfms f) := fun _ h => dec_VL 0x14 f rfl h
theorem Encoding.vfnma (f : VL) : Encoding.Statement (.vfnma f) := fun _ h => dec_VL 0x15 f rfl h
theorem Encoding.vdiv (f : VL) : Encoding.Statement (.vdiv f) := fun _ h => dec_VL 0x16 f rfl h
theorem Encoding.vsqrt (f : VL) : Encoding.Statement (.vsqrt f) := fun _ h => dec_VL 0x17 f rfl h
theorem Encoding.vrcp (f : VL) : Encoding.Statement (.vrcp f) := fun _ h => dec_VL 0x18 f rfl h
theorem Encoding.vrsq (f : VL) : Encoding.Statement (.vrsq f) := fun _ h => dec_VL 0x19 f rfl h
theorem Encoding.vminLong (f : VL) : Encoding.Statement (.vminLong f) := fun _ h => dec_VL 0x1a f rfl h
theorem Encoding.vmaxLong (f : VL) : Encoding.Statement (.vmaxLong f) := fun _ h => dec_VL 0x1b f rfl h
theorem Encoding.vabsLong (f : VL) : Encoding.Statement (.vabsLong f) := fun _ h => dec_VL 0x1c f rfl h
theorem Encoding.vnegLong (f : VL) : Encoding.Statement (.vnegLong f) := fun _ h => dec_VL 0x1d f rfl h
theorem Encoding.vcpys (f : VL) : Encoding.Statement (.vcpys f) := fun _ h => dec_VL 0x1e f rfl h
theorem Encoding.vandLong (f : VL) : Encoding.Statement (.vandLong f) := fun _ h => dec_VL 0x20 f rfl h
theorem Encoding.vorLong (f : VL) : Encoding.Statement (.vorLong f) := fun _ h => dec_VL 0x21 f rfl h
theorem Encoding.vxorLong (f : VL) : Encoding.Statement (.vxorLong f) := fun _ h => dec_VL 0x22 f rfl h
theorem Encoding.vnotLong (f : VL) : Encoding.Statement (.vnotLong f) := fun _ h => dec_VL 0x23 f rfl h
theorem Encoding.vshlLong (f : VL) : Encoding.Statement (.vshlLong f) := fun _ h => dec_VL 0x24 f rfl h
theorem Encoding.vshrLong (f : VL) : Encoding.Statement (.vshrLong f) := fun _ h => dec_VL 0x25 f rfl h
theorem Encoding.vsraLong (f : VL) : Encoding.Statement (.vsraLong f) := fun _ h => dec_VL 0x26 f rfl h
theorem Encoding.vadds (f : VL) : Encoding.Statement (.vadds f) := fun _ h => dec_VL 0x27 f rfl h
theorem Encoding.vsubs (f : VL) : Encoding.Statement (.vsubs f) := fun _ h => dec_VL 0x28 f rfl h
theorem Encoding.vcmp (f : VL) : Encoding.Statement (.vcmp f) := fun _ h => dec_VL 0x30 f rfl h
theorem Encoding.vsel (f : VL) : Encoding.Statement (.vsel f) := fun _ h => dec_VL 0x31 f rfl h
theorem Encoding.vmop (f : VL) : Encoding.Statement (.vmop f) := fun _ h => dec_VL 0x32 f rfl h
theorem Encoding.vcvt (f : VL) : Encoding.Statement (.vcvt f) := fun _ h => dec_VL 0x38 f rfl h
theorem Encoding.vqmax (f : VL) : Encoding.Statement (.vqmax f) := fun _ h => dec_VL 0x39 f rfl h
theorem Encoding.vqcvt (f : VL) : Encoding.Statement (.vqcvt f) := fun _ h => dec_VL 0x3a f rfl h
theorem Encoding.vqcvtx (f : VL) : Encoding.Statement (.vqcvtx f) := fun _ h => dec_VL 0x3b f rfl h
theorem Encoding.vredsum (f : VL) : Encoding.Statement (.vredsum f) := fun _ h => dec_VL 0x40 f rfl h
theorem Encoding.vredmax (f : VL) : Encoding.Statement (.vredmax f) := fun _ h => dec_VL 0x41 f rfl h
theorem Encoding.vredmin (f : VL) : Encoding.Statement (.vredmin f) := fun _ h => dec_VL 0x42 f rfl h
theorem Encoding.vredamax (f : VL) : Encoding.Statement (.vredamax f) := fun _ h => dec_VL 0x43 f rfl h
theorem Encoding.vperm (f : VL) : Encoding.Statement (.vperm f) := fun _ h => dec_VL 0x48 f rfl h
theorem Encoding.vslupLong (f : VL) : Encoding.Statement (.vslupLong f) := fun _ h => dec_VL 0x49 f rfl h
theorem Encoding.vsldnLong (f : VL) : Encoding.Statement (.vsldnLong f) := fun _ h => dec_VL 0x4a f rfl h
theorem Encoding.vbcastLong (f : VL) : Encoding.Statement (.vbcastLong f) := fun _ h => dec_VL 0x4b f rfl h
theorem Encoding.viota (f : VL) : Encoding.Statement (.viota f) := fun _ h => dec_VL 0x4c f rfl h
theorem Encoding.vcompr (f : VL) : Encoding.Statement (.vcompr f) := fun _ h => dec_VL 0x4d f rfl h
theorem Encoding.vext (f : VL) : Encoding.Statement (.vext f) := fun _ h => dec_VL 0x4e f rfl h
theorem Encoding.vins (f : VL) : Encoding.Statement (.vins f) := fun _ h => dec_VL 0x4f f rfl h
theorem Encoding.vmovLong (f : VL) : Encoding.Statement (.vmovLong f) := fun _ h => dec_VL 0x50 f rfl h
theorem Encoding.vtlu (f : VL) : Encoding.Statement (.vtlu f) := fun _ h => dec_VL 0x58 f rfl h
theorem Encoding.vtld (f : VL) : Encoding.Statement (.vtld f) := fun _ h => dec_VL 0x59 f rfl h
theorem Encoding.spawn (f : LW) : Encoding.Statement (.spawn f) := fun _ h => dec_L 0x01 0 0x01 f rfl h
theorem Encoding.spawnl (f : LW) : Encoding.Statement (.spawnl f) := fun _ h => dec_L 0x01 0 0x02 f rfl h
theorem Encoding.join (f : LW) : Encoding.Statement (.join f) := fun _ h => dec_L 0x01 0 0x03 f rfl h
theorem Encoding.tend (f : LW) : Encoding.Statement (.tend f) := fun _ h => dec_L 0x01 0 0x04 f rfl h
theorem Encoding.yield (f : LW) : Encoding.Statement (.yield f) := fun _ h => dec_L 0x01 0 0x05 f rfl h
theorem Encoding.galloc (f : LW) : Encoding.Statement (.galloc f) := fun _ h => dec_L 0x02 0 0x01 f rfl h
theorem Encoding.gfree (f : LW) : Encoding.Statement (.gfree f) := fun _ h => dec_L 0x02 0 0x02 f rfl h
theorem Encoding.greshape (f : LW) : Encoding.Statement (.greshape f) := fun _ h => dec_L 0x02 0 0x03 f rfl h
theorem Encoding.glease (f : LW) : Encoding.Statement (.glease f) := fun _ h => dec_L 0x02 0 0x04 f rfl h
theorem Encoding.grel (f : LW) : Encoding.Statement (.grel f) := fun _ h => dec_L 0x02 0 0x05 f rfl h
theorem Encoding.gfmt (f : LW) : Encoding.Statement (.gfmt f) := fun _ h => dec_L 0x02 0 0x06 f rfl h
theorem Encoding.gmma (f : LW) : Encoding.Statement (.gmma f) := fun _ h => dec_L 0x02 0 0x07 f rfl h
theorem Encoding.gdrain (f : LW) : Encoding.Statement (.gdrain f) := fun _ h => dec_L 0x02 0 0x08 f rfl h
theorem Encoding.gzero (f : LW) : Encoding.Statement (.gzero f) := fun _ h => dec_L 0x02 0 0x09 f rfl h
theorem Encoding.gsave (f : LW) : Encoding.Statement (.gsave f) := fun _ h => dec_L 0x02 0 0x0a f rfl h
theorem Encoding.grest (f : LW) : Encoding.Statement (.grest f) := fun _ h => dec_L 0x02 0 0x0b f rfl h
theorem Encoding.gstat (f : LW) : Encoding.Statement (.gstat f) := fun _ h => dec_L 0x02 0 0x0c f rfl h
theorem Encoding.cpy (f : LW) : Encoding.Statement (.cpy f) := fun _ h => dec_L 0x03 0 0x01 f rfl h
theorem Encoding.cpyg (f : LW) : Encoding.Statement (.cpyg f) := fun _ h => dec_L 0x03 0 0x02 f rfl h
theorem Encoding.cpys (f : LW) : Encoding.Statement (.cpys f) := fun _ h => dec_L 0x03 0 0x03 f rfl h
theorem Encoding.cpyr (f : LW) : Encoding.Statement (.cpyr f) := fun _ h => dec_L 0x03 0 0x04 f rfl h
theorem Encoding.cwait (f : LW) : Encoding.Statement (.cwait f) := fun _ h => dec_L 0x03 0 0x05 f rfl h
theorem Encoding.ctest (f : LW) : Encoding.Statement (.ctest f) := fun _ h => dec_L 0x03 0 0x06 f rfl h
theorem Encoding.swait (f : LW) : Encoding.Statement (.swait f) := fun _ h => dec_L 0x04 0 0x01 f rfl h
theorem Encoding.ssig (f : LW) : Encoding.Statement (.ssig f) := fun _ h => dec_L 0x04 0 0x02 f rfl h
theorem Encoding.sadd (f : LW) : Encoding.Statement (.sadd f) := fun _ h => dec_L 0x04 0 0x03 f rfl h
theorem Encoding.srdv (f : LW) : Encoding.Statement (.srdv f) := fun _ h => dec_L 0x04 0 0x04 f rfl h
theorem Encoding.bar (f : LW) : Encoding.Statement (.bar f) := fun _ h => dec_L 0x04 0 0x05 f rfl h
theorem Encoding.bara (f : LW) : Encoding.Statement (.bara f) := fun _ h => dec_L 0x04 0 0x06 f rfl h
theorem Encoding.barw (f : LW) : Encoding.Statement (.barw f) := fun _ h => dec_L 0x04 0 0x07 f rfl h
theorem Encoding.elect (f : LW) : Encoding.Statement (.elect f) := fun _ h => dec_L 0x04 0 0x08 f rfl h
theorem Encoding.fwrd (f : LW) : Encoding.Statement (.fwrd f) := fun _ h => dec_L 0x05 0 0x01 f rfl h
theorem Encoding.fwstep (f : LW) : Encoding.Statement (.fwstep f) := fun _ h => dec_L 0x05 0 0x02 f rfl h
theorem Encoding.fwstepFrw (f : LW) : Encoding.Statement (.fwstepFrw f) := fun _ h => dec_L 0x05 1 0x02 f rfl h
theorem Encoding.fwstepFwr (f : LW) : Encoding.Statement (.fwstepFwr f) := fun _ h => dec_L 0x05 2 0x02 f rfl h
theorem Encoding.fwseq (f : LW) : Encoding.Statement (.fwseq f) := fun _ h => dec_L 0x05 0 0x03 f rfl h
theorem Encoding.fwgrad (f : LW) : Encoding.Statement (.fwgrad f) := fun _ h => dec_L 0x05 0 0x04 f rfl h
theorem Encoding.fwfade (f : LW) : Encoding.Statement (.fwfade f) := fun _ h => dec_L 0x05 0 0x05 f rfl h
theorem Encoding.fwzero (f : LW) : Encoding.Statement (.fwzero f) := fun _ h => dec_L 0x05 0 0x06 f rfl h
theorem Encoding.fwld (f : LW) : Encoding.Statement (.fwld f) := fun _ h => dec_L 0x05 0 0x07 f rfl h
theorem Encoding.fwst (f : LW) : Encoding.Statement (.fwst f) := fun _ h => dec_L 0x05 0 0x08 f rfl h
theorem Encoding.shnew (f : LW) : Encoding.Statement (.shnew f) := fun _ h => dec_L 0x06 0 0x01 f rfl h
theorem Encoding.shsnap (f : LW) : Encoding.Statement (.shsnap f) := fun _ h => dec_L 0x06 0 0x02 f rfl h
theorem Encoding.shfork (f : LW) : Encoding.Statement (.shfork f) := fun _ h => dec_L 0x06 0 0x03 f rfl h
theorem Encoding.shavg (f : LW) : Encoding.Statement (.shavg f) := fun _ h => dec_L 0x06 0 0x04 f rfl h
theorem Encoding.shroll (f : LW) : Encoding.Statement (.shroll f) := fun _ h => dec_L 0x06 0 0x05 f rfl h
theorem Encoding.shmove (f : LW) : Encoding.Statement (.shmove f) := fun _ h => dec_L 0x06 0 0x06 f rfl h
theorem Encoding.shpin (f : LW) : Encoding.Statement (.shpin f) := fun _ h => dec_L 0x06 0 0x07 f rfl h
theorem Encoding.shfree (f : LW) : Encoding.Statement (.shfree f) := fun _ h => dec_L 0x06 0 0x08 f rfl h
theorem Encoding.shstat (f : LW) : Encoding.Statement (.shstat f) := fun _ h => dec_L 0x06 0 0x09 f rfl h
theorem Encoding.trap (f : LW) : Encoding.Statement (.trap f) := fun _ h => dec_L 0x07 0 0x01 f rfl h
theorem Encoding.sysc (f : LW) : Encoding.Statement (.sysc f) := fun _ h => dec_L 0x07 0 0x03 f rfl h
theorem Encoding.brk (f : LW) : Encoding.Statement (.brk f) := fun _ h => dec_L 0x07 0 0x08 f rfl h
theorem Encoding.eretResume (f : LW) : Encoding.Statement (.eretResume f) := fun _ h => dec_L 0x07 0 0x02 f rfl h
theorem Encoding.tlbi (f : LW) : Encoding.Statement (.tlbi f) := fun _ h => dec_L 0x07 0 0x04 f rfl h
theorem Encoding.cwb (f : LW) : Encoding.Statement (.cwb f) := fun _ h => dec_L 0x07 0 0x05 f rfl h
theorem Encoding.cinv (f : LW) : Encoding.Statement (.cinv f) := fun _ h => dec_L 0x07 0 0x06 f rfl h
theorem Encoding.ppt (f : LW) : Encoding.Statement (.ppt f) := fun _ h => dec_L 0x07 0 0x07 f rfl h
theorem Encoding.dsetMerge (f : LW) : Encoding.Statement (.dsetMerge f) := fun _ h => dec_L 0x08 0 0x01 f rfl h
theorem Encoding.rlogStatus (f : LW) : Encoding.Statement (.rlogStatus f) := fun _ h => dec_L 0x08 0 0x02 f rfl h
theorem Encoding.mcackAck (f : LW) : Encoding.Statement (.mcackAck f) := fun _ h => dec_L 0x09 0 0x01 f rfl h
theorem Encoding.eretEndTask (f : LW) : Encoding.Statement (.eretEndTask f) := fun h => nomatch h
theorem Encoding.eretHandlerEnd (f : LW) : Encoding.Statement (.eretHandlerEnd f) := fun h => nomatch h
theorem Encoding.dsetAdvance (f : LW) : Encoding.Statement (.dsetAdvance f) := fun h => nomatch h
theorem Encoding.rlogRelease (f : LW) : Encoding.Statement (.rlogRelease f) := fun h => nomatch h
theorem Encoding.rlogClose (f : LW) : Encoding.Statement (.rlogClose f) := fun h => nomatch h
theorem Encoding.mcackRerun (f : LW) : Encoding.Statement (.mcackRerun f) := fun h => nomatch h
theorem Encoding.mcackEndLaunch (f : LW) : Encoding.Statement (.mcackEndLaunch f) := fun h => nomatch h
theorem Encoding.jobctlRestart (f : CK) : Encoding.Statement (.jobctlRestart f) := fun h => nomatch h
theorem Encoding.jobctlAbort (f : CK) : Encoding.Statement (.jobctlAbort f) := fun h => nomatch h
theorem Encoding.engineDeadlock (sk : Nat) : Encoding.Statement (.engineDeadlock sk) := fun h => nomatch h
theorem Encoding.loadDataArrival (sk q i : Nat) : Encoding.Statement (.loadDataArrival sk q i) := fun h => nomatch h
theorem Encoding.pageWalkComplete (die asid va : Nat) : Encoding.Statement (.pageWalkComplete die asid va) := fun h => nomatch h
theorem Encoding.cacheEviction (die line : Nat) : Encoding.Statement (.cacheEviction die line) := fun h => nomatch h
theorem Encoding.waitaWake (sk : Nat) : Encoding.Statement (.waitaWake sk) := fun h => nomatch h
theorem Encoding.waitaTimeout (sk : Nat) : Encoding.Statement (.waitaTimeout sk) := fun h => nomatch h
theorem Encoding.prefetchComplete (sk id : Nat) : Encoding.Statement (.prefetchComplete sk id) := fun h => nomatch h
theorem Encoding.dequePop (sk : Nat) : Encoding.Statement (.dequePop sk) := fun h => nomatch h
theorem Encoding.stealClaim (thief victim : Nat) : Encoding.Statement (.stealClaim thief victim) := fun h => nomatch h
theorem Encoding.stealTake (thief : Nat) : Encoding.Statement (.stealTake thief) := fun h => nomatch h
theorem Encoding.taskStart (sk : Nat) : Encoding.Statement (.taskStart sk) := fun h => nomatch h
theorem Encoding.completionRelease (sk : Nat) : Encoding.Statement (.completionRelease sk) := fun h => nomatch h
theorem Encoding.joinSpinExpiry (sk : Nat) : Encoding.Statement (.joinSpinExpiry sk) := fun h => nomatch h
theorem Encoding.taskResume (sk : Nat) : Encoding.Statement (.taskResume sk) := fun h => nomatch h
theorem Encoding.notify (die slot qid : Nat) : Encoding.Statement (.notify die slot qid) := fun h => nomatch h
theorem Encoding.packetCapture (die slot : Nat) : Encoding.Statement (.packetCapture die slot) := fun h => nomatch h
theorem Encoding.dispatchDecision (die : Nat) : Encoding.Statement (.dispatchDecision die) := fun h => nomatch h
theorem Encoding.batchDraw (launch die : Nat) : Encoding.Statement (.batchDraw launch die) := fun h => nomatch h
theorem Encoding.teamSliceExpiry (launch team : Nat) : Encoding.Statement (.teamSliceExpiry launch team) := fun h => nomatch h
theorem Encoding.levelChange (die slot : Nat) : Encoding.Statement (.levelChange die slot) := fun h => nomatch h
theorem Encoding.launchEnd (launch : Nat) : Encoding.Statement (.launchEnd launch) := fun h => nomatch h
theorem Encoding.dieLost (die : Nat) : Encoding.Statement (.dieLost die) := fun h => nomatch h
theorem Encoding.preemptionRequest (sk pt : Nat) : Encoding.Statement (.preemptionRequest sk pt) := fun h => nomatch h
theorem Encoding.checkpoint (sk : Nat) : Encoding.Statement (.checkpoint sk) := fun h => nomatch h
theorem Encoding.drainTimeout (sk : Nat) : Encoding.Statement (.drainTimeout sk) := fun h => nomatch h
theorem Encoding.trapEntry (sk : Nat) : Encoding.Statement (.trapEntry sk) := fun h => nomatch h
theorem Encoding.asyncFaultDelivery (sk : Nat) : Encoding.Statement (.asyncFaultDelivery sk) := fun h => nomatch h
theorem Encoding.handlerTimeout (sk : Nat) : Encoding.Statement (.handlerTimeout sk) := fun h => nomatch h
theorem Encoding.leaseGrant (die slab : Nat) : Encoding.Statement (.leaseGrant die slab) := fun h => nomatch h
theorem Encoding.leaseRevocation (die slab : Nat) : Encoding.Statement (.leaseRevocation die slab) := fun h => nomatch h
theorem Encoding.jobWindowAccept (sk : Nat) : Encoding.Statement (.jobWindowAccept sk) := fun h => nomatch h
theorem Encoding.griddleJobStart (die slab : Nat) : Encoding.Statement (.griddleJobStart die slab) := fun h => nomatch h
theorem Encoding.griddleJobComplete (die slab : Nat) : Encoding.Statement (.griddleJobComplete die slab) := fun h => nomatch h
theorem Encoding.griddleJobHalt (die slab : Nat) : Encoding.Statement (.griddleJobHalt die slab) := fun h => nomatch h
theorem Encoding.greshapeAct (die slab : Nat) : Encoding.Statement (.greshapeAct die slab) := fun h => nomatch h
theorem Encoding.gfreeRelease (die slab : Nat) : Encoding.Statement (.gfreeRelease die slab) := fun h => nomatch h
theorem Encoding.colanderJobStart (die win : Nat) : Encoding.Statement (.colanderJobStart die win) := fun h => nomatch h
theorem Encoding.colanderChunkLand (die win chunk : Nat) : Encoding.Statement (.colanderChunkLand die win chunk) := fun h => nomatch h
theorem Encoding.colanderJobComplete (die win : Nat) : Encoding.Statement (.colanderJobComplete die win) := fun h => nomatch h
theorem Encoding.colanderJobHalt (die win chunk : Nat) : Encoding.Statement (.colanderJobHalt die win chunk) := fun h => nomatch h
theorem Encoding.phaseWaitResume (sk : Nat) : Encoding.Statement (.phaseWaitResume sk) := fun h => nomatch h
theorem Encoding.whiskAccept (sk : Nat) : Encoding.Statement (.whiskAccept sk) := fun h => nomatch h
theorem Encoding.whiskJobStart (die : Nat) : Encoding.Statement (.whiskJobStart die) := fun h => nomatch h
theorem Encoding.whiskCommit (die : Nat) : Encoding.Statement (.whiskCommit die) := fun h => nomatch h
theorem Encoding.whiskJobHalt (die : Nat) : Encoding.Statement (.whiskJobHalt die) := fun h => nomatch h
theorem Encoding.ladlePageIn (h : Nat) : Encoding.Statement (.ladlePageIn h) := fun h => nomatch h
theorem Encoding.ladleEviction (die : Nat) : Encoding.Statement (.ladleEviction die) := fun h => nomatch h
theorem Encoding.handleCommandAccept (sk : Nat) : Encoding.Statement (.handleCommandAccept sk) := fun h => nomatch h
theorem Encoding.shnewAction (h : Nat) : Encoding.Statement (.shnewAction h) := fun h => nomatch h
theorem Encoding.shsnapAction (h : Nat) : Encoding.Statement (.shsnapAction h) := fun h => nomatch h
theorem Encoding.shforkAction (h : Nat) : Encoding.Statement (.shforkAction h) := fun h => nomatch h
theorem Encoding.shavgAction (h : Nat) : Encoding.Statement (.shavgAction h) := fun h => nomatch h
theorem Encoding.shrollAction (h : Nat) : Encoding.Statement (.shrollAction h) := fun h => nomatch h
theorem Encoding.shmoveAction (h : Nat) : Encoding.Statement (.shmoveAction h) := fun h => nomatch h
theorem Encoding.shpinAction (h : Nat) : Encoding.Statement (.shpinAction h) := fun h => nomatch h
theorem Encoding.shfreeAction (h : Nat) : Encoding.Statement (.shfreeAction h) := fun h => nomatch h
theorem Encoding.handleMoveReceive (m : HandleImage) : Encoding.Statement (.handleMoveReceive m) := fun h => nomatch h
theorem Encoding.handleMoveAck (h : Nat) : Encoding.Statement (.handleMoveAck h) := fun h => nomatch h
theorem Encoding.roundClose (launch : Nat) : Encoding.Statement (.roundClose launch) := fun h => nomatch h
theorem Encoding.sfcTick (launch : Nat) : Encoding.Statement (.sfcTick launch) := fun h => nomatch h
theorem Encoding.stampOverrun (sk : Nat) : Encoding.Statement (.stampOverrun sk) := fun h => nomatch h
theorem Encoding.replayDivergence (die qid : Nat) : Encoding.Statement (.replayDivergence die qid) := fun h => nomatch h
theorem Encoding.hostCxlAccess (x : HostAccess) : Encoding.Statement (.hostCxlAccess x) := fun h => nomatch h
theorem Encoding.backInvalidateResponse (line : Nat) : Encoding.Statement (.backInvalidateResponse line) := fun h => nomatch h
theorem Encoding.ingestFrameArrival (port : Nat) (frame : List Byte) : Encoding.Statement (.ingestFrameArrival port frame) := fun h => nomatch h
theorem Encoding.ingestRecordWrite (port stream : Nat) : Encoding.Statement (.ingestRecordWrite port stream) := fun h => nomatch h
theorem Encoding.benvasPacketReceive (link : Nat) (via : Option (Nat × Nat)) (flits : List (List Byte)) : Encoding.Statement (.benvasPacketReceive link via flits) := fun h => nomatch h
theorem Encoding.benvasAckReceive (link seq : Nat) : Encoding.Statement (.benvasAckReceive link seq) := fun h => nomatch h
theorem Encoding.benvasNakReceive (link seq : Nat) : Encoding.Statement (.benvasNakReceive link seq) := fun h => nomatch h
theorem Encoding.ackTimer (link : Nat) : Encoding.Statement (.ackTimer link) := fun h => nomatch h
theorem Encoding.replayTimeout (link : Nat) : Encoding.Statement (.replayTimeout link) := fun h => nomatch h
theorem Encoding.laneFailure (link lane : Nat) : Encoding.Statement (.laneFailure link lane) := fun h => nomatch h
theorem Encoding.linkRetrainComplete (link : Nat) (wide : Bool) : Encoding.Statement (.linkRetrainComplete link wide) := fun h => nomatch h
theorem Encoding.fullWidthRetry (link : Nat) (ok : Bool) : Encoding.Statement (.fullWidthRetry link ok) := fun h => nomatch h
theorem Encoding.melperLaneLoss (lane : Nat) : Encoding.Statement (.melperLaneLoss lane) := fun h => nomatch h
theorem Encoding.ucieLinkRetrain (dieA dieB : Nat) (ok : Bool) : Encoding.Statement (.ucieLinkRetrain dieA dieB ok) := fun h => nomatch h
theorem Encoding.machineCheck (e : ErrorEvent) : Encoding.Statement (.machineCheck e) := fun h => nomatch h
theorem Encoding.mcAckTimeout (die seq : Nat) : Encoding.Statement (.mcAckTimeout die seq) := fun h => nomatch h
theorem Encoding.refreshRow (die stack row : Nat) : Encoding.Statement (.refreshRow die stack row) := fun h => nomatch h
theorem Encoding.hbmOverTemperature (die stack : Nat) : Encoding.Statement (.hbmOverTemperature die stack) := fun h => nomatch h
theorem Encoding.hbmTemperatureRecovery (die stack : Nat) : Encoding.Statement (.hbmTemperatureRecovery die stack) := fun h => nomatch h
theorem Encoding.spinelHeartbeat (die stack : Nat) : Encoding.Statement (.spinelHeartbeat die stack) := fun h => nomatch h
theorem Encoding.refreshTakeover (die stack : Nat) (handover : Bool) : Encoding.Statement (.refreshTakeover die stack handover) := fun h => nomatch h
theorem Encoding.spinelResume (die stack : Nat) : Encoding.Statement (.spinelResume die stack) := fun h => nomatch h
theorem Encoding.scrubRead (die granule : Nat) (found : ScrubFind) : Encoding.Statement (.scrubRead die granule found) := fun h => nomatch h
theorem Encoding.scrubWriteBack (die granule : Nat) : Encoding.Statement (.scrubWriteBack die granule) := fun h => nomatch h
theorem Encoding.plateRepair (die plate : Nat) : Encoding.Statement (.plateRepair die plate) := fun h => nomatch h
theorem Encoding.skilletSpareMap (die logical : Nat) : Encoding.Statement (.skilletSpareMap die logical) := fun h => nomatch h
theorem Encoding.crockBankRemap (die bank : Nat) : Encoding.Statement (.crockBankRemap die bank) := fun h => nomatch h
theorem Encoding.postPackageRepair (die stack row : Nat) : Encoding.Statement (.postPackageRepair die stack row) := fun h => nomatch h
theorem Encoding.powerManagerStep (down : Bool) : Encoding.Statement (.powerManagerStep down) := fun h => nomatch h
theorem Encoding.thermalThrottle : Encoding.Statement (.thermalThrottle) := fun h => nomatch h
theorem Encoding.thermalRecovery : Encoding.Statement (.thermalRecovery) := fun h => nomatch h
theorem Encoding.thermalTrip : Encoding.Statement (.thermalTrip) := fun h => nomatch h
theorem Encoding.coldReset : Encoding.Statement (.coldReset) := fun h => nomatch h
theorem Encoding.updateStartTimeout (comp : Nat) : Encoding.Statement (.updateStartTimeout comp) := fun h => nomatch h
theorem Encoding.hostTlbi (die : Nat) : Encoding.Statement (.hostTlbi die) := fun h => nomatch h
theorem Encoding.layinv (die : Nat) (v : DWord) : Encoding.Statement (.layinv die v) := fun h => nomatch h
theorem Encoding.registerWrite (off : Nat) (v : DWord) : Encoding.Statement (.registerWrite off v) := fun h => nomatch h
theorem Encoding.mapq : Encoding.Statement (.mapq) := fun h => nomatch h
theorem Encoding.unmapq : Encoding.Statement (.unmapq) := fun h => nomatch h
theorem Encoding.destroyq : Encoding.Statement (.destroyq) := fun h => nomatch h
theorem Encoding.freeh : Encoding.Statement (.freeh) := fun h => nomatch h
theorem Encoding.ttreg : Encoding.Statement (.ttreg) := fun h => nomatch h
theorem Encoding.window : Encoding.Statement (.window) := fun h => nomatch h
theorem Encoding.rdrep : Encoding.Statement (.rdrep) := fun h => nomatch h
theorem Encoding.mcackh : Encoding.Statement (.mcackh) := fun h => nomatch h
theorem Encoding.endl : Encoding.Statement (.endl) := fun h => nomatch h
theorem Encoding.stream : Encoding.Statement (.stream) := fun h => nomatch h
theorem Encoding.route : Encoding.Statement (.route) := fun h => nomatch h
theorem Encoding.inbound : Encoding.Statement (.inbound) := fun h => nomatch h
theorem Encoding.update : Encoding.Statement (.update) := fun h => nomatch h
theorem Encoding.attest : Encoding.Statement (.attest) := fun h => nomatch h
theorem Encoding.ident : Encoding.Statement (.ident) := fun h => nomatch h
theorem Encoding.hostSnoop (die line : Nat) (inv : Bool) : Encoding.Statement (.hostSnoop die line inv) := fun h => nomatch h
theorem Encoding.launchClassification (launch die ops bytes : Nat) : Encoding.Statement (.launchClassification launch die ops bytes) := fun h => nomatch h
theorem Encoding.componentStart (comp : Nat) : Encoding.Statement (.componentStart comp) := fun h => nomatch h
theorem Encoding.powerLoss : Encoding.Statement (.powerLoss) := fun h => nomatch h

end Sys2Proof.Laws
end

