-- ==== Sys2Proof/Laws/Step.lean ====
section
/-! SUPPORT. What a decode step comes to where the engine has one before it (01 R16), and reading memory where a die holds no remote-dirty
line (08 R197). -/

namespace Sys2Proof.Machine

open Sys2Proof

/-- An engine with its decode step before it goes on to the words at its program counter. -/
theorem State.fetchStep_of_fetches {s : State} {k : Nat} {e : Engine} (hv : e = .V → (s.tk k).vret = none) (h : s.fetches k e) :
    s.fetchStep k e = (match s.fetchAt k e ((s.tk k).eng e).pc.toNat with
      | .ok r => r
      | .error st => .moved (s.settle k e (.error st))) := by
  obtain ⟨h1, h2, h3, h4, h5, h6, h7⟩ := h
  simp only [State.tk] at h3 h4 ⊢
  have g1 : (!(s.sk k).busy || (s.sk k).halted.isSome || ((s.sk k).t.eng e).st != .run) = false := by simp [h1, h2, h3]
  have g2 : ((s.sk k).handler.isNone && (s.sk k).info.step.isSome && (s.sk k).info.step != some e) = false := by
    rcases h5 with h | h | h
    · cases hh : (s.sk k).handler <;> simp_all
    · simp [h]
    · simp [h]
  have g3 : (e == .C && (s.sk k).handler.isNone && (s.sk k).info.pend != []) = false := by
    cases he : e <;> simp [he] at h6 ⊢
    exact h6
  have g0 : s.retireLast k e = s := by
    unfold State.retireLast
    split
    · rename_i c
      simp only [Bool.and_eq_true, beq_iff_eq] at c
      rw [hv c.1] at c
      exact absurd c.2 (by simp)
    · rfl
  have g4 : (!(s.sk k).info.started && decide (2 ≤ s.levelOf k)) = false := by
    rcases h7 with h | h
    · simp [h]
    · simp [Nat.not_le.mpr h]
  simp only [State.fetchStep, g0, g1, g2, g3, g4, h4]
  rfl

/-- A short word of an engine's own, or of shared control where no stop is asked for, is its to issue. -/
theorem State.fetchAt_short {s s1 : State} {k pc : Nat} {e : Engine} {w0 : Word32} (hw : s.fetchWord k pc = .ok (w0, s1))
    (ht : tagOf w0 = e.tag ∨ tagOf w0 = 3 ∧ (s1.sk k).stopping = false) (hl : isLong w0 = false) :
    s.fetchAt k e pc = .ok (.word w0 0 s1) := by
  have nst : ((s1.sk k).stopping && tagOf w0 == 3) = false := by
    rcases ht with h | h
    · rw [h]; cases e <;> simp [Engine.tag]
    · simp [h.2]
  have ow : tagOf w0 = e.tag ∨ tagOf w0 = 3 := ht.imp id And.left
  simp only [State.fetchAt, hw, bind, Except.bind, if_pos ow, nst, hl]
  rfl

/-- A long word likewise, with its second word. -/
theorem State.fetchAt_long {s s1 s2 : State} {k pc : Nat} {e : Engine} {w0 w1 : Word32} (hw : s.fetchWord k pc = .ok (w0, s1))
    (ht : tagOf w0 = e.tag ∨ tagOf w0 = 3 ∧ (s1.sk k).stopping = false) (hl : isLong w0 = true)
    (hw1 : s1.fetchWord k (pc + 4) = .ok (w1, s2)) : s.fetchAt k e pc = .ok (.word w0 w1 s2) := by
  have nst : ((s1.sk k).stopping && tagOf w0 == 3) = false := by
    rcases ht with h | h
    · rw [h]; cases e <;> simp [Engine.tag]
    · simp [h.2]
  have ow : tagOf w0 = e.tag ∨ tagOf w0 = 3 := ht.imp id And.left
  simp only [State.fetchAt, State.fetchSecond, hw, bind, Except.bind, if_pos ow, nst, hl, hw1]
  rfl

/-- A die without remote-dirty lines writes none through. -/
theorem State.writeThrough_clean {s : State} {d line : Nat} (h : (s.die d).dirty = []) : s.writeThrough d line = s := by
  simp [State.writeThrough, Die.dirtyAt, h]

end Sys2Proof.Machine
end

