-- ==== Sys2Proof/Tests/Words.lean ====
section
/-! SUPPORT. One word of every instruction, written out from the layouts of 01 R31 and the maps of 02 R45 to R51, and what the decoder reads
from it. -/

namespace Sys2Proof.Tests

open Sys2Proof

set_option Elab.async false

/-- The words of each entry decode to its instruction. -/
noncomputable def decodeAll : List (Word32 × Word32 × Instr) → Bool
  | [] => true
  | (w0, w1, i) :: r => (match decodeWords w0 w1 with
      | .ok j => decide (j = i)
      | .error _ => false) && decodeAll r

/-- C.U words. -/
theorem test_decode_CU : decodeAll
    [(0x01600000, 0x00000000, .nop ⟨6, 0, 0⟩),
     (0x1918C004, 0x00000000, .li ⟨1, 35, 4⟩),
     (0x1AC0800F, 0x00000000, .lih ⟨12, 2, 15⟩),
     (0x1BBC000C, 0x00000000, .addpc ⟨11, 48, 12⟩)] = true := by decide +kernel

/-- C.R words. -/
theorem test_decode_CR0 : decodeAll
    [(0x026E9308, 0x00000000, .add ⟨6, 58, 19, 2⟩),
     (0x02831D95, 0x00000000, .sub ⟨8, 12, 29, 37⟩),
     (0x023DE46E, 0x00000000, .mul ⟨3, 55, 36, 27⟩),
     (0x021AC54F, 0x00000000, .mulh ⟨1, 43, 5, 19⟩),
     (0x031B0D18, 0x00000000, .mulhn ⟨1, 44, 13, 6⟩),
     (0x03313A3D, 0x00000000, .div ⟨3, 4, 58, 15⟩),
     (0x03317536, 0x00000000, .divn ⟨3, 5, 53, 13⟩),
     (0x037FBC87, 0x00000000, .rem ⟨7, 62, 60, 33⟩),
     (0x04904A08, 0x00000000, .remn ⟨9, 1, 10, 2⟩),
     (0x0433A2F9, 0x00000000, .and ⟨3, 14, 34, 62⟩),
     (0x046D8622, 0x00000000, .or ⟨6, 54, 6, 8⟩),
     (0x04518D17, 0x00000000, .xor ⟨5, 6, 13, 5⟩),
     (0x058DCDAC, 0x00000000, .andn ⟨8, 55, 13, 43⟩),
     (0x0520882D, 0x00000000, .shl ⟨2, 2, 8, 11⟩),
     (0x0563440A, 0x00000000, .shr ⟨6, 13, 4, 2⟩),
     (0x0532021F, 0x00000000, .sra ⟨3, 8, 2, 7⟩),
     (0x06EA5934, 0x00000000, .rot ⟨14, 41, 25, 13⟩),
     (0x06D1C32D, 0x00000000, .min ⟨13, 7, 3, 11⟩),
     (0x06454432, 0x00000000, .max ⟨4, 21, 4, 12⟩),
     (0x0651542F, 0x00000000, .minn ⟨5, 5, 20, 11⟩),
     (0x072F84A0, 0x00000000, .maxn ⟨2, 62, 4, 40⟩),
     (0x07DA0D9D, 0x00000000, .slt ⟨13, 40, 13, 39⟩),
     (0x07A04EDA, 0x00000000, .sltn ⟨10, 1, 14, 54⟩),
     (0x0774E963, 0x00000000, .seq ⟨7, 19, 41, 24⟩)] = true := by decide +kernel

/-- C.R words. -/
theorem test_decode_CR1 : decodeAll
    [(0x08193D10, 0x00000000, .sel ⟨1, 36, 61, 4⟩),
     (0x08C6C401, 0x00000000, .clz ⟨12, 27, 4, 0⟩),
     (0x08F8AA02, 0x00000000, .ctz ⟨15, 34, 42, 0⟩),
     (0x08E14903, 0x00000000, .popc ⟨14, 5, 9, 0⟩),
     (0x09A12258, 0x00000000, .bfx ⟨10, 4, 34, 22⟩),
     (0x09527909, 0x00000000, .bfi ⟨5, 9, 57, 2⟩),
     (0x1E400601, 0x00000000, .sendCa ⟨4, 0, 6, 0⟩),
     (0x1EE01902, 0x00000000, .sendCv ⟨14, 0, 25, 0⟩),
     (0x1F618001, 0x00000000, .recvAc ⟨6, 6, 0, 0⟩),
     (0x1F7EC002, 0x00000000, .recvVc ⟨7, 59, 0, 0⟩)] = true := by decide +kernel

/-- C.I words. -/
theorem test_decode_CI : decodeAll
    [(0x1013C41F, 0x00000000, .addi ⟨1, 15, 4, 31⟩),
     (0x11A2080B, 0x00000000, .andi ⟨10, 8, 8, 11⟩),
     (0x122C87E2, 0x00000000, .ori ⟨2, 50, 7, 226⟩),
     (0x13129407, 0x00000000, .xori ⟨1, 10, 20, 7⟩),
     (0x14155906, 0x00000000, .shli ⟨1, 21, 25, 6⟩),
     (0x15E14F0E, 0x00000000, .shri ⟨14, 5, 15, 14⟩),
     (0x16B09814, 0x00000000, .srai ⟨11, 2, 24, 20⟩),
     (0x17D67E98, 0x00000000, .ldc ⟨13, 25, 62, 152⟩),
     (0x18C38FB8, 0x00000000, .stc ⟨12, 14, 15, 184⟩)] = true := by decide +kernel

/-- C.K words. -/
theorem test_decode_CK : decodeAll
    [(0x1C20DF54, 0x00000000, .srd ⟨2, 3, 2005⟩),
     (0x1DF0C024, 0x00000000, .swt ⟨15, 3, 9⟩)] = true := by decide +kernel

/-- S.B words. -/
theorem test_decode_SB : decodeAll
    [(0xC1CA61B9, 0x00000000, .beq ⟨50, 38, 441⟩),
     (0xC2C70006, 0x00000000, .bne ⟨49, 48, 6⟩),
     (0xC3187241, 0x00000000, .blt ⟨6, 7, 577⟩),
     (0xC49C6A09, 0x00000000, .bge ⟨39, 6, 2569⟩),
     (0xC534484B, 0x00000000, .bltn ⟨13, 4, 2123⟩),
     (0xC64F045C, 0x00000000, .bgen ⟨19, 48, 1116⟩),
     (0xCAD00000, 0x00000000, .callr ⟨52, 0, 0⟩),
     (0xCB000000, 0x00000000, .ret ⟨0, 0, 0⟩)] = true := by decide +kernel

/-- S.J words. -/
theorem test_decode_SJ : decodeAll
    [(0xC802ABE1, 0x00000000, .jmp ⟨175073⟩),
     (0xC9000003, 0x00000000, .call ⟨3⟩)] = true := by decide +kernel

/-- S.X words. -/
theorem test_decode_SX : decodeAll
    [(0xFFFA00E2, 0x9E02D070, .jmpLong ⟨17592429372814364⟩),
     (0xFF000000, 0x00000015, .callLong ⟨5⟩)] = true := by decide +kernel

/-- S.L words. -/
theorem test_decode_SL : decodeAll
    [(0xCC00D008, 0x00000000, .loop ⟨13, 8⟩),
     (0xCD0063F3, 0x00000000, .loopr ⟨6, 1011⟩),
     (0xCE00900D, 0x00000000, .loopm ⟨9, 13⟩)] = true := by decide +kernel

/-- A.M words. -/
theorem test_decode_AM : decodeAll
    [(0x4195940E, 0x00000000, .ldI8 ⟨9, 11, 5, 14⟩),
     (0x42F2A801, 0x00000000, .ldN8 ⟨15, 5, 10, 1⟩),
     (0x43D6080C, 0x00000000, .ldI16 ⟨13, 12, 2, 12⟩),
     (0x4441D0C1, 0x00000000, .ldN16 ⟨4, 3, 20, 193⟩),
     (0x45B48A64, 0x00000000, .ldI32 ⟨11, 9, 2, 612⟩),
     (0x46C4D40B, 0x00000000, .ldN32 ⟨12, 9, 21, 11⟩),
     (0x47FC76B3, 0x00000000, .ld64 ⟨15, 24, 29, 691⟩),
     (0x4823FC07, 0x00000000, .st8 ⟨2, 7, 31, 7⟩),
     (0x49A7C9BC, 0x00000000, .st16 ⟨10, 15, 18, 444⟩),
     (0x4A273005, 0x00000000, .st32 ⟨2, 14, 12, 5⟩),
     (0x4BA3315D, 0x00000000, .st64 ⟨10, 6, 12, 349⟩),
     (0x5189286C, 0x00000000, .ldI8S ⟨8, 18, 10, 108⟩),
     (0x52CB7441, 0x00000000, .ldN8S ⟨12, 22, 29, 65⟩),
     (0x53A9F128, 0x00000000, .ldI16S ⟨10, 19, 28, 296⟩),
     (0x54BAE5E4, 0x00000000, .ldN16S ⟨11, 21, 25, 484⟩),
     (0x55716406, 0x00000000, .ldI32S ⟨7, 2, 25, 6⟩),
     (0x56809241, 0x00000000, .ldN32S ⟨8, 1, 4, 577⟩),
     (0x57C70D45, 0x00000000, .ld64S ⟨12, 14, 3, 325⟩),
     (0x5880DC0A, 0x00000000, .vld ⟨8, 1, 23, 10⟩),
     (0x59B08C7C, 0x00000000, .vldS ⟨11, 1, 3, 124⟩),
     (0x5AD09464, 0x00000000, .vst ⟨13, 1, 5, 100⟩)] = true := by decide +kernel

/-- A.X words. -/
theorem test_decode_AX : decodeAll
    [(0x4C369F43, 0x00000000, .ldIndexed ⟨3, 13, 7, 26, 3⟩),
     (0x4CE36B95, 0x00000000, .ldIndexedS ⟨14, 6, 26, 28, 5⟩),
     (0x4DB90D61, 0x00000000, .stIndexed ⟨11, 18, 3, 11, 1⟩),
     (0x5B10F4C0, 0x00000000, .vlds ⟨1, 1, 29, 6, 0⟩),
     (0x5BE0A0D0, 0x00000000, .vldsS ⟨14, 1, 8, 6, 0⟩),
     (0x5CA0CC00, 0x00000000, .vldx ⟨10, 1, 19, 0, 0⟩),
     (0x5C903010, 0x00000000, .vldxS ⟨9, 0, 12, 0, 0⟩),
     (0x5D4019A0, 0x00000000, .vsts ⟨4, 0, 6, 13, 0⟩),
     (0x5E00F400, 0x00000000, .vstx ⟨0, 1, 29, 0, 0⟩)] = true := by decide +kernel

/-- A.R words. -/
theorem test_decode_AR : decodeAll
    [(0x70B4A4E0, 0x00000000, .adda ⟨11, 9, 9, 7⟩),
     (0x7042BDC1, 0x00000000, .suba ⟨4, 5, 15, 14⟩),
     (0x702BE402, 0x00000000, .mova ⟨2, 23, 25, 0⟩),
     (0x71202801, 0x00000000, .sendAAc ⟨2, 0, 10, 0⟩),
     (0x71702802, 0x00000000, .sendAAv ⟨7, 0, 10, 0⟩),
     (0x729F8001, 0x00000000, .recvACa ⟨9, 31, 0, 0⟩),
     (0x72C78002, 0x00000000, .recvAVa ⟨12, 15, 0, 0⟩)] = true := by decide +kernel

/-- A.I words. -/
theorem test_decode_AI : decodeAll
    [(0x7343D00A, 0x00000000, .addai ⟨4, 7, 20, 10⟩),
     (0x74A7080F, 0x00000000, .shla ⟨10, 14, 2, 15⟩),
     (0x75BC0A6B, 0x00000000, .mulai ⟨11, 24, 2, 619⟩)] = true := by decide +kernel

/-- A.U words. -/
theorem test_decode_AU : decodeAll
    [(0x764654A3, 0x00000000, .lia ⟨4, 12, 21667⟩)] = true := by decide +kernel

/-- A.L words. -/
theorem test_decode_AL : decodeAll
    [(0x7F401500, 0x00000008, .spld ⟨4, false, 10, 0, 0, 0, 0, false, 0, 8⟩),
     (0x7F00107C, 0x00020000, .spldVector ⟨0, false, 0, 31, 0, 0, 0, false, 2, 0⟩),
     (0x7F802004, 0x48000008, .spst ⟨8, false, 0, 1, 9, 0, 0, false, 0, 8⟩),
     (0x7FE02000, 0x00040000, .spstVector ⟨14, false, 0, 0, 0, 0, 0, false, 4, 0⟩),
     (0x7FB09784, 0x001028AF, .lda ⟨11, true, 15, 1, 0, 0, 1, false, 0, 10415⟩),
     (0x7F60B05C, 0x88105414, .stl ⟨6, true, 0, 23, 17, 0, 1, false, 0, 21524⟩),
     (0x7F00C000, 0x00000000, .fence ⟨0, false, 0, 0, 0, 0, 0, false, 0, 0⟩),
     (0x7FE11404, 0x10280003, .aadd ⟨14, true, 8, 1, 2, 0, 2, true, 0, 3⟩),
     (0x7F7135A8, 0x0018386D, .aand ⟨7, true, 11, 10, 0, 0, 1, true, 0, 14445⟩),
     (0x7F415EBC, 0x68100005, .aor ⟨4, true, 29, 15, 13, 0, 1, false, 0, 5⟩),
     (0x7FD16F20, 0x0828033A, .axor ⟨13, false, 30, 8, 1, 0, 2, true, 0, 826⟩),
     (0x7F218EF0, 0x4818000F, .aswap ⟨2, false, 29, 28, 9, 0, 1, true, 0, 15⟩),
     (0x7F91B65C, 0x1268AE0B, .acas ⟨9, true, 12, 23, 2, 9, 2, true, 0, 44555⟩),
     (0x7F21D6BC, 0x18280001, .amin ⟨2, true, 13, 15, 3, 0, 2, true, 0, 1⟩),
     (0x7F11FBA0, 0x803069DE, .amax ⟨1, true, 23, 8, 16, 0, 3, false, 0, 27102⟩),
     (0x7FA2132C, 0x4030000B, .aminn ⟨10, true, 6, 11, 8, 0, 3, false, 0, 11⟩),
     (0x7FE230BC, 0x1818946C, .amaxn ⟨14, true, 1, 15, 3, 0, 1, true, 0, 37996⟩),
     (0x7FC30A1C, 0x6AD8000B, .waita ⟨12, false, 20, 7, 13, 11, 1, true, 0, 11⟩),
     (0x7F33100C, 0x11800A9C, .pfb ⟨3, false, 0, 3, 2, 6, 0, false, 0, 2716⟩),
     (0x7F032034, 0x00000000, .chkp ⟨0, false, 0, 13, 0, 0, 0, false, 0, 0⟩),
     (0x7F832000, 0x00020000, .chkpQueue ⟨8, false, 0, 0, 0, 0, 0, false, 2, 0⟩)] = true := by decide +kernel

/-- V.R words. -/
theorem test_decode_VR : decodeAll
    [(0x815C2928, 0x00000000, .vadd ⟨5, 48, 41, 10⟩),
     (0x81C177AD, 0x00000000, .vsub ⟨12, 5, 55, 43⟩),
     (0x81B1C906, 0x00000000, .vmul ⟨11, 7, 9, 1⟩),
     (0x81F4C6CF, 0x00000000, .vmin ⟨15, 19, 6, 51⟩),
     (0x824A0114, 0x00000000, .vmax ⟨4, 40, 1, 5⟩),
     (0x82C04E0D, 0x00000000, .vand ⟨12, 1, 14, 3⟩),
     (0x826A0B26, 0x00000000, .vor ⟨6, 40, 11, 9⟩),
     (0x8253C513, 0x00000000, .vxor ⟨5, 15, 5, 4⟩),
     (0x83735D00, 0x00000000, .vmov ⟨7, 13, 29, 0⟩),
     (0x83E23F01, 0x00000000, .vnot ⟨14, 8, 63, 0⟩),
     (0x8377F002, 0x00000000, .vabs ⟨7, 31, 48, 0⟩),
     (0x8383D403, 0x00000000, .vneg ⟨8, 15, 20, 0⟩),
     (0x86438704, 0x00000000, .kadd ⟨4, 14, 7, 1⟩),
     (0x8633CF01, 0x00000000, .kmov ⟨3, 15, 15, 0⟩),
     (0x87E00901, 0x00000000, .sendVVc ⟨14, 0, 9, 0⟩),
     (0x87D00F02, 0x00000000, .sendVVa ⟨13, 0, 15, 0⟩),
     (0x88434001, 0x00000000, .recvVCv ⟨4, 13, 0, 0⟩),
     (0x88134002, 0x00000000, .recvVAv ⟨1, 13, 0, 0⟩)] = true := by decide +kernel

/-- V.K words. -/
theorem test_decode_VK : decodeAll
    [(0x84FBC650, 0x00000000, .vaddK ⟨15, 47, 6, 5⟩),
     (0x843C8461, 0x00000000, .vsubK ⟨3, 50, 4, 6⟩),
     (0x84F42EB2, 0x00000000, .vmulK ⟨15, 16, 46, 11⟩),
     (0x84FB8833, 0x00000000, .vminK ⟨15, 46, 8, 3⟩),
     (0x845C4244, 0x00000000, .vmaxK ⟨5, 49, 2, 4⟩),
     (0x84445385, 0x00000000, .vshl ⟨4, 17, 19, 8⟩),
     (0x84BA17C6, 0x00000000, .vshr ⟨11, 40, 23, 12⟩),
     (0x8458FB37, 0x00000000, .vsra ⟨5, 35, 59, 3⟩),
     (0x8423C098, 0x00000000, .vbcast ⟨2, 15, 0, 9⟩),
     (0x84FB98C9, 0x00000000, .vslup ⟨15, 46, 24, 12⟩),
     (0x8422FD4A, 0x00000000, .vsldn ⟨2, 11, 61, 4⟩)] = true := by decide +kernel

/-- V.I words. -/
theorem test_decode_VI : decodeAll
    [(0x85A3000C, 0x00000000, .kli ⟨10, 3, 12⟩)] = true := by decide +kernel

/-- V.L words. -/
theorem test_decode_VL0 : decodeAll
    [(0xBF001006, 0x00000000, .vcfg ⟨0, 0, 6, 0, 0, 0, false, 0, 0, 0, false, 0⟩),
     (0xBFD10017, 0x00010000, .vaddLong ⟨13, 0, 23, 0, 0, 0, true, 0, 0, 0, false, 0⟩),
     (0xBFB11A80, 0x00000000, .vsubLong ⟨11, 42, 0, 0, 0, 0, false, 0, 0, 0, false, 0⟩),
     (0xBF012008, 0x00000010, .vmulLong ⟨0, 0, 8, 0, 0, 0, false, 0, 0, 1, false, 0⟩),
     (0xBFF1320C, 0x109B0800, .vfma ⟨15, 8, 12, 4, 9, 5, true, 0, 4, 0, false, 0⟩),
     (0xBFB14251, 0x34E70A10, .vfms ⟨11, 9, 17, 13, 14, 3, true, 0, 5, 1, false, 0⟩),
     (0xBF71502D, 0x28FF0818, .vfnma ⟨7, 0, 45, 10, 15, 7, true, 0, 4, 1, true, 0⟩),
     (0xBF71602C, 0x200B0A00, .vdiv ⟨7, 0, 44, 8, 0, 5, true, 0, 5, 0, false, 0⟩),
     (0xBF017012, 0x00070400, .vsqrt ⟨0, 0, 18, 0, 0, 3, true, 0, 2, 0, false, 0⟩),
     (0xBF018400, 0x00010000, .vrcp ⟨0, 16, 0, 0, 0, 0, true, 0, 0, 0, false, 0⟩),
     (0xBF019000, 0x00010008, .vrsq ⟨0, 0, 0, 0, 0, 0, true, 0, 0, 0, true, 0⟩),
     (0xBF01AAC0, 0x3C010000, .vminLong ⟨0, 43, 0, 15, 0, 0, true, 0, 0, 0, false, 0⟩),
     (0xBFC1B035, 0x000F0000, .vmaxLong ⟨12, 0, 53, 0, 0, 7, true, 0, 0, 0, false, 0⟩),
     (0xBF01C080, 0x00010008, .vabsLong ⟨0, 2, 0, 0, 0, 0, true, 0, 0, 0, true, 0⟩),
     (0xBF41D000, 0x00010008, .vnegLong ⟨4, 0, 0, 0, 0, 0, true, 0, 0, 0, true, 0⟩),
     (0xBF01E00F, 0x98000000, .vcpys ⟨0, 0, 15, 38, 0, 0, false, 0, 0, 0, false, 0⟩),
     (0xBF020380, 0x00000180, .vandLong ⟨0, 14, 0, 0, 0, 0, false, 0, 0, 24, false, 0⟩),
     (0xBF02102D, 0x9C0B0190, .vorLong ⟨0, 0, 45, 39, 0, 5, true, 0, 0, 25, false, 0⟩),
     (0xBF522540, 0x34000190, .vxorLong ⟨5, 21, 0, 13, 0, 0, false, 0, 0, 25, false, 0⟩),
     (0xBF023280, 0x00010180, .vnotLong ⟨0, 10, 0, 0, 0, 0, true, 0, 0, 24, false, 0⟩),
     (0xBF024000, 0x00010180, .vshlLong ⟨0, 0, 0, 0, 0, 0, true, 0, 0, 24, false, 0⟩),
     (0xBFE255C5, 0x00000180, .vshrLong ⟨14, 23, 5, 0, 0, 0, false, 0, 0, 24, false, 0⟩),
     (0xBF6260E4, 0x2C000190, .vsraLong ⟨6, 3, 36, 11, 0, 0, false, 0, 0, 25, false, 0⟩),
     (0xBFA27080, 0x98000090, .vadds ⟨10, 2, 0, 38, 0, 0, false, 0, 0, 9, false, 0⟩)] = true := by decide +kernel

/-- V.L words. -/
theorem test_decode_VL1 : decodeAll
    [(0xBFF28180, 0x00000190, .vsubs ⟨15, 6, 0, 0, 0, 0, false, 0, 0, 25, false, 0⟩),
     (0xBF4301A5, 0xEC090011, .vcmp ⟨4, 6, 37, 59, 0, 4, true, 0, 0, 1, false, 1⟩),
     (0xBF0312C0, 0xEC0D0000, .vsel ⟨0, 11, 0, 59, 0, 6, true, 0, 0, 0, false, 0⟩),
     (0xBFF32000, 0x00000000, .vmop ⟨15, 0, 0, 0, 0, 0, false, 0, 0, 0, false, 0⟩),
     (0xBF23818D, 0x00710408, .vcvt ⟨2, 6, 13, 0, 7, 0, true, 0, 2, 0, true, 0⟩),
     (0xBF039040, 0x00000040, .vqmax ⟨0, 1, 0, 0, 0, 0, false, 0, 0, 4, false, 0⟩),
     (0xBF83A000, 0x08000AB0, .vqcvt ⟨8, 0, 0, 2, 0, 0, false, 0, 5, 11, false, 0⟩),
     (0xBF23B100, 0x000000A0, .vqcvtx ⟨2, 4, 0, 0, 0, 0, false, 0, 0, 10, false, 0⟩),
     (0xBF040290, 0x00000000, .vredsum ⟨0, 10, 16, 0, 0, 0, false, 0, 0, 0, false, 0⟩),
     (0xBF041000, 0x00000000, .vredmax ⟨0, 0, 0, 0, 0, 0, false, 0, 0, 0, false, 0⟩),
     (0xBFD42240, 0x00010000, .vredmin ⟨13, 9, 0, 0, 0, 0, true, 0, 0, 0, false, 0⟩),
     (0xBF043006, 0x00000000, .vredamax ⟨0, 0, 6, 0, 0, 0, false, 0, 0, 0, false, 0⟩),
     (0xBF048000, 0x00010000, .vperm ⟨0, 0, 0, 0, 0, 0, true, 0, 0, 0, false, 0⟩),
     (0xBF049000, 0x00010000, .vslupLong ⟨0, 0, 0, 0, 0, 0, true, 0, 0, 0, false, 0⟩),
     (0xBF14A005, 0x00000000, .vsldnLong ⟨1, 0, 5, 0, 0, 0, false, 0, 0, 0, false, 0⟩),
     (0xBF04B000, 0x34010000, .vbcastLong ⟨0, 0, 0, 13, 0, 0, true, 0, 0, 0, false, 0⟩),
     (0xBF04C000, 0x00000000, .viota ⟨0, 0, 0, 0, 0, 0, false, 0, 0, 0, false, 0⟩),
     (0xBFA4D765, 0x00050000, .vcompr ⟨10, 29, 37, 0, 0, 2, true, 0, 0, 0, false, 0⟩),
     (0xBF94E384, 0x00000000, .vext ⟨9, 14, 4, 0, 0, 0, false, 0, 0, 0, false, 0⟩),
     (0xBF04F400, 0x00000000, .vins ⟨0, 16, 0, 0, 0, 0, false, 0, 0, 0, false, 0⟩),
     (0xBFA5000F, 0x00000000, .vmovLong ⟨10, 0, 15, 0, 0, 0, false, 0, 0, 0, false, 0⟩),
     (0xBFA5830C, 0x00000000, .vtlu ⟨10, 12, 12, 0, 0, 0, false, 0, 0, 0, false, 0⟩),
     (0xBFE59000, 0x00000200, .vtld ⟨14, 0, 0, 0, 0, 0, false, 0, 1, 0, false, 0⟩)] = true := by decide +kernel

/-- L words. -/
theorem test_decode_LW0 : decodeAll
    [(0x3F70EC14, 0x04010005, .spawn ⟨7, 3, 44, 5, 5⟩),
     (0x3F6A4F2C, 0x04026470, .spawnl ⟨6, 41, 15, 11, 25712⟩),
     (0x3F201700, 0x04030003, .join ⟨2, 0, 23, 0, 3⟩),
     (0x3F000000, 0x04040000, .tend ⟨0, 0, 0, 0, 0⟩),
     (0x3FB28000, 0x0405493B, .yield ⟨11, 10, 0, 0, 18747⟩),
     (0x3FC29600, 0x0801C7A1, .galloc ⟨12, 10, 22, 0, 51105⟩),
     (0x3FE00B00, 0x080277C1, .gfree ⟨14, 0, 11, 0, 30657⟩),
     (0x3F494E0C, 0x0803000F, .greshape ⟨4, 37, 14, 3, 15⟩),
     (0x3F400274, 0x0804000B, .glease ⟨4, 0, 2, 29, 11⟩),
     (0x3F900F00, 0x08056F2A, .grel ⟨9, 0, 15, 0, 28458⟩),
     (0x3F400780, 0x080620D4, .gfmt ⟨4, 0, 7, 32, 8404⟩),
     (0x3F6AC158, 0x08073C90, .gmma ⟨6, 43, 1, 22, 15504⟩),
     (0x3F328418, 0x080891D9, .gdrain ⟨3, 10, 4, 6, 37337⟩),
     (0x3F801A00, 0x08090005, .gzero ⟨8, 0, 26, 0, 5⟩),
     (0x3FF9F004, 0x080AE1BC, .gsave ⟨15, 39, 48, 1, 57788⟩),
     (0x3FC38A80, 0x080B7A78, .grest ⟨12, 14, 10, 32, 31352⟩),
     (0x3FB23A08, 0x080C0007, .gstat ⟨11, 8, 58, 2, 7⟩),
     (0x3FF2005C, 0x0C010008, .cpy ⟨15, 8, 0, 23, 8⟩),
     (0x3F11C028, 0x0C0239E6, .cpyg ⟨1, 7, 0, 10, 14822⟩),
     (0x3FC3C010, 0x0C03000B, .cpys ⟨12, 15, 0, 4, 11⟩),
     (0x3F20C074, 0x0C041A37, .cpyr ⟨2, 3, 0, 29, 6711⟩),
     (0x3FD029B0, 0x0C050008, .cwait ⟨13, 0, 41, 44, 8⟩),
     (0x3FF48900, 0x0C06C6D4, .ctest ⟨15, 18, 9, 0, 50900⟩),
     (0x3F70071C, 0x1001F4F6, .swait ⟨7, 0, 7, 7, 62710⟩)] = true := by decide +kernel

/-- L words. -/
theorem test_decode_LW1 : decodeAll
    [(0x3FB00100, 0x10028189, .ssig ⟨11, 0, 1, 0, 33161⟩),
     (0x3F944FFC, 0x1003000E, .sadd ⟨9, 17, 15, 63, 14⟩),
     (0x3FCACC00, 0x100445E8, .srdv ⟨12, 43, 12, 0, 17896⟩),
     (0x3F200D00, 0x1005000F, .bar ⟨2, 0, 13, 0, 15⟩),
     (0x3FB14300, 0x1006511D, .bara ⟨11, 5, 3, 0, 20765⟩),
     (0x3F80017C, 0x1007000F, .barw ⟨8, 0, 1, 31, 15⟩),
     (0x3F7B8800, 0x1008000A, .elect ⟨7, 46, 8, 0, 10⟩),
     (0x3F50CCF8, 0x1401B33A, .fwrd ⟨5, 3, 12, 62, 45882⟩),
     (0x3F92C638, 0x14020009, .fwstep ⟨9, 11, 6, 14, 9⟩),
     (0x3F6EEE38, 0x1502AA14, .fwstepFrw ⟨6, 59, 46, 14, 43540⟩),
     (0x3FFD8E18, 0x1602E9A7, .fwstepFwr ⟨15, 54, 14, 6, 59815⟩),
     (0x3FB5AB3C, 0x14038758, .fwseq ⟨11, 22, 43, 15, 34648⟩),
     (0x3F43F6AC, 0x1404FCDE, .fwgrad ⟨4, 15, 54, 43, 64734⟩),
     (0x3FA16274, 0x1405CDD2, .fwfade ⟨10, 5, 34, 29, 52690⟩),
     (0x3F3DE484, 0x14060004, .fwzero ⟨3, 55, 36, 33, 4⟩),
     (0x3F835DD4, 0x1407000F, .fwld ⟨8, 13, 29, 53, 15⟩),
     (0x3F48282C, 0x14081690, .fwst ⟨4, 32, 40, 11, 5776⟩),
     (0x3F7F050C, 0x18012544, .shnew ⟨7, 60, 5, 3, 9540⟩),
     (0x3FC2E640, 0x1802000F, .shsnap ⟨12, 11, 38, 16, 15⟩),
     (0x3FADCEE4, 0x18037A79, .shfork ⟨10, 55, 14, 57, 31353⟩),
     (0x3F400368, 0x18043070, .shavg ⟨4, 0, 3, 26, 12400⟩),
     (0x3F4006F0, 0x18059A34, .shroll ⟨4, 0, 6, 60, 39476⟩),
     (0x3F32F42C, 0x18061C70, .shmove ⟨3, 11, 52, 11, 7280⟩),
     (0x3F5008F8, 0x1807000A, .shpin ⟨5, 0, 8, 62, 10⟩)] = true := by decide +kernel

/-- L words. -/
theorem test_decode_LW2 : decodeAll
    [(0x3FE00D00, 0x18080003, .shfree ⟨14, 0, 13, 0, 3⟩),
     (0x3F8AABB4, 0x18096386, .shstat ⟨8, 42, 43, 45, 25478⟩),
     (0x3F400700, 0x1C01CD38, .trap ⟨4, 0, 7, 0, 52536⟩),
     (0x3FC00200, 0x1C03D076, .sysc ⟨12, 0, 2, 0, 53366⟩),
     (0x3F000000, 0x1C080000, .brk ⟨0, 0, 0, 0, 0⟩),
     (0x3F001400, 0x1C02191F, .eretResume ⟨0, 0, 20, 0, 6431⟩),
     (0x3F3032B8, 0x1C04BE1F, .tlbi ⟨3, 0, 50, 46, 48671⟩),
     (0x3FB00E1C, 0x1C05F55E, .cwb ⟨11, 0, 14, 7, 62814⟩),
     (0x3F801B14, 0x1C064DBE, .cinv ⟨8, 0, 27, 5, 19902⟩),
     (0x3F431E70, 0x1C070005, .ppt ⟨4, 12, 30, 28, 5⟩),
     (0x3F236E08, 0x20011899, .dsetMerge ⟨2, 13, 46, 2, 6297⟩),
     (0x3FD951B4, 0x2002000A, .rlogStatus ⟨13, 37, 17, 45, 10⟩),
     (0x3F91C8C4, 0x2401E96B, .mcackAck ⟨9, 7, 8, 49, 59755⟩)] = true := by decide +kernel

end Sys2Proof.Tests
end

