-- ==== Sys2Proof/Tests/Slice0.lean ====
section
/-! SUPPORT. Helpers of the tests, ill-formed terms that the well-formedness check refuses, and the worked examples of the spec. -/

namespace Sys2Proof.Tests

open Sys2Proof Sys2Proof.Machine

set_option Elab.async false

/-- Launch 1 of context 1 runs on Skillet 0, engine `e` acts, its registers as `f` leaves them. -/
def st (e : Engine) (f : Issue → Issue) : State := (fetchSetup State.reset e []).onTk 0 f

/-- What holds of the state an instruction leads to. -/
def leads (o : Host.Outcome State Fault Refusal) (p : State → Bool) : Bool :=
  match o with
  | .next t => p t
  | _ => false

/-- The registers of two issue states agree. -/
def sameR (t u : Issue) : Bool :=
  t.s == u.s && t.ar == u.ar && t.aP == u.aP && t.k == u.k && t.kP == u.kP && t.m == u.m && t.vr == u.vr && t.vP == u.vP &&
    t.vl == u.vl && t.wp == u.wp && t.qn == u.qn && t.win == u.win && t.cst == u.cst && t.slipw == u.slipw && t.fpctl == u.fpctl &&
    t.srseed == u.srseed && t.remt == u.remt && t.mbox == u.mbox

/-- Engine `e` of Skillet 0 has stopped with an exception. -/
def took (t : State) (e : Engine) (code : Nat) : Bool :=
  match ((t.tk 0).eng e).st with
  | .faulted r => r.code == code && ((t.tk 0).eng e).pc == 0x10000
  | _ => false

/-! ### Fields the checks refuse (01 R15, 02 R45 to R52); Tests/WellFormed.lean has a term for every other check -/

theorem test_wf_nop : (Instr.nop ⟨0, 1, 0⟩).wellFormed = false ∧ (Instr.nop ⟨0, 0, 1⟩).wellFormed = false := by decide
theorem test_wf_clz : (Instr.clz ⟨0, 1, 2, 3⟩).wellFormed = false := by decide
theorem test_wf_loop : (Instr.loop ⟨5, 0⟩).wellFormed = false := by decide

/-- A word whose unused field is not zero is refused as such, one that names no row as unassigned (01 R15, 02 R43). -/
theorem test_decode_refuses : (match decodeWords 0x01000001 0, decodeWords 0x00000000 0, decodeWords 0x09000002 0 with
    | .error a, .error b, .error c => a == .reservedField && b == .unassigned && c == .unassigned
    | _, _, _ => false) = true := by decide +kernel

/-! ### Words the spec writes out -/

/-- 02 R45, 05 R111, R115, R130, 06 R147, R148, R152, R162, 10 R262, 14 R353, R371, 17 R429. -/
theorem test_words_of_the_spec : decodeAll [
    (0x01000000, 0, .nop ⟨0, 0, 0⟩),
    (0x47018802, 0, .ld64 ⟨0, 3, 2, 2⟩),
    (0x58008802, 0, .vld ⟨0, 1, 2, 2⟩),
    (0x7F022290, 0x30200000, .amaxn ⟨0, false, 5, 4, 6, 0, 2, false, 0, 0⟩),
    (0x8100C108, 0, .vadd ⟨0, 3, 1, 2⟩),
    (0x84010935, 0, .vshl ⟨0, 4, 9, 3⟩),
    (0xBF038081, 0x00000040, .vcvt ⟨0, 2, 1, 0, 0, 0, false, 0, 0, 4, false, 0⟩),
    (0x8502FFFF, 0, .kli ⟨0, 2, 0xFFFF⟩),
    (0x3F03C050, 0x0C010000, .cpy ⟨0, 15, 0, 20, 0⟩),
    (0x3F03CB50, 0x15020000, .fwstepFrw ⟨0, 15, 11, 20, 0⟩),
    (0x3F030B34, 0x18020000, .shsnap ⟨0, 12, 11, 13, 0⟩),
    (0x3F000B30, 0x18050000, .shroll ⟨0, 0, 11, 12, 0⟩),
    (0x3F01461C, 0x24010000, .mcackAck ⟨0, 5, 6, 7, 0⟩)] = true := by decide +kernel

/-! ### Worked examples -/

/-- 04 R87: the field 0xC, sign-extended. -/
theorem test_bfx : leads (exec (.bfx ⟨0, 3, 1, 2⟩) (st .C (fun t => (t.setS 1 0xABCD).setS 2 0x8404)))
    (fun t => (t.tk 0).getS 3 == 0xFFFFFFFFFFFFFFFC && (t.tk 0).c.pc == 0x10004) = true := by decide +kernel

/-- 04 R87: four bits of sa inserted at bit 4. -/
theorem test_bfi : leads (exec (.bfi ⟨0, 3, 1, 2⟩) (st .C (fun t => (t.setS 1 0xABCD).setS 2 0x8404)))
    (fun t => (t.tk 0).getS 3 == 0xD0) = true := by decide +kernel

/-- 04 R89. -/
theorem test_li : leads (exec (.li ⟨0, 3, 0x3FFF⟩) (st .C id)) (fun t => (t.tk 0).getS 3 == 0xFFFFFFFFFFFFFFFF) = true := by decide +kernel
theorem test_lih : leads (exec (.lih ⟨0, 3, 0x3FFF⟩) (st .C (fun t => t.setS 3 1))) (fun t => (t.tk 0).getS 3 == 0x7FFF) = true := by
  decide +kernel

/-- 04 R84: the quotient of the least number and -1, and division by zero. -/
theorem test_div : leads (exec (.div ⟨0, 3, 1, 2⟩) (st .C (fun t => (t.setS 1 0x8000000000000000).setS 2 0xFFFFFFFFFFFFFFFF)))
    (fun t => (t.tk 0).getS 3 == 0x8000000000000000) = true := by decide +kernel
theorem test_rem_zero : leads (exec (.rem ⟨0, 3, 1, 2⟩) (st .C (fun t => t.setS 1 0xFFFFFFFFFFFFFFF9)))
    (fun t => (t.tk 0).getS 3 == 0xFFFFFFFFFFFFFFF9) = true := by decide +kernel

/-- 01 R33: a BNE at 0x10040 whose OFF12 is 0xFFC goes to 0x10030. -/
theorem test_bne_back : leads (exec (.bne ⟨1, 2, 0xFFC⟩) (st .C (fun t => { t.setS 1 5 with c := { pc := 0x10040 } })))
    (fun t => (t.tk 0).c.pc == 0x10030 && (t.tk 0).oqa == [⟨0x10040, true, 0⟩]) = true := by decide +kernel

/-- 06 R158: with VL = 4, the tree over 2^24, 1, 1, 1 gives 0x4B800001. -/
theorem test_vredsum_tree :
    leads (exec (.vredsum ⟨0, 3, 1, 0, 0, 0, false, 0, 0, 0, false, 0⟩)
      (st .V (fun t => { t with vl := 4 }.setV 1 0x3F8000003F8000003F8000004B800000 0)))
      (fun t => (t.tk 0).getK 3 == 0x4B800001) = true := by decide +kernel

/-- 06 R162. -/
theorem test_kli : leads (exec (.kli ⟨0, 2, 0xFFFF⟩) (st .V id)) (fun t => (t.tk 0).getK 2 == 0xFFFFFFFFFFFFFFFF) = true := by
  decide +kernel

/-- 00 R9, R10, 03 R57: 3.3333335 and the quotient 10 / 3 round to E4M3 0x45. -/
theorem test_two_roundings : (e4m3.conv {} (fp32.decode 0x40555556) false).1 = 0x45 ∧
    (let (q, st, _) := (fp32.decode 0x41200000).div (fp32.decode 0x40400000)
     (e4m3.conv {} q st).1) = 0x45 := by decide +kernel

/-- The chunk of 14 R359's example: two tokens of one head, DK = DV = 2, β = 1. -/
def exToks : List WTok :=
  [⟨decs [0x3F800000, 0x3F800000], decs [0x3F800000, 0], decs [0x3F800000, 0x3F800000], fp32.decode 0x3F800000⟩,
   ⟨decs [0x40000000, 0], decs [0, 0x3F800000], decs [0x40400000, 0x40000000], fp32.decode 0x3F800000⟩]
def exMat : Mat := [[0x3F800000, 0x40000000], [0, 0x40800000]]

/-- 14 R359: outputs and state of the three orders of FWSTEP. -/
theorem test_fwstep :
    fwStepHead 0 true (fp32.decode 0x3F000000) exMat exToks =
      ⟨[[0x3F800000, 0x40400000], [0x3F800000, 0x40000000]], [[0x40400000, 0x40800000], [0x40000000, 0]], 0⟩ ∧
    (fwStepHead 1 true (fp32.decode 0x3F000000) exMat exToks).outs = [[0x3FC00000, 0x40000000], [0x3F800000, 0]] ∧
    (fwStepHead 2 true (fp32.decode 0x3F000000) exMat exToks).outs = [[0x40800000, 0x40400000], [0x40000000, 0x40000000]] := by
  decide +kernel

/-- 14 R360: FWSEQ over the same chunk. -/
theorem test_fwseq :
    fwSeqHead true (fp32.decode 0x3F000000) exMat exToks =
      ⟨[[0x3F000000, 0x40400000], [0x3F000000, 0x40000000]], [[0x40000000, 0x40400000], [0x3F800000, 0x3F800000]], 0⟩ := by decide +kernel

/-- 17 R416: the example's entry, view offsets 0x1640 and 0x164C. -/
theorem test_layout :
    apertureOf 0x1401400001640 = some (1, 5, 0x1640) ∧
    (let e : Tensor := ⟨true, false, 2, 16, 32, 0x2000000000, 100, 70, 256, 0x1234, true⟩
     e.resolve 1 0x1640 = .inl (0x2000000000 + 0x1980) ∧ e.resolve 1 0x164C = .inr 0x34) := by decide +kernel

/-- The machine starts with power, no agenda and nothing running; its first step is engine C of a Skillet without a task (01 R16). -/
theorem test_reset_step : (match step State.reset with
    | .next t => decide (t = State.reset)
    | _ => false) = true := by decide +kernel

/-- A word placed for the next step is fetched and run (log 7). -/
theorem test_step_runs : (match step (State.reset.withFetchWord 32 0x1900C005) with
    | .next t => decide ((t.tk 0).getS 3 = 5)
    | _ => false) = true := by decide +kernel

end Sys2Proof.Tests
end

