-- ==== Sys2Proof/Tests/EngineWitnesses.lean ====
section
/-! SUPPORT. States and operands that meet the hypotheses of the statements about the words of the three engines, with one step each. -/

namespace Sys2Proof.Tests

open Sys2Proof Sys2Proof.Machine

set_option Elab.async false

/-- An answer that is `.ok a`, by evaluation. -/
theorem ok_of {ε α : Type} [DecidableEq α] {x : Except ε α} {a : α}
    (h : (match x with | .ok b => decide (b = a) | .error _ => false) = true) : x = .ok a := by
  cases x with
  | ok b => simpa using h
  | error e => simp at h

/-- An address of the page of code and data at 0x10000. -/
def loc (a : Nat) : Loc := ⟨a, a, false, false, false, 0x1001F, 3⟩

/-- A state with changed facts of the task on Skillet 0. -/
def stI (e : Engine) (f : Issue → Issue) (g : TaskInfo → TaskInfo) : State := (st e f).onInfo 0 g

/-- The same in a handler run (12 R301). -/
def stH (e : Engine) (f : Issue → Issue) : State :=
  (st e f).updSk 0 (fun x => { x with handler := some ⟨0x20000, 1, 2, 3, 4, none, false, false, 0⟩ })

/-! ### The C-engine -/

theorem wit_ScalarResults : ∃ v, scalarRule (.add ⟨0, 3, 1, 2⟩) = some (0, 3, v) ∧ (st .C id).mayIssue .C 0 none none ∧ (st .C id).straight .C :=
  ⟨_, rfl, by decide +kernel, by decide +kernel⟩

theorem wit_SelectAndBitCounts :
    let s := st .C (fun t => (t.setS 1 12).setS 3 1)
    (s.mayIssue .C 0 none none ∧ s.straight .C) ∧ (s.tk 0).getS 3 ≠ 0 ∧ (s.tk 0).getS 4 = 0 ∧
      (((s.tk 0).getS 1).getLsbD 3 = true ∧ ∀ j, 3 < j → j < 64 → ((s.tk 0).getS 1).getLsbD j = false) ∧
      (((s.tk 0).getS 1).getLsbD 2 = true ∧ ∀ j, j < 2 → ((s.tk 0).getS 1).getLsbD j = false) ∧ (s.tk 0).getS 5 = 0 := by
  have h : ∀ j, j < 64 → 3 < j → ((12 : DWord)).getLsbD j = false := by decide +kernel
  exact ⟨by decide +kernel, by decide +kernel, by decide +kernel, ⟨by decide +kernel, fun j a b => h j b a⟩, by decide +kernel,
    by decide +kernel⟩
theorem test_clz : leads (exec (.clz ⟨0, 5, 1, 0⟩) (st .C (fun t => t.setS 1 12))) (fun t => (t.tk 0).getS 5 == 60) = true := by
  decide +kernel
theorem test_ctz_zero : leads (exec (.ctz ⟨0, 5, 1, 0⟩) (st .C id)) (fun t => (t.tk 0).getS 5 == 64) = true := by decide +kernel
theorem test_popc : leads (exec (.popc ⟨0, 5, 1, 0⟩) (st .C (fun t => t.setS 1 12))) (fun t => (t.tk 0).getS 5 == 2) = true := by
  decide +kernel
theorem test_sel_s0 : leads (exec (.sel ⟨0, 0, 1, 2⟩) (st .C (fun t => t.setS 2 7))) (fun t => (t.tk 0).getS 0 == 0) = true := by
  decide +kernel

theorem wit_ConstantsLoaded : (st .C id).mayIssue .C 0 none none ∧ (st .C id).straight .C ∧
    (0x3FAB : BitVec 14).extractLsb' 0 8 = (0xAB00000000000001 : DWord).extractLsb' 56 8 := by decide +kernel

theorem wit_CStoreAccess :
    let ix (t : Issue) (f : CI) : Int := ((t.getS f.a).toNat : Int) + f.imm.toInt
    let s := st .C (fun t => t.setS 1 511)
    s.mayIssue .C 0 none none ∧ s.straight .C ∧ (s.sk s.cur).handler = none ∧ (0 ≤ ix (s.tk 0) ⟨0, 2, 1, 0⟩ ∧ ix (s.tk 0) ⟨0, 2, 1, 0⟩ < 512) ∧
      ¬ (0 ≤ ix (s.tk 0) ⟨0, 2, 1, 1⟩ ∧ ix (s.tk 0) ⟨0, 2, 1, 1⟩ < 512) ∧
      ¬ (0 ≤ ix (s.tk 0) ⟨0, 2, 0, 0xFF⟩ ∧ ix (s.tk 0) ⟨0, 2, 0, 0xFF⟩ < 512) := by decide +kernel
theorem test_stc : leads (exec (.stc ⟨0, 2, 1, 0⟩) (st .C (fun t => (t.setS 1 511).setS 2 9)))
    (fun t => Tbl.look 0 (t.tk 0).cst 511 == 9) = true := by decide +kernel
theorem test_ldc_bound : leads (exec (.ldc ⟨0, 2, 0, 0xFF⟩) (st .C id)) (fun t => took t .C Code.cstoreBound) = true := by decide +kernel

theorem wit_SpecialRegisterReads : (st .C id).mayIssue .C 0 none none ∧ (st .C id).straight .C ∧
    ((st .C id).sk 0).handler = none ∧ ((stH .C id).mayIssue .C 0 none none ∧ (stH .C id).straight .C ∧
      ((stH .C id).sk 0).handler = some ⟨0x20000, 1, 2, 3, 4, none, false, false, 0⟩) := by decide +kernel
theorem test_srd_slipw : leads (exec (.srd ⟨0, 2, 0⟩) (st .C id)) (fun t => (t.tk 0).getS 2 == 64) = true := by decide +kernel
theorem test_srd_tinfo : leads (exec (.srd ⟨0, 2, 0x802⟩) (stH .C id)) (fun t => (t.tk 0).getS 2 == 3) = true := by decide +kernel

theorem wit_SpecialRegisterWrites :
    let s := st .C (fun t => (t.setS 1 64).setS 2 65)
    s.mayIssue .C 0 none none ∧ s.straight .C ∧ (s.sk s.cur).handler = none ∧
      (1 ≤ ((s.tk 0).getS 1).toNat ∧ ((s.tk 0).getS 1).toNat ≤ 64) ∧ ¬ (1 ≤ ((s.tk 0).getS 2).toNat ∧ ((s.tk 0).getS 2).toNat ≤ 64) ∧
      (((s.tk 0).getS 2).extractLsb' 0 3).toNat < 6 ∧ ¬ ((7 : DWord).extractLsb' 0 3).toNat < 6 := by decide +kernel
theorem test_swt_slipw : leads (exec (.swt ⟨0, 1, 0⟩) (st .C (fun t => t.setS 1 65))) (fun t => took t .C Code.illegalOp) = true := by
  decide +kernel
theorem test_swt_fpctl : leads (exec (.swt ⟨0, 1, 6⟩) (st .C (fun t => { t.setS 1 0x102 with fpctl := 0x300 })))
    (fun t => (t.tk 0).fpctl == 0x202) = true := by decide +kernel

theorem wit_Sends : ∃ v p, sendRule (.sendAAc ⟨0, 0, 1, 0⟩) = some (.A, 0, .ac, v, p) ∧
    ((st .A id).mayIssue .A 0 none (some .ac) ∧ (st .A id).straight .A ∧ p ((st .A id).tk 0) = false) ∧
    ((st .A (fun t => t.setA 1 5 true)).mayIssue .A 0 none (some .ac) ∧ (st .A (fun t => t.setA 1 5 true)).straight .A ∧
      p ((st .A (fun t => t.setA 1 5 true)).tk 0) = true ∧ ((st .A (fun t => t.setA 1 5 true)).sk 0).handler = none) :=
  ⟨_, _, rfl, by decide +kernel, by decide +kernel⟩
theorem test_send : leads (exec (.sendCa ⟨0, 0, 1, 0⟩) (st .C (fun t => t.setS 1 5))) (fun t => (t.tk 0).ca == [.full 5]) = true := by
  decide +kernel

theorem wit_Receives : ∃ w, recvRule (.recvAc ⟨0, 3, 0, 0⟩) = some (.C, 0, .ac, w) ∧
    (st .C (fun t => { t with ac := [.full 9] })).mayIssue .C 0 (some .ac) none ∧ (st .C (fun t => { t with ac := [.full 9] })).straight .C :=
  ⟨_, rfl, by decide +kernel, by decide +kernel⟩
theorem test_recv : leads (exec (.recvAc ⟨0, 3, 0, 0⟩) (st .C (fun t => { t with ac := [.full 9] })))
    (fun t => (t.tk 0).ac == [] && (t.tk 0).getS 3 == 9) = true := by decide +kernel

theorem wit_TokenField : ((st .C id).sk 0).busy = true ∧ (st .C id).straight .C ∧ ((st .C id).tk 0).tokReady .C 3 none none = true ∧
    ((st .C id).tk 0).tokReady .C 4 none none = false ∧ ((st .C id).sk 0).info.stop = none := by decide +kernel
theorem test_token_push : leads (exec (.nop ⟨3, 0, 0⟩) (st .C id)) (fun t => (t.tk 0).ca == [.full 0] && (t.tk 0).cv == [.full 0]) = true := by
  decide +kernel

/-! ### Shared control -/

theorem wit_Branches : ∃ c, branchRule (.beq ⟨1, 2, 4⟩) = some (⟨1, 2, 4⟩, c) ∧ (st .C id).curEng = .C ∧
    ((st .C id).tk 0).slipOk = true ∧ (st .C id).straight .C := ⟨_, rfl, rfl, by decide +kernel, by decide +kernel⟩

/-- The A-engine with an outcome in its queue. -/
def stO (a : Nat) : State := st .A (fun t => { t with oqa := [⟨a, true, 0⟩] })
theorem wit_Branches_followed : (∃ c, branchRule (.beq ⟨1, 2, 4⟩) = some (⟨1, 2, 4⟩, c)) ∧ (stO 0x10000).curEng ≠ .C ∧
    ((stO 0x10000).straight .A ∧ ((stO 0x10000).sk 0).handler = none ∧ ((stO 0x10000).sk 0).info.stop = none ∧
      ((stO 0x10000).tk 0).oqa = ⟨((stO 0x10000).tk 0).a.pc.toNat, true, 0⟩ :: []) ∧
    ((stO 0x10004).straight .A ∧ ((stO 0x10004).tk 0).oqa = ⟨0x10004, true, 0⟩ :: [] ∧ 0x10004 ≠ ((stO 0x10004).tk 0).a.pc.toNat) ∧
    ((st .A id).straight .A ∧ ((st .A id).tk 0).oqa = []) := ⟨⟨_, rfl⟩, by decide +kernel⟩
theorem test_follow : leads (exec (.beq ⟨1, 2, 4⟩) (stO 0x10000)) (fun t => (t.tk 0).oqa == [] && (t.tk 0).a.pc == 0x10010) = true := by
  decide +kernel
theorem test_mismatch : leads (exec (.beq ⟨1, 2, 4⟩) (stO 0x10004)) (fun t => took t .A Code.sharedControlMismatch) = true := by
  decide +kernel

theorem wit_JumpsAndCalls : (∃ g, jumpRule (.callLong ⟨0x3FFFFFFFFFFFFF⟩) = some (8, true, g)) ∧
    ((st .C id).curEng = .C → ((st .C id).tk 0).slipOk = true) ∧ ((st .C id).sk 0).info.step = none := ⟨⟨_, rfl⟩, by decide +kernel⟩
theorem test_call : leads (exec (.call ⟨0xFFFFFE⟩) (st .V id)) (fun t => (t.tk 0).v.pc == 0xFFF8 && (t.tk 0).getK 15 == 0x10004) = true := by
  decide +kernel

theorem wit_JumpsAndCalls_register :
    let s := st .C (fun t => (t.setS 1 0xFFFFFFFFFFFFFC).setS 2 0x10002)
    regJumpRule (.callr ⟨1, 0, 0⟩) = some (1, true) ∧ s.curEng = .C ∧ (s.tk 0).slipOk = true ∧ s.straight .C ∧ (s.sk 0).handler = none ∧
      (((s.tk 0).getS 1).toNat % 4 = 0 ∧ ((s.tk 0).getS 1).toNat < 2 ^ 56) ∧
      ¬ (((s.tk 0).getS 2).toNat % 4 = 0 ∧ ((s.tk 0).getS 2).toNat < 2 ^ 56) := by decide +kernel
theorem wit_JumpsAndCalls_register_followed :
    let s := st .A (fun t => { t with oqa := [⟨0x10000, true, 0x20000⟩] })
    s.curEng = .A ∧ (s.sk 0).info.step = none ∧ (s.sk 0).info.stop = none ∧ (s.tk 0).oqa = ⟨(s.tk 0).a.pc.toNat, true, 0x20000⟩ :: [] ∧
      ((st .V id).tk 0).oqv = [] ∧ (st .V id).curEng = .V := by decide +kernel
theorem test_callr_followed : leads (exec (.callr ⟨1, 0, 0⟩) (st .A (fun t => { t with oqa := [⟨0x10000, true, 0x20000⟩] })))
    (fun t => (t.tk 0).a.pc == 0x20000 && (t.tk 0).getA 31 == 0x10004 && (t.tk 0).oqa == []) = true := by decide +kernel
theorem test_callr : leads (exec (.callr ⟨63, 0, 0⟩) (st .C (fun t => t.setS 63 0x20000)))
    (fun t => (t.tk 0).c.pc == 0x20000 && (t.tk 0).getS 63 == 0x10004) = true := by decide +kernel
theorem test_ret_bad : leads (exec (.ret ⟨0, 0, 0⟩) (st .C (fun t => t.setS 63 0x20001)))
    (fun t => took t .C Code.badTarget && (t.tk 0).oqa == []) = true := by decide +kernel

def loops4 : List LoopEnt := [⟨1, 2, 3⟩, ⟨1, 2, 3⟩, ⟨1, 2, 3⟩, ⟨1, 2, 3⟩]
theorem wit_HardwareLoops :
    let s := st .C (fun t => t.setS 1 3)
    let s4 := st .C (fun t => { t.setS 1 3 with c := { pc := 0x10000, loops := loops4 } })
    (∃ o, loopRule (.loopr ⟨1, 2⟩) = some (2, o, 0) ∧ (o.map (fun g => g (s.tk 0))).getD 0 ≠ 0) ∧
    (∃ o, loopRule (.loop ⟨0, 2⟩) = some (2, o, 0)) ∧ s.curEng = .C ∧ (s.tk 0).slipOk = true ∧ (s.sk 0).info.step = none ∧
      (s.sk 0).handler = none ∧ (s.tk 0).c.pc.toNat + 4 * 2 + 4 < 2 ^ 56 ∧ (s.tk 0).c.loops.length < 4 ∧
      (s4.curEng = .C ∧ (s4.tk 0).slipOk = true ∧ (s4.sk 0).info.step = none ∧ (s4.sk 0).handler = none ∧ 4 ≤ (s4.tk 0).c.loops.length) :=
  ⟨⟨_, rfl, by decide +kernel⟩, ⟨_, rfl⟩, by decide +kernel⟩
theorem wit_HardwareLoops_followed :
    let s := st .V (fun t => { t with oqv := [⟨0x10000, true, 3⟩] })
    let s4 := st .V (fun t => { t with oqv := [⟨0x10000, true, 3⟩], v := { pc := 0x10000, loops := loops4 } })
    (∃ g, loopRule (.loopr ⟨1, 2⟩) = some (2, some g, 0)) ∧ (s.curEng = .V ∧ (s.sk 0).info.step = none ∧ (s.sk 0).info.stop = none ∧
      (s.tk 0).oqv = ⟨(s.tk 0).v.pc.toNat, true, 3⟩ :: [] ∧ (s.tk 0).v.pc.toNat + 4 * 2 + 4 < 2 ^ 56 ∧ (s.tk 0).v.loops.length < 4) ∧
      (s4.tk 0).oqv = ⟨(s4.tk 0).v.pc.toNat, true, 3⟩ :: [] ∧ 4 ≤ (s4.tk 0).v.loops.length ∧ ((st .V id).tk 0).oqv = [] ∧ (2 : BitVec 12) ≠ 0 :=
  ⟨⟨_, rfl⟩, by decide +kernel⟩
theorem test_loopr_followed : leads (exec (.loopr ⟨1, 2⟩) (st .V (fun t => { t with oqv := [⟨0x10000, true, 3⟩] })))
    (fun t => (t.tk 0).v.pc == 0x10004 && (t.tk 0).v.loops == [⟨0x10004, 0x10008, 3⟩] && (t.tk 0).oqv == []) = true := by decide +kernel
theorem test_loop_zero : leads (exec (.loop ⟨0, 2⟩) (st .C id)) (fun t => (t.tk 0).c.pc == 0x1000C && (t.tk 0).c.loops == []) = true := by
  decide +kernel
theorem test_loop_depth : leads (exec (.loopr ⟨1, 2⟩) (st .C (fun t => { t.setS 1 3 with c := { pc := 0x10000, loops := loops4 } })))
    (fun t => took t .C Code.loopDepth) = true := by decide +kernel

def stL (left : DWord) : State := st .C (fun t => { t with c := { pc := 0x10008, loops := [⟨0x10004, 0x10008, left⟩] } })
theorem wit_HardwareLoops_edge :
    ((stL 2).mayIssue .C 0 none none ∧ ((stL 2).sk 0).info.step = none ∧ ((stL 2).tk 0).c.loops = ⟨0x10004, 0x10008, 2⟩ :: [] ∧
      0x10008 = ((stL 2).tk 0).c.pc.toNat ∧ ((stL 2).tk 0).c.pc.toNat + 4 < 2 ^ 56 ∧ 0x10004 < 2 ^ 56 ∧ 1 < (2 : DWord).toNat ∧
      ((stL 2).sk 0).info.stop = none ∧ ((stL 2).tk 0).slipOk = true) ∧
    ((stL 1).mayIssue .C 0 none none ∧ ((stL 1).sk 0).info.step = none ∧ ((stL 1).tk 0).c.loops = ⟨0x10004, 0x10008, 1⟩ :: [] ∧
      0x10008 = ((stL 1).tk 0).c.pc.toNat ∧ (1 : DWord).toNat ≤ 1) := by decide +kernel
def stLA (left : DWord) : State := st .A (fun t => { t with a := { pc := 0x10008, loops := [⟨0x10004, 0x10008, left⟩] } })
theorem wit_HardwareLoops_edge_others :
    ((stLA 2).mayIssue .A 0 none none ∧ ((stLA 2).sk 0).info.step = none ∧ ((stLA 2).tk 0).a.loops = ⟨0x10004, 0x10008, 2⟩ :: [] ∧
      0x10008 = ((stLA 2).tk 0).a.pc.toNat ∧ ((stLA 2).tk 0).a.pc.toNat + 4 < 2 ^ 56 ∧ ((stLA 2).sk 0).info.stop = none) ∧
    ((stLA 1).tk 0).a.loops = ⟨0x10004, 0x10008, 1⟩ :: [] ∧
    (((stL 2).onTk 0 (fun t => { t with dA := 64 })).tk 0).slipOk = false := by decide +kernel
theorem test_back_edge_mova : leads (exec (.mova ⟨0, 3, 1, 0⟩) (stLA 2))
    (fun t => (t.tk 0).a.pc == 0x10004 && (t.tk 0).a.loops == [⟨0x10004, 0x10008, 1⟩]) = true := by decide +kernel
theorem test_back_edge_held : leads (exec (.nop ⟨0, 0, 0⟩) ((stL 2).onTk 0 (fun t => { t with dA := 64 })))
    (fun t => (t.tk 0).c.edge == some (0x10008, 0x1000C) && (t.tk 0).c.loops == [⟨0x10004, 0x10008, 2⟩]) = true := by decide +kernel
theorem test_back_edge : leads (exec (.nop ⟨0, 0, 0⟩) (stL 2))
    (fun t => (t.tk 0).c.pc == 0x10004 && (t.tk 0).c.loops == [⟨0x10004, 0x10008, 1⟩]) = true := by decide +kernel

/-! ### The A-engine -/

theorem wit_AddressResults : (∃ v, addressRule (.adda ⟨0, 3, 1, 2⟩) = some (0, 3, [1, 2], v)) ∧ (st .A id).mayIssue .A 0 none none ∧
    (st .A id).straight .A := ⟨⟨_, rfl⟩, by decide +kernel⟩
theorem test_adda_poison : leads (exec (.adda ⟨0, 3, 1, 2⟩) (st .A (fun t => (t.setA 1 4 false).setA 2 7 true)))
    (fun t => (t.tk 0).getA 3 == 7 && (t.tk 0).getAP 3) = true := by decide +kernel

/-- Bytes in memory at 0x10100; a1 holds the address. -/
def stM (e : Engine) (f : Issue → Issue) : State :=
  let s := st e (fun t => f (t.setA 1 0x10100 false))
  { s with mem := wrCells s.mem (cellsAt 0x10100 [0x81, 0x82, 0x83, 0x84, 0x85, 0x86, 0x87, 0x88]) }

theorem wit_ScalarLoads : ∃ a, loadRule (.ldI16 ⟨0, 2, 1, 0⟩) = some a ∧ (Instr.ldI16 ⟨0, 2, 1, 0⟩).wellFormed = true ∧
    ((stM .A id).mayIssue .A a.tok none none ∧ (stM .A id).straight .A ∧ (∀ r ∈ a.regs, ((stM .A id).tk 0).getAP r = false)) ∧
    (stM .A id).plainCheck 0 (a.ea ((stM .A id).tk 0)) a.n false = .ok (loc 0x10100) ∧
    ∃ s1, (stM .A id).load 0 (loc 0x10100) a.n = .ok (0x8281, s1) :=
  ⟨_, rfl, rfl, by decide +kernel, ok_of (by decide +kernel), _, rfl⟩
theorem test_ldI16 : leads (exec (.ldI16 ⟨0, 2, 1, 0⟩) (stM .A id)) (fun t => (t.tk 0).getA 2 == 0xFFFFFFFFFFFF8281) = true := by
  decide +kernel
theorem wit_SpeculativeLoads : ∃ a, loadRule (.ld64S ⟨0, 2, 1, 0⟩) = some a ∧ (Instr.ld64S ⟨0, 2, 1, 0⟩).wellFormed = true ∧ a.spec = true ∧
    ((st .A id).mayIssue .A a.tok none none ∧ (st .A id).straight .A) ∧
    ∃ e, (st .A id).plainCheck 0 (a.ea ((st .A id).tk 0)) a.n false = .error e ∧ e.mc = none :=
  ⟨_, rfl, rfl, rfl, by decide +kernel, _, rfl, by decide +kernel⟩
theorem test_ld64S : leads (exec (.ld64S ⟨0, 2, 1, 0⟩) (st .A (fun t => t.setA 1 0x10101 false)))
    (fun t => (t.tk 0).getA 2 == 0x10101 && (t.tk 0).getAP 2 && (t.tk 0).a.pc == 0x10004) = true := by decide +kernel

theorem wit_AddressChecks : ∃ a, storeRule (.st32 ⟨0, 2, 1, 0⟩) = some a ∧ (Instr.st32 ⟨0, 2, 1, 0⟩).wellFormed = true ∧ a.spec = false ∧
    (let s := st .A (fun t => t.setA 1 0x100000000000000 false)
     s.mayIssue .A a.tok none none ∧ (s.sk 0).handler = none ∧ (∀ r ∈ a.regs, (s.tk 0).getAP r = false) ∧ (s.tk 0).getAP a.rt = false ∧
       2 ^ 56 ≤ (a.ea (s.tk 0)).toNat) ∧
    (let s := st .A (fun t => t.setA 1 0xFFFFFFFFFFFFFE false)
     s.mayIssue .A a.tok none none ∧ (s.sk 0).handler = none ∧ (∀ r ∈ a.regs, (s.tk 0).getAP r = false) ∧ (s.tk 0).getAP a.rt = false ∧
       (a.ea (s.tk 0)).toNat < 2 ^ 56 ∧ (a.ea (s.tk 0)).toNat % a.n ≠ 0) := ⟨_, rfl, rfl, rfl, by decide +kernel, by decide +kernel⟩
theorem test_st32_misaligned : leads (exec (.st32 ⟨0, 2, 1, 0⟩) (st .A (fun t => t.setA 1 0xFFFFFFFFFFFFFE false)))
    (fun t => took t .A Code.misaligned) = true := by decide +kernel
theorem wit_AccessShapes : ∃ a, vectorLoadRule (.vld ⟨0, 0, 1, 0⟩) = some a ∧
    (let s := st .A (fun t => t.setA 30 0xC001 false)
     s.mayIssue .A a.tok none none ∧ (s.sk 0).handler = none ∧ (s.tk 0).getAP 30 = false ∧
       (((s.tk 0).getA 30).extractLsb' 14 2).toNat = 3) ∧
    (let s := st .A (fun t => t.setA 30 0xA000 false)
     8192 < (((s.tk 0).getA 30).extractLsb' 0 14).toNat * 2 ^ (((s.tk 0).getA 30).extractLsb' 14 2).toNat) ∧
    (∃ b, vectorStoreRule (.vstx ⟨0, 0, 1, 1, 0⟩) = some b ∧ b.offs.isSome = true ∧
      2048 < (((st .A (fun t => t.setA 30 0x0801 false)).tk 0).getA 30).toNat) :=
  ⟨_, rfl, by decide +kernel, by decide +kernel, _, rfl, rfl, by decide +kernel⟩
theorem test_access_shape : leads (exec (.vld ⟨0, 0, 1, 0⟩) (st .A (fun t => t.setA 30 0xC001 false)))
    (fun t => took t .A Code.accessShape) = true := by decide +kernel

theorem wit_ScalarStores : ∃ a, storeRule (.st16 ⟨0, 2, 1, 0⟩) = some a ∧ (Instr.st16 ⟨0, 2, 1, 0⟩).wellFormed = true ∧
    ((stM .A id).mayIssue .A a.tok none none ∧ (stM .A id).straight .A ∧ (∀ r ∈ a.regs ++ [a.rt], ((stM .A id).tk 0).getAP r = false)) ∧
    (stM .A id).plainCheck 0 (a.ea ((stM .A id).tk 0)) a.n true = .ok (loc 0x10100) ∧
    (∃ s1, (stM .A id).store 0 (loc 0x10100) a.n ((((stM .A id).tk 0).getA a.rt).toNat % 2 ^ (8 * a.n)) = .ok s1) ∧
    (let s := stM .A (fun t => t.setA 2 7 true)
     (∃ r ∈ a.regs ++ [a.rt], (s.tk 0).getAP r = true) ∧ (s.sk 0).handler = none) :=
  ⟨_, rfl, rfl, by decide +kernel, ok_of (by decide +kernel), ⟨_, rfl⟩, by decide +kernel⟩
theorem test_st16 : leads (exec (.st16 ⟨0, 2, 1, 0⟩) (stM .A (fun t => t.setA 2 0x12345 false)))
    (fun t => rdNat t.mem 0x10100 4 == 0x84832345) = true := by decide +kernel

theorem wit_MemoryBytes : (stM .A id).plainPlace (loc 0x10100) 8 ∧ (stM .A id).clean 0x10100 8 := by decide +kernel

/-- Two bytes to load or store, offsets and data in the queues. -/
def stV (f : Issue → Issue) : State :=
  stM .A (fun t => f { t.setA 30 2 false with sq0 := [⟨0x0403, 3, 0, 0, true⟩], sq1 := [⟨0x100000000, 3, 0, 0, true⟩] })
theorem wit_VectorLoads : ∃ a o x s1, vectorLoadRule (.vldx ⟨0, 0, 1, 1, 0⟩) = some a ∧
    ((stV id).mayIssue .A a.tok none none ∧ (stV id).straight .A ∧ (∀ r ∈ a.regs, ((stV id).tk 0).getAP r = false) ∧
      ((stV id).tk 0).qFull a.q = false) ∧ vecShape ((stV id).tk 0) a.offs.isSome = .ok (1, 2) ∧
    a.offsets ((stV id).tk 0) = some o ∧
    checkAll (a.chk (stV id) o 1 false) (a.elems ((stV id).tk 0) o 1 2) = .ok [(0, loc 0x10100), (1, loc 0x10101)] ∧
    gather (fun s l => s.load 0 l 1) 1 [(0, loc 0x10100), (1, loc 0x10101)] (stV id) 0 = .ok (x, s1) ∧ s1.cur = (stV id).cur :=
  ⟨_, _, _, _, rfl, by decide +kernel, ok_of (by decide +kernel), rfl, ok_of (by decide +kernel), rfl, rfl⟩
theorem wit_VectorAccess_plain : (∀ a ∈ [0x10100, 0x10101], (stV id).plainPlace (loc a) 1 ∧ (stV id).clean (loc a).pa 1) ∧
    (∀ a ∈ [0x10100, 0x10101], (0x10102 : Nat) < (loc a).pa ∨ (loc a).pa + 1 ≤ 0x10102) := by decide +kernel
theorem test_vldx : leads (exec (.vldx ⟨0, 0, 1, 1, 0⟩) (stV id)) (fun t => (t.tk 0).lq0.map (·.data) == [0x8281] && (t.tk 0).sq1 == []) = true := by
  decide +kernel

theorem wit_VectorStores : ∃ a o x s1, vectorStoreRule (.vstx ⟨0, 0, 1, 1, 0⟩) = some a ∧
    (Instr.vstx ⟨0, 0, 1, 1, 0⟩).wellFormed = true ∧
    ((stV id).mayIssue .A a.tok none none ∧ (stV id).straight .A ∧ (∀ r ∈ a.regs, ((stV id).tk 0).getAP r = false)) ∧
    vecShape ((stV id).tk 0) a.offs.isSome = .ok (1, 2) ∧ a.offsets ((stV id).tk 0) = some o ∧
    (((stV id).tk 0).queue a.q).head? = some x ∧
    checkAll (poisonLane a.q x (elemLane 1) (a.chk (stV id) o 1 true)) (enabledElems x 1 (a.elems ((stV id).tk 0) o 1 2)) =
      .ok [(0, loc 0x10100), (1, loc 0x10101)] ∧
    scatter (fun u l v => u.store 0 l 1 v) 1 x.data [(0, loc 0x10100), (1, loc 0x10101)] (stV id) = .ok s1 :=
  ⟨_, _, _, _, rfl, rfl, by decide +kernel, ok_of (by decide +kernel), rfl, rfl, ok_of (by decide +kernel), rfl⟩
theorem test_vst : leads (exec (.vst ⟨0, 0, 1, 0⟩) (stV id)) (fun t => rdNat t.mem 0x10100 3 == 0x830403 && (t.tk 0).sq0 == []) = true := by
  decide +kernel

theorem wit_ScratchpadScalars :
    let s := st .A (fun t => t.setA 1 2097144 false)
    let o (f : AL) : Int := (((s.tk 0).getA f.a).toNat : Int) + f.imm.toInt
    (s.mayIssue .A 0 none none ∧ s.straight .A ∧ (s.sk 0).handler = none ∧ (s.tk 0).getAP 1 = false ∧ (s.tk 0).getAP 2 = false) ∧
      (0 ≤ o ⟨0, false, 3, 1, 2, 0, 0, false, 0, 0⟩ ∧ o ⟨0, false, 3, 1, 2, 0, 0, false, 0, 0⟩ + 8 ≤ 2097152 ∧
        o ⟨0, false, 3, 1, 2, 0, 0, false, 0, 0⟩ % 8 = 0) ∧
      2097152 < o ⟨0, false, 3, 1, 2, 0, 0, false, 0, 1⟩ + 8 ∧ o ⟨0, false, 3, 0, 2, 0, 0, false, 0, 0xFFFF⟩ < 0 ∧
      o ⟨0, false, 3, 0, 2, 0, 0, false, 0, 4⟩ % 8 ≠ 0 := by decide +kernel
theorem test_spst : leads (exec (.spst ⟨0, false, 3, 1, 2, 0, 0, false, 0, 0⟩) (st .A (fun t => (t.setA 1 2097144 false).setA 2 7 false)))
    (fun t => rdScr (t.sk 0).scr 2097144 8 == 7) = true := by decide +kernel
theorem test_spld_bound : leads (exec (.spld ⟨0, false, 3, 1, 2, 0, 0, false, 0, 8⟩) (st .A (fun t => t.setA 1 2097144 false)))
    (fun t => took t .A Code.scratchBound) = true := by decide +kernel

/-- Two elements as a30 = `w` sizes them at offset `base` of the scratchpad, with a queue entry whose lanes `p` are poisoned. -/
def stS2 (base w : DWord) (p : LaneMask) : State :=
  st .A (fun t => { (t.setA 1 base false).setA 30 w false with sq0 := [⟨0x04030201, 3, p, 0, true⟩] })
/-- `SPLD.V` and `SPST.V` on a1 and SQ0. -/
def spv : AL := ⟨0, false, 0, 1, 0, 0, 0, false, 3, 0⟩
theorem wit_ScratchpadVectors :
    (let s := stS2 2097150 2 0
     (s.mayIssue .A 0 none none ∧ s.straight .A ∧ (s.tk 0).getAP 1 = false ∧ (s.tk 0).qFull (qsQueue 3) = false ∧ (s.sk 0).handler = none) ∧
       ∀ i : Nat, i < 2 → 2097150 + 1 * i + 1 ≤ 2097152 ∧ (2097150 + 1 * i) % 1 = 0) ∧
    ((stS2 2097151 2 0).mayIssue .A 0 none none ∧ ((stS2 2097151 2 0).sk 0).handler = none ∧ ¬ (2097151 : Int) + 1 * 1 + 1 ≤ 2097152) ∧
    ((stS2 1 0x4002 0).mayIssue .A 0 none none ∧ ((stS2 1 0x4002 0).sk 0).handler = none ∧ (1 + 2 * 1) % 2 ≠ 0) ∧
    (let s := stS2 0 2 1
     s.mayIssue .A 0 none none ∧ ((s.tk 0).queue (qsQueue 3)).head? = some ⟨0x04030201, 3, 1, 0, true⟩ ∧
       (3 : LaneMask).getLsbD (elemLane 1 0) = true ∧ (1 : LaneMask).getLsbD (elemLane 1 0) = true) ∧
    (let s := st .A (fun t => { (t.setA 1 0 true).setA 30 2 false with sq0 := [⟨0, 3, 0, 0, true⟩] })
     s.mayIssue .A 0 none none ∧ s.straight .A ∧ (s.tk 0).getAP 1 = true ∧ (s.sk 0).handler = none ∧ (s.tk 0).queue (qsQueue 3) ≠ []) := by
  decide +kernel
theorem wit_ScratchpadVectors_shape : vecShape ((stS2 2097150 2 0).tk 0) false = .ok (1, 2) ∧ vecShape ((stS2 1 0x4002 0).tk 0) false = .ok (2, 2) :=
  ⟨ok_of (by decide +kernel), ok_of (by decide +kernel)⟩
theorem test_spstVector : leads (exec (.spstVector spv) (stS2 2097150 2 0))
    (fun t => rdScr (t.sk 0).scr 2097150 2 == 0x0201 && (t.tk 0).sq0 == []) = true := by decide +kernel
theorem test_spldVector_bound : leads (exec (.spldVector spv) (stS2 2097151 2 0)) (fun t => took t .A Code.scratchBound) = true := by
  decide +kernel

theorem wit_DeferredFaults :
    let s := st .A (fun t => { t.setA 2 5 true with lq0 := [⟨0, 1, 0, 0, true⟩], lq1 := [⟨0, 1, 1, 0, true⟩] })
    s.mayIssue .A 0 none none ∧ s.straight .A ∧ (s.sk 0).handler = none ∧ (s.tk 0).getAP 1 = false ∧ (s.tk 0).getAP 2 = true ∧
      ((s.tk 0).queue (qsQueue 1)).head? = some ⟨0, 1, 0, 0, true⟩ ∧ ((1 : LaneMask) &&& 0 = 0) ∧
      ((s.tk 0).queue (qsQueue 2)).head? = some ⟨0, 1, 1, 0, true⟩ ∧ ((1 : LaneMask) &&& 1 ≠ 0) := by decide +kernel
theorem test_chkp : leads (exec (.chkp ⟨0, false, 0, 2, 0, 0, 0, false, 0, 0⟩) (st .A (fun t => t.setA 2 5 true)))
    (fun t => took t .A Code.deferredFault) = true := by decide +kernel

/-- An A.L word on a1 with sources a2 and a3 and destination a4. -/
def al (w64 : Bool) : AL := ⟨0, w64, 4, 1, 2, 3, 2, true, 0, 0⟩
theorem wit_OrderedAccesses :
    ((stM .A id).mayIssue .A 0 none none ∧ (stM .A id).straight .A ∧ (stM .A id).noTurns ∧ (stM .A id).backInv = [] ∧
      ((stM .A id).tk 0).getAP 1 = false ∧ ((stM .A id).tk 0).getAP 2 = false ∧ (stM .A id).plainPlace (loc 0x10100) 8 ∧
      (stM .A id).clean (loc 0x10100).pa 8) ∧
    (stM .A id).syncCheck 0 (((stM .A id).tk 0).getA 1 + 0) 8 .rd false = .ok (loc 0x10100) ∧
    (stM .A id).syncCheck 0 (((stM .A id).tk 0).getA 1 + 0) 8 .wr false = .ok (loc 0x10100) :=
  ⟨by decide +kernel, ok_of (by decide +kernel), ok_of (by decide +kernel)⟩
theorem test_lda : leads (exec (.lda (al true)) (stM .A id)) (fun t => (t.tk 0).getA 4 == 0x8887868584838281) = true := by decide +kernel
theorem test_stl : leads (exec (.stl (al true)) (stM .A (fun t => t.setA 2 5 false))) (fun t => rdNat t.mem 0x10100 8 == 5) = true := by
  decide +kernel

/-- The host caches the line: the sc store at system scope waits. -/
def alSc : AL := { al true with scope := 3, ord := true }
def stHc : State := { stM .A id with hostCopies := [0x404] }
theorem wit_OrderedWaits : stHc.mayIssue .A 0 none none ∧ stHc.straight .A ∧ stHc.noTurns ∧ stHc.backInv = [] ∧ stHc.plainPlace (loc 0x10100) 8 ∧
    alSc.ord = true ∧ alSc.scope = 3 ∧ (loc 0x10100).pa / 64 ∈ stHc.hostCopies ∧
    leads (exec (.stl alSc) stHc) (fun t => t.backInv == [0x404] && (t.tk 0).a.pc == 0x10000) = true := by decide +kernel
theorem wit_OrderedWaits_loc : stHc.syncCheck 0 ((stHc.tk 0).getA 1 + 0) 8 .wr false = .ok (loc 0x10100) := ok_of (by decide +kernel)

theorem wit_AtomicResults : (∃ op, atomicRule (.aadd (al false)) = some (al false, false, op)) ∧
    ((stM .A id).mayIssue .A 0 none none ∧ (stM .A id).straight .A ∧ (stM .A id).noTurns ∧ (stM .A id).backInv = [] ∧
      (∀ r ∈ [(1 : BitVec 5), 2, 3], ((stM .A id).tk 0).getAP r = false) ∧ (stM .A id).plainPlace (loc 0x10100) 4 ∧
      (stM .A id).clean (loc 0x10100).pa 4) ∧
    (stM .A id).syncCheck 0 (((stM .A id).tk 0).getA 1 + 0) 4 .rw true = .ok (loc 0x10100) ∧
    (stM .A id).decideLow 0 0 (decAtomic 0x10100 ((stM .A id).sk 0).info.frame.taskId) = .ok (stM .A id) :=
  ⟨⟨_, rfl⟩, by decide +kernel, ok_of (by decide +kernel), ok_of (by decide +kernel)⟩
/-- 05 R129: signed minimum of a 32-bit word; the old value extends its sign. -/
theorem test_amin : leads (exec (.amin (al false)) (stM .A (fun t => t.setA 2 5 false)))
    (fun t => rdNat t.mem 0x10100 4 == 0x84838281 && (t.tk 0).getA 4 == 0xFFFFFFFF84838281) = true := by decide +kernel
theorem test_acas : leads (exec (.acas (al false)) (stM .A (fun t => (t.setA 2 0x84838281 false).setA 3 1 false)))
    (fun t => rdNat t.mem 0x10100 8 == 0x8887868500000001) = true := by decide +kernel

theorem wit_WatchedWaits :
    ((stM .A id).mayIssue .A 0 none none ∧ (stM .A id).straight .A ∧ (stM .A id).noTurns ∧ ((stM .A id).sk 0).info.stop = none ∧
      ((stM .A id).tk 0).watch = none ∧ ((stM .A id).sk 0).info.granted = false ∧
      (∀ r ∈ [(1 : BitVec 5), 2, 3], ((stM .A id).tk 0).getAP r = false) ∧ (stM .A id).plainPlace (loc 0x10100) 8 ∧
      (stM .A id).clean (loc 0x10100).pa 8 ∧ BitVec.ofNat 64 (rdNat (stM .A id).mem (loc 0x10100).pa 8) ≠ ((stM .A id).tk 0).getA 2) ∧
    (stM .A id).syncCheck 0 (((stM .A id).tk 0).getA 1 + 0) 8 .rd true = .ok (loc 0x10100) ∧
    (let s := stM .A (fun t => t.setA 2 0x8887868584838281 false)
     BitVec.ofNat 64 (rdNat s.mem (loc 0x10100).pa 8) = (s.tk 0).getA 2 ∧ (s.die 0).watches.length < 1024) :=
  ⟨by decide +kernel, ok_of (by decide +kernel), by decide +kernel⟩
theorem test_waita_waits : leads (exec (.waita (al true)) (stM .A (fun t => t.setA 2 0x8887868584838281 false)))
    (fun t => (t.tk 0).a.pc == 0x10000 && (t.tk 0).watch.isSome && (t.die 0).watches == [0]) = true := by decide +kernel
theorem wit_Prefetches :
    (let s := st .A (fun t => t.setA 2 1 false)
     s.mayIssue .A 0 none none ∧ s.straight .A ∧ (s.tk 0).getAP 1 = false ∧ (s.tk 0).getAP 2 = false ∧ (s.tk 0).getA 2 ≠ 0) ∧
    ((st .A id).tk 0).getA 2 = 0 ∧
    (let s := st .A (fun t => { t with pfs := [⟨5, none⟩, ⟨6, some (0, 3)⟩], ac := [.held 5] })
     (s.tk 0).pfs.find? (fun p => p.id == 5) = some ⟨5, none⟩ ∧ (s.tk 0).pfs.find? (fun p => p.id == 6) = some ⟨6, some (0, 3)⟩ ∧
       (s.sem 0 3).q = []) := by decide +kernel
theorem test_prefetch : leads (exec (.prefetchComplete 0 5) (st .A (fun t => { t with pfs := [⟨5, none⟩], ac := [.held 5] })))
    (fun t => (t.tk 0).ac == [.full 0] && (t.tk 0).pfs == []) = true := by decide +kernel
theorem test_prefetch_sem : leads (exec (.prefetchComplete 0 6) (st .A (fun t => { t with pfs := [⟨6, some (0, 3)⟩] })))
    (fun t => (t.sem 0 3).value == 1) = true := by decide +kernel
theorem test_pfb : leads (exec (.pfb { al true with b := 2, c := 0, tok := 1 }) (st .A (fun t => t.setA 2 1 false)))
    (fun t => (t.tk 0).pfs == [⟨0, none⟩] && (t.tk 0).ac == [.held 0] && (t.tk 0).a.pc == 0x10008) = true := by decide +kernel

/-! ### The V-engine -/

theorem wit_VectorWords : ∃ r xs, vectorRule (.vadd ⟨0, 3, 1, 2⟩) = some r ∧ ((st .V id).mayIssue .V r.f.tok none none ∧
    (st .V id).straight .V ∧ (r.f.qsel.getLsbD 3 = true → ((st .V id).tk 0).qFull .sq0 = false)) ∧
    ((st .V id).tk 0).vsrcs r.os = .ok xs ∧ r.ok ((st .V id).tk 0) xs = true := ⟨_, _, rfl, by decide +kernel, rfl, rfl⟩
theorem wit_VectorWords_frame : ∃ r, vectorRule (.vadd ⟨0, 3, 1, 2⟩) = some r ∧ r.vs ((st .V id).tk 0) = [3] ∧ r.ms = [] ∧ r.ks = [] ∧
    r.length = false ∧ r.window = false ∧ ((st .V id).tk 0).rmode r.f ≠ .sr := ⟨_, rfl, rfl, rfl, rfl, rfl, rfl, by decide +kernel⟩
theorem wit_LaneResults : (∃ op, logicRule (.vand ⟨0, 3, 1, 2⟩) = some (⟨0, 3, 1, 2⟩, op)) ∧
    (∃ f op, wrapRule (.vaddLong f) = some (f, op) ∧ f.ty = 0x18 ∧ f.qsel = 0) ∧
    ((st .V id).mayIssue .V 0 none none ∧ (st .V id).straight .V ∧ ((st .V id).tk 0).vl ≤ 2048) :=
  ⟨⟨_, rfl⟩, ⟨⟨0, 3, 1, 2, 0, 0, false, 0, 0, 0x18, false, 0⟩, _, rfl, rfl, rfl⟩, by decide +kernel⟩
theorem test_vaddLong_masked :
    leads (exec (.vaddLong ⟨0, 3, 1, 2, 0, 1, true, 0, 0, 0x18, true, 0⟩)
      (st .V (fun t => ((({ t with vl := 2 }.setV 1 0xFFFFFFFF00000005 0).setV 3 0x900000008 0).setK 2 1 false).setM 1 2)))
      (fun t => (t.tk 0).getV 3 == 0) = true := by decide +kernel
theorem test_vsub_f32 : leads (exec (.vsub ⟨0, 3, 1, 2⟩) (st .V (fun t => ({ t with vl := 1 }.setV 1 0x40400000 0).setV 2 0x3F800000 0)))
    (fun t => (t.tk 0).getV 3 == 0x40000000) = true := by decide +kernel

theorem wit_ScalarSideOfV : (st .V id).mayIssue .V 0 none none ∧ (st .V id).straight .V ∧ ((st .V id).tk 0).getKP 1 = false ∧
    (∃ v p, kRule (.kadd ⟨0, 3, 1, 2⟩) = some (0, 3, v, p)) := ⟨by decide +kernel, by decide +kernel, by decide +kernel, _, _, rfl⟩
theorem test_vcfg : leads (exec (.vcfg ⟨0, 2, 1, 0, 0, 0, false, 0, 0, 0, false, 0⟩) (st .V (fun t => t.setK 1 5000 false)))
    (fun t => (t.tk 0).vl == 2048 && (t.tk 0).getK 2 == 2048) = true := by decide +kernel

end Sys2Proof.Tests
end

