-- ==== Sys2Proof/Tests/CommandWitnesses.lean ====
section
/-! SUPPORT. States and operands that meet the hypotheses of the statements about commands, with one step each. -/

namespace Sys2Proof.Tests

open Sys2Proof Sys2Proof.Machine

set_option Elab.async false

/-- A task at D0 that may issue commands: launch 1 holds semaphores 0 to 255 and slots 0 to 63 of die 0, group 0 has members 0 and 1 of team 0,
of which the task is member 0; a task entry stands at 0x30000. -/
def stC (f : Issue → Issue) : State :=
  let s := stM .C f
  let s := s.onInfo 0 (fun i => { i with teamId := 0, teamSlot := 0, killOk := true, frame := { i.frame with taskId := 0x100000000 } })
  { s with launches := s.launches.map (fun e => (e.1, { e.2 with pkt := [0x100000000000, 0, 0, 0, 0x4000010000], gtab := [3], teams := [(0, ⟨0, some 0, 0, 0, []⟩)] }))
           entries := [(1, [⟨0x30000, false⟩])] }

/-- Registers s1 = x, s2 = y. -/
def sxy (x y : DWord) (t : Issue) : Issue := (t.setS 1 x).setS 2 y
/-- `OP s3, s1, s2`. -/
def lw : LW := ⟨0, 3, 1, 2, 0⟩

/-- The command completes with `s3 = x`. -/
def gives3 (o : Host.Outcome State Fault Refusal) (x : DWord) : Bool := leads o (fun t => (t.tk 0).getS 3 == x && (t.tk 0).c.pc == 0x10008)

/-! ### Tasks (07) -/

theorem wit_Spawn : spawnRule (.spawnl lw) = some (lw, true) ∧
    (let s := stC (fun t => (sxy 0x30000 0 t).setS 3 2)
     s.mayCommand lw ∧ (s.sk 0).handler = none ∧ s.quiet ∧ s.levels = [] ∧ (s.launch? (s.sk 0).info.launch).isSome = true ∧
       s.entryAt (s.asidOf 0) ((s.tk 0).getS 1) = some ⟨0x30000, false⟩ ∧ (s.tk 0).getS 2 = 0 ∧
       (s.sk 0).launch = some (s.sk 0).info.launch ∧ (s.sk 0).hw.length < 64 ∧ ((s.tk 0).getS 3).toNat ≠ 0 ∧ 1 + ((s.tk 0).getS 3).toNat ≤ 2 ^ 32 ∧
       s.dequeLen ⟨(s.sk 0).info.launch, 0⟩ < 4096) := by decide +kernel
theorem test_spawn : leads (exec (.spawn lw) (stC (sxy 0x30001 0)))
    (fun t => (t.tk 0).getS 3 == 0x100000001 && (t.sk 0).hw.map (fun f => (f.entry, f.rscope, f.count)) == [(0x30000, 1, 1)] &&
      !(t.sk 0).info.killOk) = true := by decide +kernel
theorem wit_Join :
    (let s := stC (sxy 0x10200 0)
     s.mayCommand lw ∧ (s.sk 0).handler = none ∧ (s.tk 0).getS 1 ≠ 0 ∧ s.plainPlace (loc 0x10200) 8 ∧ s.clean (loc 0x10200).pa 8 ∧
       jcCount (rdNat s.mem (loc 0x10200).pa 8) = 0) ∧
    (stC (sxy 0x10200 0)).jctrLoc 0 0x10200 = .ok (loc 0x10200) ∧
    (let s := stC (sxy 0x10100 0)
     s.mayCommand lw ∧ s.plainPlace (loc 0x10100) 8 ∧ jcCount (rdNat s.mem (loc 0x10100).pa 8) ≠ 0 ∧ (s.sk 0).info.stop = none ∧
       (s.sk 0).info.granted = false) :=
  ⟨by decide +kernel, ok_of (by decide +kernel), by decide +kernel⟩
theorem test_join_spins : leads (exec (.join lw) (stC (sxy 0x10100 0)))
    (fun t => (t.tk 0).cmd == some (.spin 0 0x10100) && (t.tk 0).c.pc == 0x10000) = true := by decide +kernel
theorem wit_Tend :
    let s := (st .C (fun t => { t with a := { t.a with st := .ended }, v := { t.v with st := .ended } }))
    (s.sk 0).handler = none ∧ s.levelOf 0 < 2 ∧ (s.tk 0).a.st = .ended ∧ (s.tk 0).v.st = .ended ∧ s.levels = [] ∧ s.jobsLeft 0 = false ∧
      (s.sk 0).info.teamId = noTeam ∧ (s.sk 0).info.pend = [] := by decide +kernel
theorem test_tend_waits : leads (exec (.tend lw) (st .C id)) (fun t => !(t.tk 0).allEnded) = true := by decide +kernel
theorem wit_Yield :
    (let s := stC id
     s.mayCommand lw ∧ (s.sk 0).handler = none ∧ (s.sk 0).info.stop = none ∧
       (s.resumable (dieOf s.cur) (s.sk s.cur).info.launch || s.higherWaiting s.cur) = false) := by decide +kernel
theorem test_yield : gives3 (exec (.yield lw) (stC (fun t => t.setS 3 7))) 0 = true := by decide +kernel

/-! ### Slabs and Griddle jobs (09) -/

/-- A slab of one plate of launch 1 with the lease of Skillet 0. -/
def slab1 : Slab := { gen := 0, lh := 0, lw := 0, y0 := 0, x0 := 0, launch := 1, lease := some ⟨0, 1, 16, [], 0⟩ }
def stG (b : Slab) (f : Issue → Issue) : State := (stC f).updDie 0 (fun D => { D with slabs := [(5, b)] })

theorem wit_SlabCommands :
    (let s := stG slab1 (sxy 5 0)
     s.mayCommand lw ∧ (s.sk 0).handler = none ∧ s.freeWin 0 = some 0 ∧ slab1.queue = [] ∧ (s.leaseView 0 5 slab1).isSome = true ∧
       slab1.lease = some ⟨0, 1, 16, [], 0⟩ ∧ gfmtOk 0 = true) ∧
    (stG slab1 (sxy 5 0)).needSlab 0 5 = .ok (5, slab1) ∧
    (stG slab1 (sxy 5 0)).needSlab 0 ((stG slab1 (sxy 5 0)).tk 0 |>.getS 1) = .ok (5, slab1) ∧
    (let b := { slab1 with lease := none }
     let s := stG b (sxy 5 0x11)
     s.mayCommand lw ∧ b.queue = [] ∧ b.waiters = [] ∧ s.leaseView 0 5 b = none ∧ s.leaseCount 0 < 4 ∧ (s.sk 0).info.stop = none ∧
       (s.sk 0).info.granted = false ∧ allSks.all (fun j => (s.tk j).cmd.isNone) = true ∧ fld ((s.tk 0).getS 2) 63 11 = 0 ∧
       fld ((s.tk 0).getS 2) 3 2 = 0 ∧ fld ((s.tk 0).getS 2) 10 4 ≤ 64) ∧
    (∃ q, slabReq 0x49 = .ok q) ∧ (∃ q, slabReq 0 = .ok q) :=
  ⟨by decide +kernel, ok_of (by decide +kernel), ok_of (by decide +kernel), by decide +kernel, ⟨_, rfl⟩, ⟨_, rfl⟩⟩
/-- The lowest plate that is free and not the other slab's. -/
theorem test_galloc : leads (exec (.galloc lw) (stG slab1 (sxy 0 0)))
    (fun t => (Tbl.find (t.die 0).slabs 0).map (fun b => (b.lh, b.lw, b.y0, b.x0, b.launch)) == some (0, 0, 0, 1, 1) &&
      !((t.tk 0).getS 3).getLsbD 63) = true := by decide +kernel
theorem test_glease : leads (exec (.glease lw) (stG { slab1 with lease := none } (sxy 5 0x11)))
    (fun t => ((Tbl.find (t.die 0).slabs 5).map (fun b => b.waiters)) == some [⟨0, 1, 1, [], false, 0⟩] &&
      (t.tk 0).cmd == some (.grant 5 ⟨3, 0⟩) && (t.tk 0).c.pc == 0x10000) = true := by decide +kernel
/-- A wait since cycle 0, at cycle 5. -/
def slabW : Slab := { slab1 with lease := none, waiters := [⟨0, 1, 1, [], false, 0⟩] }
def stGw : State := { stG slabW (fun t => { sxy 5 0x11 t with cmd := some (.grant 5 ⟨3, 0⟩) }) with now := 5 }
theorem wit_LeaseTaken : stGw.mayIssue .C 0 none none ∧ (stGw.tk 0).c.loops = [] ∧ (stGw.sk 0).info.step = none ∧ (stGw.sk 0).handler = none ∧
    (stGw.tk 0).cmd = some (.grant 5 ⟨3, 0⟩) ∧ slabW.granted stGw.now = some ⟨0, 1, 1, [], false, 0⟩ ∧
    leads (exec (.glease lw) stGw) (fun t => ((Tbl.find (t.die 0).slabs 5).bind (fun b => b.lease)) == some ⟨0, 1, 1, [], 5⟩ &&
      (t.tk 0).c.pc == 0x10008) = true := by decide +kernel
theorem wit_LeaseTaken_slab : stGw.needSlab 0 5 = .ok (5, slabW) := ok_of (by decide +kernel)
theorem test_grel : leads (exec (.grel lw) (stG slab1 (sxy 5 0)))
    (fun t => ((Tbl.find (t.die 0).slabs 5).bind (fun b => b.lease)) == none) = true := by decide +kernel
theorem test_gfmt : leads (exec (.gfmt lw) (stG slab1 (sxy 5 0)))
    (fun t => ((Tbl.find (t.die 0).slabs 5).bind (fun b => b.lease.map (fun l => l.fmts))) == some [0]) = true := by decide +kernel
theorem test_gfree : leads (exec (.gfree lw) (stG { slab1 with lease := none } (sxy 5 0))) (fun t => (t.die 0).slabs == []) = true := by
  decide +kernel
theorem test_greshape : leads (exec (.greshape lw) (stG slab1 (sxy 5 9)))
    (fun t => ((Tbl.find (t.die 0).slabs 5).map (fun b => (b.lh, b.lw))) == some (1, 1)) = true := by decide +kernel

/-- A card of zeros stands in the C-store; format word 0 is queued on the lease. -/
def slab2 : Slab := { slab1 with lease := some ⟨0, 1, 16, [0], 0⟩ }
def card0 : List DWord := List.replicate 16 0
theorem wit_GriddleJobs :
    let s := stG slab2 (sxy 5 0)
    (s.mayCommand lw ∧ (s.sk 0).handler = none ∧ slab2.lease = some ⟨0, 1, 16, [0], 0⟩ ∧ slab2.queue.length < 32 ∧ s.freeWin 0 = some 0 ∧
      gmmaCardOk card0 = true ∧ slab2.tileOk (atyOf (GFmtW.of 0).c) (gmM card0) (gmN card0) = true ∧ s.setAhead 0 slab2 1 = some (.empty, 3) ∧
      gdrainCardOk card0 .empty 3 = true ∧ headerOk card0 = true) ∧
    s.needSlab 0 ((s.tk 0).getS 1) = .ok (5, slab2) ∧ cardAt (s.tk 0) ((s.tk 0).getS 2) = .ok card0 ∧ s.cardSync 0 card0 = .ok () :=
  ⟨by decide +kernel, ok_of (by decide +kernel), ok_of (by decide +kernel), ok_of (by decide +kernel)⟩
theorem test_gmma : leads (exec (.gmma lw) (stG slab2 (sxy 5 0)))
    (fun t => ((t.job? 0 0).map (fun j => (j.kind, j.set, j.fmt))) == some (.gmma, 1, 0) &&
      ((Tbl.find (t.die 0).slabs 5).map (fun b => (b.queue, b.lease.map (fun l => l.fmts)))) == some ([0], some [])) = true := by decide +kernel
theorem test_gdrain : leads (exec (.gdrain lw) (stG slab2 (sxy 5 0))) (fun t => ((t.job? 0 0).map (fun j => j.kind)) == some .gdrain) = true := by
  decide +kernel
theorem test_gsave : leads (exec (.gsave lw) (stG slab2 (sxy 5 0))) (fun t => ((t.job? 0 0).map (fun j => j.kind)) == some .gsave) = true := by
  decide +kernel
theorem test_gzero : leads (exec (.gzero lw) (stG slab2 (sxy 5 0))) (fun t => ((t.job? 0 0).map (fun j => j.kind)) == some .gzero) = true := by
  decide +kernel

/-! ### Copies (10) -/

/-- A flat copy of 64 bytes within the page. -/
def cardF : List DWord := [0, 0, 0, 0, 0, 0, 0, 0, 0, 0x10100, 0x10200, 0, 0, 0, 64, 0]
def stK (f : Issue → Issue) : State := stC (fun t => f { t with cst := [(9, 0x10100), (10, 0x10200), (14, 64)] })
theorem wit_CopyCommands : copyRule (.cpy lw) = some (lw, .cpy) ∧
    (let s := stK (sxy 0 0)
     s.mayCommand lw ∧ (s.sk 0).handler = none ∧ copyCardOk .cpy cardF = true ∧ cpBen cardF = false ∧ cpFlat cardF = true ∧ cpXchip cardF = false ∧
       s.freeWin 0 = some 0 ∧ (s.die 0).alive = true) ∧
    (let s := stK (sxy 0 0)
     cardAt (s.tk 0) ((s.tk 0).getS 2) = .ok cardF ∧ s.cardSync 0 cardF = .ok () ∧ copyAddrs .cpy cardF = .ok () ∧
       copyShapes { s.newJob 0 .cpy cardF with rec1 := [], rec2 := [] } = .ok ()) :=
  ⟨rfl, by decide +kernel, ok_of (by decide +kernel), ok_of (by decide +kernel), ok_of (by decide +kernel), ok_of (by decide +kernel)⟩
theorem test_cpy : leads (exec (.cpy lw) (stK (sxy 0 0)))
    (fun t => ((t.job? 0 0).map (fun j => (j.kind, j.card, j.chunks))) == some (.cpy, cardF, 1)) = true := by decide +kernel
theorem wit_CopyWaits :
    (let s := stC (sxy 0 0)
     s.mayCommand lw ∧ (s.sk 0).handler = none ∧ s.quiet ∧ (s.slot 0 0).word 0 &&& 0 = 0) ∧
    (stC (sxy 0 0)).slotCheck 0 0 true = .ok () ∧ (stC (sxy 0 0)).slotCheck 0 0x1000 false = .ok () ∧
    (let s := stC (sxy 0 1)
     (s.slot 0 0).word 0 &&& 1 ≠ 1 ∧ (s.sk 0).info.stop = none) :=
  ⟨by decide +kernel, ok_of (by decide +kernel), ok_of (by decide +kernel), by decide +kernel⟩
theorem test_cwait_waits : leads (exec (.cwait lw) (stC (sxy 0 1))) (fun t => (t.tk 0).c.pc == 0x10000 && (t.tk 0).c.stall.isSome) = true := by
  decide +kernel
theorem test_ctest : gives3 (exec (.ctest lw) ((stC (sxy 0 0)).updDie 0 (fun D => { D with slots := [(0, { bits := 5 })] }))) 5 = true := by
  decide +kernel

/-! ### Semaphores and groups (10) -/

theorem wit_Semaphores :
    (let s := (stC (sxy 3 1)).updDie 0 (fun D => { D with sems := [(3, { value := 2 })] })
     s.mayCommand lw ∧ s.quiet ∧ fld ((s.tk 0).getS 2) 63 33 = 0 ∧ (s.sem 0 3).q = [] ∧ 1 ≤ (s.sem 0 3).value) ∧
    (stC (sxy 3 1)).semArg 0 3 false = .ok (0, 3) ∧ (stC (sxy 3 1)).semArg 0 0x803 true = .ok (0, 3) ∧
    (let s := stC (sxy 3 1)
     s.mayCommand lw ∧ (s.sem 0 3).value < 1 ∧ (s.sk 0).info.stop = none ∧ (s.sk 0).info.granted = false) :=
  ⟨by decide +kernel, ok_of (by decide +kernel), ok_of (by decide +kernel), by decide +kernel⟩
theorem test_swait_joins : leads (exec (.swait lw) (stC (sxy 3 1))) (fun t => (t.sem 0 3).q == [.task 0 1 false]) = true := by decide +kernel
theorem test_sadd : leads (exec (.sadd lw) ((stC (sxy 3 0xFFFFFFFF)).updDie 0 (fun D => { D with sems := [(3, { value := 2 })] })))
    (fun t => (t.sem 0 3).value == 1 && (t.tk 0).getS 3 == 2) = true := by decide +kernel
theorem test_srdv : gives3 (exec (.srdv lw) ((stC (sxy 3 0)).updDie 0 (fun D => { D with sems := [(3, { value := 2, sov := true })] })))
    0x100000002 = true := by decide +kernel
theorem wit_Groups :
    let s := stC (sxy 0 0)
    (s.mayCommand lw ∧ s.quiet ∧ s.levels = [] ∧ (s.sk 0).info.teamSlot = 0 ∧ (s.sk 0).info.arr = none ∧ (s.sk 0).info.stop = none ∧
      (∃ L, s.launch? (s.sk 0).info.launch = some L ∧ (Tbl.find L.teams 0).isSome = true ∧ (L.groupOf 0 0).arrived.getLsbD 0 = false ∧
        ¬ ((L.groupOf 0 0).arrived ||| BitVec.ofNat 32 (1 <<< 0)).toNat &&& L.liveSet 0 0 = L.liveSet 0 0)) ∧
    s.groupArg 0 0 = .ok (0, 0, 1) :=
  ⟨⟨by decide +kernel, by decide +kernel, rfl, rfl, rfl, rfl, _, rfl, by decide +kernel⟩, ok_of (by decide +kernel)⟩
/-- The other member has arrived. -/
def stB (f : Issue → Issue) : State :=
  let s := stC f
  { s with launches := s.launches.map (fun e => (e.1, { e.2 with teams := [(0, ⟨0, some 0, 0, 0, [(0, { arrived := 2 })]⟩)] })) }
theorem wit_LastArrival :
    let s := stB (sxy 0 0)
    ∃ L, s.launch? (s.sk 0).info.launch = some L ∧ (L.groupOf 0 0).arrived.getLsbD 0 = false ∧
      ((L.groupOf 0 0).arrived ||| BitVec.ofNat 32 (1 <<< 0)).toNat &&& L.liveSet 0 0 = L.liveSet 0 0 ∧ L.resident 0 = true := ⟨_, rfl, by decide +kernel⟩
theorem test_bar_last : leads (exec (.bar lw) (stB (sxy 0 0))) (fun t => (t.group 0 0 0).passed 0 && (t.tk 0).c.pc == 0x10008) = true := by
  decide +kernel
theorem test_bar_waits : leads (exec (.bar lw) (stC (sxy 0 0))) (fun t => (t.sk 0).info.arr == some ⟨false, 0, 0⟩ && (t.tk 0).c.pc == 0x10000) = true := by
  decide +kernel
theorem test_elect : leads (exec (.elect lw) (stB (sxy 0 0))) (fun t => (t.tk 0).getS 3 == 1) = true := by decide +kernel
theorem test_bara : gives3 (exec (.bara lw) (stC (sxy 0 0))) 0 = true := by decide +kernel

end Sys2Proof.Tests
end

