-- ==== Sys2Proof/Tests/SystemWitnesses.lean ====
section
/-! SUPPORT. States and operands that meet the hypotheses of the statements about Whisk, handle, system and determinism commands, with one step
each. -/

namespace Sys2Proof.Tests

open Sys2Proof Sys2Proof.Machine

set_option Elab.async false

/-! ### Whisk commands (14) -/

/-- Handle 1 of chip 0, one head of 16 by 16, resident on die 0. -/
def hv : DWord := 0x1000001
def hnd : Handle :=
  { value := hv, asid := 1, nh := 1, dk := 16, dv := 16, snapshot := false, res := .resident, die := 0, backing := 0x10400, made := true
    pages := [0] }
def stW (h : Handle) (f : Issue → Issue) : State := { stC f with handles := [(0x1000001, h)], handleGen := [(1, 2)] }
def cardW : List DWord := List.replicate 16 0

theorem wit_WhiskCommands : whiskRule (.fwzero lw) = some (lw, .fwzero) ∧
    (let s := stW hnd (sxy hv 0)
     s.mayCommand lw ∧ (s.sk 0).handler = none ∧ fwCardOk .fwzero cardW = true ∧ usesImg .fwzero = false ∧ usesTokens .fwzero = false ∧
       hnd.snapshot = false ∧ hnd.pois = false ∧ hnd.rolling = false ∧ hnd.made = true ∧ hnd.res ≠ .moving ∧ (s.die 0).alive = true ∧ fwSeqOf cardW = hnd.nextSeq ∧
       s.freeWin 0 = some 0 ∧ (s.die 0).wq.length < 64) ∧
    (stW hnd (sxy hv 0)).noMarks ∧ cardAt ((stW hnd (sxy hv 0)).tk 0) (((stW hnd (sxy hv 0)).tk 0).getS 2) = .ok cardW ∧
    (stW hnd (sxy hv 0)).cardSync 0 cardW = .ok () ∧
    (stW hnd (sxy hv 0)).hereHandle 0 (((stW hnd (sxy hv 0)).tk 0).getS 1) = .ok hnd ∧
    (let h := { hnd with nextSeq := 5 }
     2 ^ 31 ≤ (fwSeqOf cardW + 2 ^ 32 - h.nextSeq) % 2 ^ 32) := by
  refine ⟨rfl, by decide +kernel, ?_, ok_of (by decide +kernel), ok_of (by decide +kernel), ok_of (by decide +kernel), by decide +kernel⟩
  intro e he x hx
  simp only [stW, List.mem_singleton] at he
  subst he
  simp [hnd] at hx
theorem test_fwzero : leads (exec (.fwzero lw) (stW hnd (sxy hv 0)))
    (fun t => (t.die 0).wq == [0] && (t.handle? hv).map (fun h => h.ord) == some [.job 0 0] &&
      (t.job? 0 0).map (fun j => (j.kind, j.st)) == some (.fwzero, .queued)) = true := by decide +kernel
theorem test_stale_chunk : leads (exec (.fwzero lw) (stW { hnd with nextSeq := 5 } (sxy hv 0))) (fun t => took t .C Code.staleChunk) = true := by
  decide +kernel

/-! ### Handle commands (14) -/

theorem noMarks_stW (f : Issue → Issue) : (stW hnd f).noMarks := by
  intro e he x hx
  simp only [stW, List.mem_singleton] at he
  subst he
  simp [hnd] at hx

theorem wit_HandleCommands :
    (∃ s' : State, s' = stW hnd (sxy 0x100100010 0x10400) ∧ s'.mayCommand lw ∧ s'.freeIndex = some 2) ∧
    (match (stW hnd (sxy 0x100100010 0x10400)).shCapture 0 .new 0x100100010 0x10400 with
      | .ok ([], t) => decide (t = stW hnd (sxy 0x100100010 0x10400))
      | _ => false) = true ∧
    (let s := stW hnd (sxy hv 0x10400)
     s.handle? hv = some hnd ∧ hnd.asid = s.asidOf 0 ∧ hnd.res ≠ .away ∧ hnd.made = true ∧ (s.die 0).alive = true ∧ hv ≠ s.newValue 2 ∧
       s.freeIndex = some 2 ∧ (∀ e ∈ s.handles, e.2.res = .resident ∧ e.2.made = true ∧ (s.die e.2.die).alive = true)) ∧
    (stW hnd (sxy hv 0x10400)).shCheck 0 .snap hv 0x10400 [] = .ok () ∧ (stW hnd (sxy hv 1)).shCheck 0 .pin hv 1 [] = .ok () ∧
    (stW hnd (sxy hv 0)).shCheck 0 .free hv 0 [] = .ok () ∧ (stW hnd (sxy hv 0)).shCheck 0 .move hv 0x10200 [0, 0] = .ok () ∧
    (stW hnd (sxy hv hv)).shCheck 0 .roll hv hv [] = .ok () ∧ (stW hnd (sxy hv 0)).shCheck 0 .avg hv 0x10200 [hv, 0] = .ok () :=
  ⟨⟨_, rfl, by decide +kernel, by decide +kernel⟩, by decide +kernel, by decide +kernel, ok_of (by decide +kernel), ok_of (by decide +kernel),
    ok_of (by decide +kernel), ok_of (by decide +kernel), ok_of (by decide +kernel), ok_of (by decide +kernel)⟩
theorem test_shnew : leads (exec (.shnew lw) (stW hnd (sxy 0x100100010 0x10400)))
    (fun t => (t.tk 0).getS 3 == 0x2000001 && (t.handle? 0x2000001).map (fun h => (h.nh, h.dk, h.dv, h.made, h.ord)) == some (1, 16, 16, false, [.new])) =
      true := by decide +kernel
theorem test_shfork : leads (exec (.shfork lw) (stW hnd (sxy hv 0x10400)))
    (fun t => (t.handle? hv).map (fun h => h.ord) == some [.snap 0x2000001 true] && (t.handle? 0x2000001).map (fun h => h.snapshot) == some false) =
      true := by decide +kernel
theorem test_shpin : leads (exec (.shpin lw) (stW hnd (sxy hv 1))) (fun t => (t.handle? hv).map (fun h => h.ord) ==
    some [.pin true ((stW hnd (sxy hv 1)).issuerOf 0)]) = true := by decide +kernel
theorem test_shstat_shape : gives3 (exec (.shstat lw) (stW hnd (sxy hv 1))) 0x100100010 = true := by decide +kernel
theorem test_shroll_bad : leads (exec (.shroll lw) (stW hnd (sxy hv 0x2000001))) (fun t => took t .C Code.badHandle) = true := by decide +kernel

/-! ### System commands (12) -/

theorem wit_SystemCommands :
    (let s := stC (sxy 0x10100 64)
     s.mayCommand lw ∧ (s.sk 0).handler = none ∧ (s.ctx (s.asidOf 0)).dbg = false) ∧
    (let s := { stC id with mem := wrCells [] (cellsAt 64 [1, 0, 2]) }
     s.mayCommand lw ∧ (s.ctx (s.asidOf 0)).dbg = true) ∧
    (let s := stH .C (sxy 1 0)
     s.mayCommand lw ∧ (s.sk 0).handler.isSome = true ∧ tlbiOk ((s.tk 0).getS 1) ((s.tk 0).getS 2) = true ∧ (s.tk 0).watch = none ∧
       (s.die 0).dirty = []) ∧
    (let s := stC (sxy 0x10100 2)
     ((s.tk 0).getS 2).toNat < 3 ∧ fld ((s.tk 0).getS 1) 63 56 = 0 ∧ (match s.lookup (s.aTlbs 0) (s.asidOf 0) ((s.tk 0).getS 1).toNat with
       | .mcheck .. => false
       | _ => true) = true) ∧
    fld (0xFF00000000000000 : DWord) 63 56 ≠ 0 := by decide +kernel
theorem test_trap : leads (exec (.trap lw) (stC (sxy 77 0))) (fun t => took t .C Code.trap && (t.sk 0).info.stop == some .trap) = true := by
  decide +kernel
theorem test_sysc : leads (exec (.sysc lw) (stC (sxy 77 0)))
    (fun t => (t.tk 0).c.pc == 0x10008 && (match (t.tk 0).c.st with
      | .faulted r => r.code == Code.sysc && r.info == 77
      | _ => false)) = true := by decide +kernel
theorem test_brk_plain : leads (exec (.brk lw) (stC id)) (fun t => (t.tk 0).c.pc == 0x10008) = true := by decide +kernel
theorem test_tlbi : leads (exec (.tlbi lw) (stH .C (sxy 1 0))) (fun t => (t.die 0).tlb == [] && (t.tk 0).c.pc == 0x10008) = true := by
  decide +kernel
/-- 12 R316: outside a handler TLBI is no instruction. -/
theorem test_tlbi_task : leads (exec (.tlbi lw) (stC (sxy 1 0))) (fun t => took t .C Code.illegalOp) = true := by decide +kernel
def dirtyLine : State := (stC (sxy 0x10100 64)).updDie 0 (fun D => { D with dirty := [⟨0x404, [(0, 7)]⟩] })
theorem test_cwb : leads (exec (.cwb lw) dirtyLine) (fun t => (t.die 0).dirty == [] && rdB t.mem 0x10100 == 7) = true := by decide +kernel
theorem test_cinv : leads (exec (.cinv lw) ((stC (sxy 0x10100 64)).updDie 0 (fun D => { D with clean := [(0x404, [])] })))
    (fun t => (t.die 0).clean == []) = true := by decide +kernel

/-! ### Handlers (12) -/

/-- A handler run on Skillet 0 whose other engines have ended. -/
def stE (f : Issue → Issue) : State :=
  (stH .C f).onTk 0 (fun t => { t with a := { t.a with st := .ended }, v := { t.v with st := .ended } })
theorem wit_HandlerReturns :
    (let s := stE (sxy 1 0)
     (s.sk 0).handler = some ⟨0x20000, 1, 2, 3, 4, none, false, false, 0⟩ ∧ (s.tk 0).a.st = .ended ∧ (s.tk 0).v.st = .ended ∧ (s.tk 0).getS 1 = 1 ∧
       s.jobsLeft 0 = false ∧ (s.sk 0).info.snap = none ∧ (s.sk 0).info.teamId = noTeam ∧ (s.sk 0).info.pend = [] ∧ (s.tk 0).pfs = [] ∧ (s.sk 0).info.frame.jctr = 0) ∧
    (let x := ((stE (sxy 0x50002 0)).tk 0).getS 1
     fld x 63 32 = 0 ∧ fld x 15 0 = 2) := by decide +kernel
theorem test_eret_end : leads (exec (.eretEndTask lw) (stE (sxy 1 0))) (fun t => !(t.sk 0).busy) = true := by decide +kernel
theorem test_eret_end_launch : leads (exec (.eretResume lw) (stE (sxy 0x50002 0)))
    (fun t => (t.launch? 1).map (fun L => L.ending) == some (some ⟨2, 5, 0, 0, 0⟩)) = true := by decide +kernel

/-- A trap record of zeros but for its kind, where the handler's frame stands. -/
def stRec : State :=
  let s := stE id
  let s := s.updDie 0 (fun D => { D with tlb := ⟨1, 0x10000, 25, 0x1F, 2⟩ :: D.tlb })
  let s := s.updSk 0 (fun x => { x with handler := some ⟨0x100000, 1, 2, 3, 4, none, false, false, 0⟩ })
  { s with mem := wrCells s.mem (cellsAt 0x100000 [1]) }

/-- A halted copy of the task, its fault decided by the handler. -/
def haltJob : Job := { kind := .cpy, seq := 3, srcDie := 0, sk := 0, tid := 1, launch := 1, asid := 1, taskId := 0, clk := 1, card := cardF, st := .halted {} }
def stJ (act : DWord) : State := (stH .C (fun t => t.setS 1 (act <<< 32 ||| jobId 0 2 haltJob))).updDie 0 (fun D => { D with window := [(2, haltJob)] })
theorem wit_JobReturns :
    (let s := stJ 1
     s.mayIssue .C 0 none none ∧ s.straight .C ∧ (s.sk 0).handler.isSome = true ∧
       s.jobOfId ((s.tk 0).getS 1 &&& 0xFFFFFFFF) = some (0, 2, haltJob) ∧ haltJob.st.isHalted = true ∧ haltJob.tid = (s.sk 0).info.id ∧
       haltJob.launch = (s.sk 0).info.launch ∧ fld ((s.tk 0).getS 1) 33 32 = 1) ∧
    (let s := stJ 2
     s.mayIssue .C 0 none none ∧ fld ((s.tk 0).getS 1) 33 32 = 2 ∧ (∀ e ∈ allDies, ∀ x ∈ (s.die e).sems, .job 0 2 ∉ x.2.q)) := by decide +kernel
theorem test_job_restart : leads (exec (.swt ⟨0, 1, 0x804⟩) (stJ 1)) (fun t => (t.job? 0 2).map (fun j => j.st) == some .running) = true := by
  decide +kernel
theorem test_job_abort : leads (exec (.jobctlAbort ⟨0, 1, 0x804⟩) (stJ 2)) (fun t => (t.job? 0 2).isNone) = true := by decide +kernel

/-! ### Determinism and machine checks (15, 17) -/

theorem wit_DsetLow : (stC id).mayCommand lw ∧ ((stC id).sk 0).handler = none ∧ ((stC id).tk 0).getS 1 ≠ 2 ∧
    ((stC (sxy 1 0)).tk 0).getS 1 = 1 := by decide +kernel
theorem test_dset_low : gives3 (exec (.dsetMerge lw) (stC (fun t => (sxy 1 0 t).setS 3 9))) 0 = true := by decide +kernel

/-- The same task at D2 or D3; its turn is first in the round. -/
def stD (lvl : Nat) (turns : List Nat) (f : Issue → Issue) : State :=
  let s := stC f
  { s with launches := s.launches.map (fun e => (e.1, { e.2 with level := lvl, turns := turns, started := some 0, flen := 999 })) }
theorem wit_Dset :
    (let s := stD 2 [] (sxy 0 0)
     s.mayIssue .C 0 none none ∧ s.straight .C ∧ (s.sk 0).info.snap = none ∧ (s.sk 0).info.turn = none ∧ (s.sk 0).info.stop = none ∧
       ∃ L, s.launch? 1 = some L ∧ 2 ≤ L.level ∧ L.turns.head? ≠ some 0) ∧
    (let s := stD 2 [0] (sxy 0 0)
     ∃ L, s.launch? 1 = some L ∧ L.turns.head? = some 0 ∧ L.level = 2 ∧ (s.tk 0).getS 1 = 0) ∧
    (let s := stD 3 [0] (sxy 1 7)
     ∃ L, s.launch? 1 = some L ∧ L.turns.head? = some 0 ∧ L.level = 3 ∧ (s.tk 0).getS 1 = 1 ∧
       (s.sk 0).info.stampL + lw.stamp.setWidth 64 = s.sfcOf 0) :=
  ⟨⟨by decide +kernel, by decide +kernel, by decide +kernel, by decide +kernel, by decide +kernel, _, rfl, by decide +kernel, by decide +kernel⟩,
    ⟨_, rfl, by decide +kernel, by decide +kernel, by decide +kernel⟩, ⟨_, rfl, by decide +kernel, by decide +kernel, by decide +kernel, by decide +kernel⟩⟩
theorem test_dset_waits : leads (exec (.dsetMerge lw) (stD 2 [] (sxy 0 0))) (fun t => (t.sk 0).info.turn == some .C && (t.tk 0).c.pc == 0x10000) = true := by
  decide +kernel
theorem test_dset_merge : leads (exec (.dsetMerge lw) (stD 2 [0] (sxy 0 0))) (fun t => (t.tk 0).getS 3 == 1 && (t.sk 0).info.snap.isSome) = true := by
  decide +kernel
theorem test_dset_advance : gives3 (exec (.dsetAdvance lw) (stD 3 [0] (sxy 1 7))) 7 = true := by decide +kernel

def recLevel : Level := ⟨0, 2, 1, 0x10000, 0, 0, 0⟩
def stR (f : Issue → Issue) : State := { stC f with levels := [(4, recLevel)] }
/-- A log that records. -/
def recLevel1 : Level := { recLevel with mode := 1 }
theorem wit_Rlog :
    let s := stR (sxy 0 4)
    s.mayCommand lw ∧ (s.sk 0).handler = none ∧ s.quiet ∧ fld ((s.tk 0).getS 1) 63 5 = 0 ∧ fld ((s.tk 0).getS 1) 1 0 = 0 ∧
      ((s.tk 0).getS 2).toNat < 2 ^ 16 ∧ Tbl.find s.levels 4 = some recLevel ∧ recLevel.asid = s.asidOf 0 ∧ recLevel.mode = 2 ∧
      (((s.logNow 0 4 recLevel).acquireAt 0 2).logNow 0 4 recLevel).mem = s.mem ∧
      ((s.logNow 0 4 recLevel).logNow 0 4 recLevel).mem = s.mem := by decide +kernel
theorem wit_Rlog_record :
    let s := { stR (sxy 1 4) with levels := [(4, recLevel1)] }
    s.mayCommand lw ∧ s.quiet ∧ recLevel1.mode ≠ 2 ∧ fld ((s.tk 0).getS 1) 1 0 ≠ 3 ∧ (match s.releaseAt 0 2 with
      | .ok r => (r.logOf 0 4).buf == [] && decide (((r.rlogOpen 0 4 0 recLevel1).logNow 0 4 recLevel1).mem = s.mem)
      | _ => false) = true := by decide +kernel
theorem test_rlog_release : leads (exec (.rlogRelease lw) ((stR (sxy 2 4)).updLog 0 4 (fun g => { g with cl0 := true })))
    (fun t => !(t.logOf 0 4).cl0 && (t.tk 0).c.pc == 0x10008) = true := by decide +kernel

theorem wit_Rounds :
    (let s := (stD 2 [] id).onInfo 0 (fun i => { i with turn := some .C })
     ∃ L, s.launch? 1 = some L ∧ 2 ≤ L.level ∧ L.turns = [] ∧ s.running 1 ≠ [] ∧ ∀ k ∈ s.running 1, (s.sk k).info.turn.isSome = true) ∧
    (∃ L, (stD 3 [] id).launch? 1 = some L ∧ L.level = 3 ∧ L.started = some 0 ∧ 0 ≤ (stD 3 [] id).now) :=
  ⟨⟨_, rfl, by decide +kernel⟩, _, rfl, by decide +kernel⟩
theorem test_round : leads (exec (.roundClose 1) ((stD 2 [] id).onInfo 0 (fun i => { i with turn := some .C })))
    (fun t => (t.launch? 1).map (fun L => L.turns) == some [0]) = true := by decide +kernel
theorem test_sfc_tick : leads (exec (.sfcTick 1) { stD 3 [] id with now := 1500 }) (fun t => t.now == 2000) = true := by decide +kernel

/-- A command stamped 0 stands at the C-engine, four frames after its stamp; the word is SSIG. -/
def stO3 : State :=
  let s := stD 3 [0] (fun t => { t with c := { t.c with stall := some ⟨0, false⟩ } })
  { s with now := 4000, mem := wrCells s.mem (cellsAt 0x10000 [0, 0, 0, 0x3F, 0, 0, 2, 0x10]) }
theorem wit_StampOverrun : (stO3.sk 0).runs = true ∧ (stO3.sk 0).info.stop = none ∧ (stO3.tk 0).c.st = .run ∧ stO3.levelOf 0 = 3 ∧
    (stO3.tk 0).c.stall = some ⟨0, false⟩ ∧ (stO3.tk 0).cmd = none ∧ stO3.stampAt 0 = some 0 ∧
    ((stO3.sk 0).info.stampL + BitVec.ofNat 64 0).toNat < (stO3.sfcOf 0).toNat := by decide +kernel
theorem test_stamp_overrun : leads (exec (.stampOverrun 0) stO3) (fun t => took t .C Code.stampOverrun) = true := by decide +kernel

/-- A ring entry, not halting, and one that halted Skillet 0. -/
def ringEnt (halt : Bool) : McEnt := { dw0 := if halt then 0x540000000 else 0x500000000, asid := 1, taskId := 1, sk := if halt then some 0 else none, tid := 1, launch := 1 }
def stMc (halt : Bool) (b : DWord) : State := (stC (sxy 5 b)).updDie 0 (fun D => { D with ring := [(0, ringEnt halt)] })
/-- The entry of a task that ran on Skillet 1, and that may run again. -/
def entRun : McEnt := { ringEnt true with sk := some 1, tid := 9 }
def stRun : State :=
  let s := (stC (sxy 5 1)).updDie 0 (fun D => { D with ring := [(0, entRun)] })
  s.updSk 1 (fun x => { x with launch := some 1, busy := true, halted := some 5
                               info := { x.info with id := 9, launch := 1, killOk := true, frame := { x.info.frame with idem := true } } })
theorem wit_MachineChecks :
    (let s := stMc false 0
     s.mayCommand lw ∧ (s.sk 0).handler = none ∧ fld ((s.tk 0).getS 1) 63 34 = 0 ∧ fld ((s.tk 0).getS 2) 63 32 = 0 ∧
       s.mcEntry 0 5 = some (0, ringEnt false) ∧ (ringEnt false).asid = s.asidOf 0 ∧ s.mcMay (ringEnt false) 0 = true) ∧
    (let s := (stMc true 2)
     s.mcEntry 0 5 = some (0, ringEnt true) ∧ s.mcMay (ringEnt true) 2 = true) ∧
    (let s := stRun
     s.mayCommand lw ∧ s.mcEntry 0 5 = some (0, entRun) ∧ s.mcMay entRun 1 = true ∧ s.mcReady entRun 1 = true ∧
       (((s.onTk 0 (fun t => t.setS 3 (entRun.dw0 ||| 0x80000000))).mcApply 0 0 entRun 1 0).sk 0).busy = true) := by decide +kernel
theorem test_mcack : leads (exec (.mcackAck lw) (stMc false 0))
    (fun t => (t.tk 0).getS 3 == 0x580000000 && (Tbl.find (t.die 0).ring 0).map McEnt.acked == some true) = true := by decide +kernel

end Sys2Proof.Tests
end

