-- ==== Sys2Proof/Tests/TaskEventWitnesses.lean ====
section
/-! SUPPORT. States that meet the hypotheses of the statements about the events of engines, tasks, launches and traps, with what the event
leaves. -/

namespace Sys2Proof.Tests

open Sys2Proof Sys2Proof.Machine

set_option Elab.async false

/-- The launches changed. -/
def onL (s : State) (f : Launch → Launch) : State := { s with launches := s.launches.map (fun (e : Nat × Launch) => (e.1, f e.2)) }

/-! ### Engines -/

/-- All three engines have waited 2^24 cycles inside their Skillet. -/
def stall0 : State :=
  let w (E : Eng) : Eng := { E with stall := some ⟨0, true⟩ }
  { st .C (fun t => { t with c := w t.c, a := w t.a, v := w t.v }) with now := 2 ^ 24 }
theorem wit_EngineDeadlock : (stall0.sk 0).busy = true ∧ (stall0.sk 0).halted = none ∧ (stall0.sk 0).handler = none ∧ (stall0.tk 0).cmd = none ∧
    (stall0.tk 0).allEnded = false ∧ (∀ e ∈ [Engine.C, .A, .V], ((stall0.tk 0).eng e).st = .run ∧
      ((stall0.tk 0).eng e).stall = some ⟨0, true⟩ ∧ 0 + 2 ^ 24 ≤ stall0.now) ∧
    leads (exec (.engineDeadlock 0) stall0) (fun t => took t .C Code.engineDeadlock && took t .A Code.engineDeadlock && took t .V Code.engineDeadlock) =
      true := by decide +kernel
theorem test_arrival : leads (exec (.loadDataArrival 0 0 1) (st .A (fun t => { t with lq0 := [⟨1, 1, 0, 0, false⟩, ⟨2, 1, 0, 0, false⟩] })))
    (fun t => (t.tk 0).lq0.map (fun e => e.arrived) == [false, true]) = true := by decide +kernel

/-- Context 1 at the table's slot 1, root at 0x1000000, one level-3 leaf reached through three tables. -/
def walkState : State :=
  let m := wrCells [] (cellsAt 64 (leBytes 8 0x10000001))
  let m := wrCells m (cellsAt 72 (leBytes 8 0x1000000))
  let m := wrCells m (cellsAt 0x1000000 (leBytes 8 0x2000001))
  let m := wrCells m (cellsAt 0x2000000 (leBytes 8 0x3000001))
  let m := wrCells m (cellsAt 0x3000000 (leBytes 8 0x4000001))
  let m := wrCells m (cellsAt 0x4000018 (leBytes 8 0x5001F))
  { State.reset with mem := m }
theorem wit_Walk : walkState.walk 1 0x30000 = .leaf 0x5001F 3 ∧ (∀ pte lvl, walkState.walk 1 0x40000 ≠ .leaf pte lvl) ∧
    leads (exec (.pageWalkComplete 0 1 0x30000) walkState) (fun t => (t.die 0).tlb == [⟨1, 0x30000, 16, 0x5001F, 3⟩]) = true := by
  refine ⟨by decide +kernel, ?_, by decide +kernel⟩
  have h : walkState.walk 1 0x40000 = .stop 0x0105 3 0 := by decide +kernel
  intro pte lvl e
  rw [h] at e
  cases e
theorem test_eviction : leads (exec (.cacheEviction 0 0x404) dirtyLine) (fun t => (t.die 0).dirty == [] && rdB t.mem 0x10100 == 7) = true := by
  decide +kernel
theorem test_host_line : leads (exec (.cacheEviction 0 (2 ^ 52 + 4)) ((st .C id).updDie 0 (fun D => { D with hostLines := [(4, ⟨[], false⟩)] })))
    (fun t => (t.die 0).hostLines == []) = true := by decide +kernel

def watch0 : Watch := { granule := 0x404, va := 0x10100, d := 4, tok := 0, scope := 2, acq := true, since := 0, limit := 100, woken := true }
def stWatch : State := { stM .A (fun t => { t with watch := some watch0 }) with now := 100 }
theorem wit_WaitaWake : (stWatch.sk 0).busy = true ∧ (stWatch.sk 0).halted = none ∧ (stWatch.tk 0).a.st = .run ∧ stWatch.straight .A ∧
    stWatch.noTurns ∧ (stWatch.tk 0).watch = some watch0 ∧ stWatch.plainPlace (loc 0x10100) 8 ∧ stWatch.clean (loc 0x10100).pa 8 ∧
    watch0.woken = true ∧ stWatch.watchTurn 0 watch0 = true ∧ watch0.limit ≠ 0 ∧ watch0.since + watch0.limit.toNat ≤ stWatch.now := by decide +kernel
theorem wit_WaitaWake_check : stWatch.syncCheck 0 (BitVec.ofNat 64 watch0.va) 8 .rd true = .ok (loc 0x10100) := ok_of (by decide +kernel)
theorem test_waita_wake : leads (exec (.waitaWake 0) stWatch)
    (fun t => (t.tk 0).getA 4 == 0x8887868584838281 && (t.tk 0).a.pc == 0x10008 && (t.tk 0).watch.isNone) = true := by decide +kernel
theorem test_waita_timeout : leads (exec (.waitaTimeout 0) stWatch) (fun t => (t.tk 0).a.pc == 0x10008) = true := by decide +kernel

/-! ### Tasks (07) -/

/-- Skillets 0 and 1 of launch 1, nothing running on them; `f` in Skillet 0's deque. -/
def stT (hw : List Frame) : State :=
  let s := (stC id).updSk 0 (fun x => { x with busy := false, hw := hw })
  onL (s.updSk 1 (fun x => { x with launch := some 1 })) (fun L => { L with next := L.total })
def fr (n : Nat) : Frame := { entry := 0x30000, taskId := 0x100000001, range := decide (n ≠ 1), count := n, arg0 := 10 }
theorem wit_DequePop : ((stT [fr 1]).sk 0).launch = some 1 ∧ (stT [fr 1]).seeks 0 1 = true ∧ ((stT [fr 1]).ring ⟨1, 0⟩).2 = 0 ∧
    ((stT [fr 1]).sk 0).hw = [] ++ fr 1 :: [] ∧ (fr 1).state = .ready ∧ (fr 4).range = true ∧ 1 < (fr 4).count := by decide +kernel
theorem test_pop_last : leads (exec (.dequePop 0) (stT [fr 4]))
    (fun t => (t.sk 0).info.frame.arg0 == 13 && (t.sk 0).info.frame.taskId == 0x100000004 && (t.sk 0).hw.map (fun f => f.count) == [3]) = true := by
  decide +kernel
def stS : State := (stT []).updSk 0 (fun x => { x with reserved := true, info := { x.info with teamId := noTeam, frame := { fr 1 with arg1 := 6 } } })
theorem wit_TaskStart : (stS.sk 0).reserved = true ∧ (stS.sk 0).busy = false ∧ (stS.launch? (stS.sk 0).info.launch).isSome = true ∧
    (stS.launch? (stS.sk 0).info.launch).map (fun L => (L.ending, stS.logShut 0 L.qid)) = some (none, false) ∧
    (stS.sk 0).info.teamId = noTeam := by decide +kernel
theorem test_task_start : leads (exec (.taskStart 0) stS)
    (fun t => (t.tk 0).getS 1 == 10 && (t.tk 0).getA 2 == 6 && (t.tk 0).a.pc == 0x30000 && (t.sk 0).busy) = true := by decide +kernel
theorem wit_StealClaim :
    let s := stT [fr 4]
    (s.sk 1).launch = some 1 ∧ s.seeks 1 1 = true ∧ s.noOwn 1 1 = true ∧ s.newWork 1 0 = false ∧
      (s.launch? 1).map (fun L => s.noSteals 0 L.prio) = some false ∧ s.nextVictim 1 1 = some 0 ∧ s.levels = [] ∧ (s.sk 1).claim = none ∧
      (s.ring ⟨1, 0⟩).2 = 0 ∧ (s.sk 0).launch = some 1 ∧ (s.sk 0).hw = fr 4 :: [] := by decide +kernel
/-- The bottom entry is another thief's: the round fails, and the Skillet returns to the pool. -/
theorem test_claim_fails : leads (exec (.stealClaim 1 0) (stT [{ fr 4 with state := .claimed, claimer := 2 }]))
    (fun t => (t.sk 1).claim.isNone && (t.sk 1).pool) = true := by decide +kernel
theorem test_claim : leads (exec (.stealClaim 1 0) (stT [fr 4]))
    (fun t => (t.sk 1).claim.map (fun c => (c.victim, c.h)) == some (0, 2) && (t.sk 0).hw.map (fun f => f.state) == [.claimed]) = true := by
  decide +kernel
def stTake : State :=
  (stT [{ fr 4 with state := .claimed, claimer := 1 }]).updSk 1 (fun x => { x with claim := some ⟨0, 2, { fr 4 with claimer := 1 }, 1, none⟩ })
theorem wit_StealTake : (stTake.sk 1).claim = some ⟨0, 2, { fr 4 with claimer := 1 }, 1, none⟩ ∧ stTake.logShut 0 0 = false ∧ (stTake.sk 1).busy = false ∧ (stTake.launch? 1).isSome = true ∧
    (stTake.launch? 1).map (fun L => L.ending) = some none ∧ 1 ≠ 0 ∧ dieOf 1 = dieOf 0 ∧ (stTake.sk 0).launch = some 1 ∧
    (stTake.sk 0).hw = [] ++ { fr 4 with state := .claimed, claimer := 1 } :: [] ∧ (stTake.sk 1).launch = some 1 ∧ (stTake.sk 1).hw.length < 64 := by
  decide +kernel
/-- 07 R174: of four iterations the thief runs the first, keeps one more, and two stay. -/
theorem test_take : leads (exec (.stealTake 1) stTake)
    (fun t => (t.sk 1).busy && (t.sk 1).info.frame.arg0 == 10 && (t.sk 1).hw.map (fun f => (f.arg0, f.count)) == [(11, 1)] &&
      (t.sk 0).hw.map (fun f => (f.arg0, f.count)) == [(12, 2)]) = true := by decide +kernel
def stEnd : State := stC (fun t => { t with c := { t.c with st := .ended }, a := { t.a with st := .ended }, v := { t.v with st := .ended } })
theorem wit_Completion : (stEnd.sk 0).busy = true ∧ (stEnd.sk 0).halted = none ∧ (stEnd.sk 0).handler = none ∧ (stEnd.tk 0).allEnded = true ∧
    (stEnd.tk 0).pfs = [] ∧ (stEnd.sk 0).info.frame.jctr = 0 ∧ (stEnd.launch? (stEnd.sk 0).info.launch).isSome = true := by decide +kernel
theorem test_completion : leads (exec (.completionRelease 0) stEnd)
    (fun t => !(t.sk 0).busy && (t.launch? 1).map (fun L => (L.live, L.ndone)) == some (0, 1)) = true := by decide +kernel
def stSpin : State := { stC (fun t => { sxy 0x10100 0 t with cmd := some (.spin 0 0x10100) }) with now := 2048 }
theorem wit_JoinSpin : (stSpin.tk 0).cmd = some (.spin 0 0x10100) ∧ (stSpin.sk 0).busy = true ∧ (stSpin.sk 0).halted = none ∧
    (stSpin.sk 0).handler = none ∧ (stSpin.sk 0).info.stop = none ∧ 0 + 2048 ≤ stSpin.now ∧ stSpin.plainPlace (loc 0x10100) 8 ∧
    stSpin.clean (loc 0x10100).pa 8 ∧ jcCount (rdNat stSpin.mem (loc 0x10100).pa 8) ≠ 0 ∧ jcWaiter (rdNat stSpin.mem (loc 0x10100).pa 8) ≠ 0 := by
  decide +kernel
theorem wit_JoinSpin_loc : stSpin.jctrLoc 0 0x10100 = .ok (loc 0x10100) := ok_of (by decide +kernel)
theorem test_join_busy : leads (exec (.joinSpinExpiry 0) stSpin) (fun t => took t .C Code.joinBusy) = true := by decide +kernel

/-! ### Launches (13) -/

def qs : QSlot := { qid := 9, desc := 0x8000, asid := 1, base := 0x10000, lg := 4, prio := 3, ptmax := 100, tail := 5, head := 5 }
def stQ (tail : Nat) (q : QSlot) : State :=
  let s := (State.reset).updDie 0 (fun D => { D with qslots := [(2, q)] })
  { s with mem := wrCells s.mem (cellsAt 0x8010 (leBytes 4 tail)) }
theorem wit_Notify : Tbl.find ((stQ 6 qs).die 0).qslots 2 = some qs ∧ qs.qid = 9 % 65536 ∧
    (stQ 6 qs).hostUp = true ∧ qs.unmapDue = false ∧
    (rdNat (stQ 6 qs).mem (qs.desc + 0x10) 4 + 2 ^ 32 - qs.head) % 2 ^ 32 ≤ 2 ^ qs.lg ∧
    2 ^ qs.lg < (rdNat (stQ 100 qs).mem (qs.desc + 0x10) 4 + 2 ^ 32 - qs.head) % 2 ^ 32 ∧
    Tbl.find (State.reset.die 0).qslots 2 = none ∧ Tbl.find (State.reset.die 0).qlast 2 = none := by decide +kernel
theorem wit_Notify_ok : (stQ 6 qs).physOk (qs.desc + 0x10) 4 true = .ok () := ok_of (by decide +kernel)
theorem test_notify : leads (exec (.notify 0 2 9) (stQ 6 qs))
    (fun t => Tbl.find (t.die 0).qslots 2 == some { qs with tail := 6, order := some 0 }) = true := by decide +kernel
theorem test_notify_unmaps : leads (exec (.notify 0 2 9) (stQ 100 qs)) (fun t => Tbl.find (t.die 0).qslots 2 == none) = true := by decide +kernel
theorem test_notify_dropped : leads (exec (.notify 0 2 9) State.reset) (fun t => Tbl.look 0 (t.die 0).ndrop 2 == 1) = true := by decide +kernel
def qw : QSlot := { qs with order := some 0 }
theorem wit_Capture : Tbl.find ((stQ 5 qw).die 0).qslots 2 = some qw ∧ qw.ready = none ∧ qw.order.isSome = true ∧ ((stQ 5 qw).die 0).alive = true ∧
    qw.head = qw.tail ∧ rdNat (stQ 5 qw).mem (qw.desc + 0x10) 4 = qw.tail ∧ qw.unmapDue = false ∧ (stQ 6 qw).queueBusy qw.qid = false ∧ ({ qw with tail := 6 } : QSlot).head ≠ 6 := by
  decide +kernel
theorem wit_Capture_fail : ∃ code c, ((stQ 6 { qw with tail := 6 }).capture 0 { qw with tail := 6 }).1 = .fail code c := ⟨_, _, rfl⟩
theorem test_capture_idle : leads (exec (.packetCapture 0 2) (stQ 5 qw)) (fun t => Tbl.find (t.die 0).qslots 2 == some { qw with order := none }) =
    true := by decide +kernel
theorem test_capture_bad : leads (exec (.packetCapture 0 2) (stQ 6 { qw with tail := 6 }))
    (fun t => (Tbl.find (t.die 0).qslots 2).map (fun q => (q.head, q.ready)) == some (6, none)) = true := by decide +kernel

/-- A level-change packet heads the queue, in the page of code and data. -/
def qc : QSlot := { qw with tail := 6 }
def stHd : State :=
  let s := (stC id).updDie 0 (fun D => { D with qslots := [(2, qc)] })
  let m := wrCells (wrCells [] (cellsAt 64 (leBytes 8 0x10000001))) (cellsAt 0x10200 (leBytes 8 0x300000000000000))
  { s with mem := wrCells m (cellsAt 0x10140 (leBytes 8 3 ++ leBytes 8 0x10200 ++ leBytes 8 0 ++ leBytes 8 0x10300)) }
theorem wit_Capture_head : (stHd.die 0).alive = true ∧ qc.order.isSome = true ∧ qc.head ≠ qc.tail ∧ stHd.queueBusy qc.qid = false ∧ (match stHd.capture 0 qc with
      | (.head h, s1) => pktKind h.pkt == 3 && Tbl.find (s1.die 0).qslots 2 == some qc
      | _ => false) = true ∧
    leads (exec (.packetCapture 0 2) stHd) (fun t => (Tbl.find (t.die 0).qslots 2).map (fun q => q.ready.isSome) == some true) = true := by decide +kernel

/-- A ready packet of KIND 1 for die 0, a launch of three iterations. -/
def head1 : Head := { pkt := [0x0101, 0, 0, 0, 0, 0, 0, 0], recd := [0x30000, 1, 3, 0, 0, 0, 0, 0], gtab := [], compl := 0x9000 }
def qr : QSlot := { qs with ready := some head1, order := some 0, tail := 6 }
def stDisp : State := stQ 6 qr
theorem wit_Dispatch : (stDisp.die 0).alive = true ∧ stDisp.launches = [] ∧ qr.prio < 8 ∧ stDisp.headsFor 0 = [(0, 2, qr, head1)] ∧
    Tbl.find (stDisp.die 0).qslots 2 = some qr ∧ stDisp.headFits head1 0 = true ∧ stDisp.logShut 0 qr.qid = false ∧ stDisp.sks.all (fun e => e.2.launch != some stDisp.nextId) = true ∧ stDisp.freeOn 0 = some 0 ∧ pktKind head1.pkt = 1 ∧
    0 < nIter head1.recd := by decide +kernel
theorem test_dispatch : leads (exec (.dispatchDecision 0) stDisp)
    (fun t => (t.launch? 1).map (fun L => (L.qid, L.asid, L.pkt)) == some (9, 1, head1.pkt) && (t.sk 0).reserved &&
      (Tbl.find (t.die 0).qslots 2).map (fun q => q.head) == some 6) = true := by decide +kernel
def stDraw : State := onL (stT []) (fun L => { L with pkt := head1.pkt, recd := head1.recd, next := 0 })
theorem wit_BatchDraw : ∃ L, stDraw.launch? 1 = some L ∧ stDraw.mayDraw L 0 = true ∧ L.redraw = [] := ⟨_, rfl, by decide +kernel⟩
theorem test_batch_draw : leads (exec (.batchDraw 1 0) stDraw)
    (fun t => (t.launch? 1).map (fun L => (L.next, L.batches.map (fun b => (b.die, b.first, b.n)))) == some (3, [(0, 0, 3)])) = true := by decide +kernel
def headL : Head := { head1 with pkt := [3, 0, 0, 0, 0, 0, 0, 0], recd := [0, 0, 0, 0, 0, 0, 0, 0] }
def ql : QSlot := { qr with ready := some headL }
theorem wit_LevelChange : Tbl.find ((stQ 6 ql).die 0).qslots 2 = some ql ∧ ql.ready = some headL ∧ pktKind headL.pkt = 3 ∧
    (stQ 6 ql).queueBusy ql.qid = false := by decide +kernel
theorem test_level_change : leads (exec (.levelChange 0 2) (stQ 6 ql))
    (fun t => (Tbl.find t.levels 9).map (fun v => v.asid) == some 1 && (Tbl.find (t.die 0).qslots 2).map (fun q => q.head) == some 6) = true := by
  decide +kernel
def stCl : State := { onL (stC id) (fun L => { L with started := some 0, startOn := [(0, 0)] }) with now := 200000 }
theorem wit_Class : ∃ L, stCl.launch? 1 = some L ∧ stCl.onDie L 0 = true ∧ 0 ∉ L.measured ∧ Tbl.find L.startOn 0 = some 0 ∧ 0 + 102400 ≤ stCl.now :=
  ⟨_, rfl, by decide +kernel⟩
theorem test_class : leads (exec (.launchClassification 1 0 6400 100) stCl)
    (fun t => (t.launch? 1).map (fun L => L.cls) == some (some true) && t.classTbl.length == 1) = true := by decide +kernel
def stLe : State := onL (stT []) (fun L => { L with ending := some ⟨0, 0, 0, 0, 0⟩ })
theorem wit_LaunchEnd : ∃ L, stLe.launch? 1 = some L ∧ L.ending.isSome = true ∧ stLe.jobsOf 1 true = [] := ⟨_, rfl, by decide +kernel⟩
theorem test_launch_end : leads (exec (.launchEnd 1) stLe) (fun t => (t.launch? 1).isNone && (t.sk 0).launch == none) = true := by
  decide +kernel
/-- The Garnet of die 0 was last seen to run 10 ms ago. -/
theorem wit_DieLost : let s := { stC id with now := 16000000 }
    (s.die 0).alive = true ∧ (∃ e ∈ allDies, e ≠ 0 ∧ (s.die e).alive = true) ∧ s.updating = none ∧ (s.die 0).garnetAt + 16000000 ≤ s.now := by
  decide +kernel
theorem test_die_lost : leads (exec (.dieLost 0) { stC id with now := 16000000 }) (fun t => !(t.die 0).alive && !(t.sk 0).busy && (t.sk 0).launch == none) = true := by
  decide +kernel

/-! ### Traps (12) -/

def stopAll (t : Issue) : Issue := { t with c := { t.c with st := .stopped }, a := { t.a with st := .stopped }, v := { t.v with st := .stopped } }
def stKill : State := (stC stopAll).onInfo 0 (fun i => { i with stop := some .kill, teamId := noTeam, frame := { i.frame with taskId := 0x100000005 } })
theorem wit_Kill : (stKill.sk 0).runs = true ∧ (stKill.tk 0).allStopped = true ∧ (stKill.tk 0).allEnded = false ∧ stKill.scrBusy 0 = false ∧
    (stKill.sk 0).info.stop = some .kill ∧ (stKill.sk 0).info.killOk = true ∧ (stKill.sk 0).info.walker = false ∧
    (stKill.sk 0).launch = some (stKill.sk 0).info.launch ∧ (stKill.sk 0).hw.length < 64 := by decide +kernel
theorem test_kill : leads (exec (.checkpoint 0) stKill)
    (fun t => !(t.sk 0).busy && (t.sk 0).hw.map (fun f => (f.taskId, f.state)) == [(0x100000005, .ready)]) = true := by decide +kernel

/-- Context 1 with one save record and a trap area at 0x80000. -/
def ctxMem : List Host.Cell :=
  let m := wrCells [] (cellsAt 64 (leBytes 8 0x10000001))
  let m := wrCells m (cellsAt 88 (leBytes 8 0x50000))
  let m := wrCells m (cellsAt 96 (leBytes 8 0x1000000))
  let m := wrCells m (cellsAt 104 (leBytes 8 0x2000000))
  wrCells m (cellsAt 112 (leBytes 8 1))
def stCtx (f : Issue → Issue) (g : TaskInfo → TaskInfo) : State :=
  let s := (stC f).onInfo 0 (fun i => g { i with teamId := noTeam })
  let s := s.updDie 0 (fun D => { D with tlb := ⟨1, 0, 36, 0x1F, 1⟩ :: D.tlb })
  { s with mem := ctxMem }
theorem wit_Checkpoint :
    let s := stCtx stopAll (fun i => { i with stop := some .checkpoint })
    (s.sk 0).runs = true ∧ (s.tk 0).allStopped = true ∧ (s.tk 0).allEnded = false ∧ s.scrBusy 0 = false ∧ s.freePool (s.asidOf 0) = some 0 ∧
      (s.sk 0).info.stop = some .checkpoint ∧ (s.sk 0).info.teamId = noTeam ∧ s.listRoom (dieOf 0) = true := by decide +kernel
theorem test_checkpoint : leads (exec (.checkpoint 0) (stCtx stopAll (fun i => { i with stop := some .checkpoint })))
    (fun t => !(t.sk 0).busy && t.saved.length == 1 && (t.die 0).resume.length == 1) = true := by decide +kernel
/-- A member of team 0, resident since cycle 0, of a launch that has more to draw. -/
def stSlice : State :=
  let s := stCtx id (fun i => i)
  let s := s.onInfo 0 (fun i => { i with teamId := 0 })
  { onL s (fun L => { L with recd := [0, 0x2000000003], gang := true, pkt := [2] }) with now := 800000 }
theorem wit_TeamSlice : ∃ L m, stSlice.launch? 1 = some L ∧ Tbl.find L.teams 0 = some m ∧ m.base.isSome = true ∧ L.ending = none ∧
    m.since + 800000 ≤ stSlice.now ∧ stSlice.sliceDue L m.die = true ∧
    allSks.filter (fun j => (stSlice.sk j).busy && (stSlice.sk j).info.launch == 1 && (stSlice.sk j).info.teamId == BitVec.ofNat 64 0) = [0] ∧
    (stSlice.sk 0).runs = true ∧ (stSlice.sk 0).info.stop = none ∧ (stSlice.sk 0).info.pend = [] ∧ stSlice.poolRoom L.asid 1 = true :=
  ⟨_, _, rfl, rfl, by decide +kernel⟩
theorem test_team_slice : leads (exec (.teamSliceExpiry 1 0) stSlice) (fun t => (t.sk 0).info.stop == some .checkpoint) = true := by decide +kernel

/-- A head of priority 7 that fits nowhere on die 0 asks for Skillet 0. -/
def head7 : Head := { head1 with pkt := [0x100640101, 0, 0, 0, 0, 0, 0, 0] }
def stPre : State :=
  let s := (stCtx id (fun i => i)).updDie 0 (fun D => { D with qslots := [(2, { qs with prio := 7, ready := some head7, order := some 0 })] })
  (List.range 31).foldl (fun s k => s.updSk (k + 1) (fun x => { x with fenced := true })) s
theorem wit_Preemption : (stPre.sk 0).claim = none ∧ stPre.yields 0 = true ∧ stPre.requested 0 100 = true ∧ (stPre.sk 0).info.teamId = noTeam ∧
    (stPre.sk 0).handler = none ∧ (stPre.sk 0).info.stop = none ∧ (stPre.sk 0).info.pend = [] ∧ (stPre.sk 0).info.drain = none ∧
    (stPre.freePool (stPre.asidOf 0)).isSome = true ∧ stPre.listRoom 0 = true ∧ (stPre.tk 0).remt = 0 := by decide +kernel
theorem test_preemption : leads (exec (.preemptionRequest 0 100) stPre) (fun t => (t.sk 0).info.stop == some .checkpoint) = true := by
  decide +kernel

/-- The task that `test_checkpoint` saves, before it resumes. -/
def stSaved : State :=
  match execCheckpoint 0 (stCtx (fun t => (stopAll t).setS 5 99) (fun i => { i with stop := some .checkpoint })) with
  | .next t => t
  | _ => State.reset
theorem wit_Resume : (stSaved.sk 0).launch = some 1 ∧ (stSaved.resumeNext 0 1).isSome = true ∧ stSaved.mayTake 0 1 = true ∧ (stSaved.launch? 1).isSome = true ∧
    stSaved.idle 0 = true ∧ (stSaved.launch? 1).map (fun L => L.ending) = some none ∧ stSaved.levels = [] := by decide +kernel
theorem test_resume : leads (exec (.taskResume 0) stSaved)
    (fun t => (t.sk 0).busy && (t.tk 0).getS 5 == 99 && (t.tk 0).c.pc == 0x10000 && (t.tk 0).c.st == .run && t.saved == []) = true := by decide +kernel

theorem wit_DrainTimeout :
    let s := { stCtx id (fun i => { i with drain := some 0 }) with now := 12800 }
    (s.sk 0).info.drain = some 0 ∧ (s.sk 0).runs = true ∧ (s.sk 0).info.stop = none ∧
      0 + min 8 (4 * max (s.ctx (s.asidOf 0)).drainb 1) * 1600 ≤ s.now ∧ (s.sk 0).info.teamId = noTeam ∧ s.roomFor 0 [0] = true := by
  decide +kernel
theorem test_drain_timeout : leads (exec (.drainTimeout 0) { stCtx id (fun i => { i with drain := some 0 }) with now := 12800 })
    (fun t => (t.sk 0).info.stop == some .checkpoint) = true := by decide +kernel
def stTrap : State :=
  stCtx (fun t => { stopAll t with c := { t.c with st := .faulted { code := Code.trap, addr := 5, info := 6 } } }) (fun i => { i with stop := some .trap })
theorem wit_TrapEntry : (stTrap.sk 0).runs = true ∧ (stTrap.sk 0).info.stop = some .trap ∧ (stTrap.tk 0).allStopped = true ∧
    (stTrap.tk 0).firstFault = some { code := Code.trap, addr := 5, info := 6 } ∧ (stTrap.tk 0).pfs = [] ∧
    leads (exec (.trapEntry 0) stTrap) (fun t => (t.sk 0).handler.map (fun h => (h.base, h.taddr, h.tinfo)) == some (stTrap.trapRec 0, 5, 6) &&
      (t.tk 0).c.pc == 0x50000 && (t.sk 0).info.stop == none) = true := by decide +kernel
theorem wit_AsyncFault :
    let s := stC id |>.onInfo 0 (fun i => { i with pend := [(4, { code := 7 }), (2, { code := 9 })] })
    (s.sk 0).runs = true ∧ (s.sk 0).info.nextFault = some (2, { code := 9 }) ∧ (s.sk 0).info.stop = none ∧ (s.tk 0).c.st = .run ∧ ({ code := 9 } : Report).mc = none ∧
      leads (exec (.asyncFaultDelivery 0) s) (fun t => took t .C 9 && (t.sk 0).info.pend.length == 1) = true := by decide +kernel
theorem wit_HandlerTimeout :
    let s := { (stH .C id) with now := 1600, mem := ctxMem }
    (s.sk 0).handler.isSome = true ∧ (s.sk 0).busy = true ∧ (s.sk 0).halted = none ∧ (s.sk 0).handler.map (fun h => h.reached) = some false ∧ 0 + (s.ctx (s.asidOf 0)).hlim * 1600 ≤ s.now ∧
      (s.launch? (s.sk 0).info.launch).map (fun L => L.ending) = some none ∧
      leads (exec (.handlerTimeout 0) s) (fun t => (t.launch? 1).bind (fun L => L.ending) == some ⟨1, Code.handlerTimeout, 0, 0, 0⟩) = true := by
  decide +kernel

end Sys2Proof.Tests
end

