-- ==== Sys2Proof/Tests/UnitEventWitnesses.lean ====
section
/-! SUPPORT. States that meet the hypotheses of the statements about the events of the Griddle, Colander, Whisk, handles, host, links, memory and
management, with what the event leaves. -/

namespace Sys2Proof.Tests

open Sys2Proof Sys2Proof.Machine

set_option Elab.async false

/-! ### Griddle (09) -/

def slabFree : Slab := { slab1 with lease := none, waiters := [⟨0, 2, 8, [], false, 0⟩] }
def stGrant : State := { stG slabFree (fun t => { t with cmd := some (.grant 5 ⟨3, 0⟩) }) with now := 4 }
theorem wit_LeaseGrant : Tbl.find (stGrant.die 0).slabs 5 = some slabFree ∧ slabFree.lease = none ∧
    slabFree.closing = false ∧ slabFree.waiters.find? (fun x => x.sk % 32 == (slabFree.ptr + 1 + 0) % 32 && decide (x.since < stGrant.now)) = some ⟨0, 2, 8, [], false, 0⟩ ∧
    (stGrant.tk 0).cmd = some (.grant 5 ⟨3, 0⟩) ∧ (stGrant.tk 0).c.loops = [] ∧ (stGrant.sk 0).info.step = none ∧
    leads (exec (.leaseGrant 0 5) stGrant) (fun t => (Tbl.find (t.die 0).slabs 5).bind (fun b => b.lease) == some ⟨0, 2, 8, [], 4⟩ &&
      (t.tk 0).cmd.isNone && (t.tk 0).c.pc == 0x10008) = true := by decide +kernel
def slabOld : Slab := { slab1 with waiters := [⟨1, 2, 8, [], false, 0⟩] }
def stRevoke : State := { stG slabOld id with now := 65537 }
theorem wit_LeaseRevocation : Tbl.find (stRevoke.die 0).slabs 5 = some slabOld ∧ slabOld.lease = some ⟨0, 1, 16, [], 0⟩ ∧ slabOld.waiters ≠ [] ∧
    slabOld.queue.length < 32 ∧ 0 + 65536 < stRevoke.now ∧
    leads (exec (.leaseRevocation 0 5) stRevoke) (fun t => (Tbl.find (t.die 0).slabs 5).map (fun b => (b.lease, b.waiters.length)) == some (none, 2) &&
      (t.sk 0).info.saved.length == 1) = true := by decide +kernel
def zeroJob (k : JobKind) (st : JobState) : Job := { kind := k, seq := 7, srcDie := 0, sk := 0, tid := 1, launch := 1, asid := 1, taskId := 0, clk := 1, card := [], st := st, slab := 5, set := 1 }
def stAcc (k : JobKind) : State := stG slab1 (fun t => { t with cmd := some (.accept 0 (zeroJob k .queued) ⟨3, 0⟩) })
theorem wit_Accept_level : (stAcc .gdrain).levelOf 0 < 2 := by decide +kernel
theorem wit_Accept : ((stAcc .gdrain).tk 0).cmd = some (.accept 0 (zeroJob .gdrain .queued) ⟨3, 0⟩) ∧ ((stAcc .gdrain).sk 0).busy = true ∧
    ((stAcc .gdrain).sk 0).halted = none ∧ ((stAcc .gdrain).sk 0).info.stop = none ∧ (zeroJob .gdrain .queued).sent = false ∧
    ((stAcc .gdrain).acceptGriddle 0 (zeroJob .gdrain .queued)).isSome = true ∧ ((stAcc .greshape).acceptGriddle 0 (zeroJob .greshape .queued)).isSome = true ∧
    leads (exec (.jobWindowAccept 0) (stAcc .gdrain)) (fun t => (t.tk 0).cmd.isNone && (t.tk 0).c.pc == 0x10008 && (t.job? 0 0).isSome) = true ∧
    leads (exec (.jobWindowAccept 0) (stAcc .greshape)) (fun t => (t.tk 0).cmd == some (.act 5 0 ⟨3, 0⟩) && (t.tk 0).c.pc == 0x10000) = true := by
  decide +kernel
/-- A GZERO of set 1 heads the queue of slab 5, in the window's entry 2. -/
def stHead (k : JobKind) (st : JobState) (f : Issue → Issue) : State :=
  (stG { slab1 with queue := [2] } f).updDie 0 (fun D => { D with window := [(2, zeroJob k st)] })
theorem wit_GriddleStart : (stHead .gzero .queued id).headJob 0 5 = some (2, { slab1 with queue := [2] }, zeroJob .gzero .queued) ∧
    (stHead .gzero .queued id).edgesClear 0 (zeroJob .gzero .queued) = true ∧ waitSem (zeroJob .gzero .queued).card 0 = none ∧
    leads (exec (.griddleJobStart 0 5) (stHead .gzero .queued id)) (fun t => (t.job? 0 2).map (fun j => j.st) == some .running) = true := by decide +kernel
theorem wit_GriddleComplete : (stHead .gzero .running id).headJob 0 5 = some (2, { slab1 with queue := [2] }, zeroJob .gzero .running) ∧
    (stHead .gzero .running id).classClear (zeroJob .gzero .running) = true ∧
    (match (stHead .gzero .running id).runGriddle ⟨0, 2, 5, zeroJob .gzero .running⟩ with
      | (_, none) => true
      | _ => false) = true ∧
    leads (exec (.griddleJobComplete 0 5) (stHead .gzero .running id)) (fun t => (t.job? 0 2).isNone &&
      (Tbl.find (t.die 0).slabs 5).map (fun b => (b.queue, (b.aset 1).st)) == some ([], .empty)) = true := by decide +kernel
/-- A GSAVE to an unmapped address. -/
def saveJob : Job := { zeroJob .gsave .running with card := [0, 0, 0, 0, 0, 0, 0, 0, 0, 0x7000000000] ++ List.replicate 6 0 }
def stHalt : State := (stG { slab1 with queue := [2], sets := [(1, { st := .clean, aty := 0 })] } id).updDie 0 (fun D => { D with window := [(2, saveJob)] })
theorem wit_GriddleHalt : (match stHalt.runGriddle ⟨0, 2, 5, saveJob⟩ with
      | (s1, some (.fault r)) => r.code != Code.badImage && (s1.job? 0 2).isSome && s1.taskAt 1 == some 0 &&
          (s1.launch? 1).any (fun L => L.ending.isNone)
      | _ => false) = true ∧
    leads (exec (.griddleJobHalt 0 5) stHalt) (fun t => (t.job? 0 2).map (fun j => j.st.isHalted) == some true &&
      (t.sk 0).info.pend.map (fun p => (p.1, p.2.async)) == [(7, true)]) = true := by decide +kernel
theorem wit_Greshape : (stHead .greshape .queued (fun t => { t with cmd := some (.act 5 2 ⟨3, 0⟩) })).headJob 0 5 =
      some (2, { slab1 with queue := [2] }, zeroJob .greshape .queued) ∧
    (stHead .greshape .queued (fun t => { t with cmd := some (.act 5 2 ⟨3, 0⟩) })).standing 0 (fun c => match c with
      | .act i w _ => i == 5 && w == 2
      | _ => false) = some 0 ∧
    leads (exec (.greshapeAct 0 5) (stHead .greshape .queued (fun t => { t with cmd := some (.act 5 2 ⟨3, 0⟩) })))
      (fun t => (t.tk 0).cmd.isNone && (t.tk 0).c.pc == 0x10008 && (t.job? 0 2).isNone) = true := by decide +kernel
theorem wit_Gfree_alone : allSks.all (fun j => ((stG { slab1 with lease := none, closing := true } (fun t => { t with cmd := some (.free 5 ⟨3, 0⟩) })).tk j).cmd.all
    (fun c => !c.toSlab 5 && !c.onSlab 5)) = true := by decide +kernel
theorem wit_Gfree : (stG { slab1 with lease := none, closing := true } (fun t => { t with cmd := some (.free 5 ⟨3, 0⟩) })).standing 0 (fun c => match c with
      | .free i _ => i == 5
      | _ => false) = some 0 ∧
    leads (exec (.gfreeRelease 0 5) (stG { slab1 with lease := none, closing := true } (fun t => { t with cmd := some (.free 5 ⟨3, 0⟩) })))
      (fun t => (t.die 0).slabs == [] && (t.tk 0).cmd.isNone && (t.tk 0).c.pc == 0x10008) = true := by decide +kernel

/-! ### Colander (10) -/

def cpJob (st : JobState) (landed : List Nat) : Job :=
  { kind := .cpy, seq := 3, srcDie := 0, sk := 0, tid := 1, launch := 1, asid := 1, taskId := 0, clk := 1
    card := [0x80300000, 0, 0, 0, 0, 0, 0, 0, 0, 0x10100, 0x10200, 0x8000000000000004, 0, 0, 64, 0], st := st, chunks := 1, landed := landed }
def stCp (st : JobState) (landed : List Nat) : State := (stC id).updDie 0 (fun D => { D with window := [(1, cpJob st landed)] })
theorem wit_CopyStart : (stCp .ready []).job? 0 1 = some (cpJob .ready []) ∧ (cpJob .ready []).kind.colander = true ∧
    (cpJob .ready []).unbegun = false ∧
    (∀ e ∈ ((stCp .ready []).die 0).window, e.2.kind.colander = true → (cpJob .ready []).ord ≤ e.2.ord ∨ (stCp .ready []).copyReady 0 e.2 = false) ∧ ((stCp .ready []).die 0).cengs.length < 4 ∧
    leads (exec (.colanderJobStart 0 1) (stCp .ready [])) (fun t => (t.job? 0 1).map (fun j => j.st) == some .running && (t.die 0).cengs == [1]) = true := by
  decide +kernel
theorem wit_ChunkLand : (stCp .running []).runningCopy 0 1 = some (cpJob .running []) ∧ (cpJob .running []).far = false ∧ (cpJob .running []).nChunks = 1 ∧
    (stCp .running []).classClear (cpJob .running []) = true ∧
    (match (stCp .running []).copyChunk 0 1 (cpJob .running []) 0 with
      | .ok _ => true
      | _ => false) = true ∧
    leads (exec (.colanderChunkLand 0 1 0) (stCp .running [])) (fun t => rdNat t.mem 0x10200 8 == 0x8887868584838281 &&
      (t.job? 0 1).map (fun j => j.landed) == some [0] && (t.slot 0 0).bits.getLsbD 4) = true := by decide +kernel
theorem wit_CopyComplete : (stCp .running [0]).runningCopy 0 1 = some (cpJob .running [0]) ∧ (cpJob .running [0]).nChunks ≤ 1 ∧
    (stCp .running [0]).classClear (cpJob .running [0]) = true ∧ xChk (cpX (cpJob .running [0]).card) = false ∧
    sigSem (cpJob .running [0]).card 0 = some (0, 3) ∧ ((stCp .running [0]).sem 0 3).q = [] ∧
    leads (exec (.colanderJobComplete 0 1) (stCp .running [0])) (fun t => (t.job? 0 1).isNone && (t.sem 0 3).value == 1) = true := by decide +kernel
/-- A gather and a scatter of no rows have begun to run. -/
def gaJob (k : JobKind) : Job := { cpJob .running [] with kind := k, card := [0, 0, 0, 0, 0, 0, 0, 0, 0, 0x10100, 0x10200, 0, 0, 0x10300, 0, 0x10380], chunks := 0 }
def stGa (k : JobKind) : State := (stC id).updDie 0 (fun D => { D with window := [(1, gaJob k)] })
theorem wit_CopyBegin : (∀ k ∈ [JobKind.cpyg, .cpys], (stGa k).job? 0 1 = some (gaJob k) ∧ (gaJob k).kind.colander = true ∧ (gaJob k).st = .running ∧
      (gaJob k).unbegun = true ∧ (stGa k).classClear (gaJob k) = true ∧ (match (stGa k).beginCopy 0 1 (gaJob k) with
        | .ok _ => true
        | _ => false) = true) ∧
    leads (exec (.colanderJobStart 0 1) (stGa .cpyg)) (fun t => (t.job? 0 1).map (fun j => j.sent) == some true) = true := by decide +kernel
/-- A copy of 64 bytes to chip 1, whose link of die 0 is up. -/
def farJob : Job := { cpJob .running [] with kind := .cpyr, card := [0, 0, 0, 0, 0, 0, 0, 0, 0, 0x10100, 0x10200, 0, 0, 0, 64, 0x4001] }
def stFar : State :=
  let s := (stC id).updDie 0 (fun D => { D with window := [(1, farJob)] })
  { s with routes := [(1, 1)] }
theorem wit_CopyFar : stFar.runningCopy 0 1 = some farJob ∧ farJob.far = true ∧ stFar.classClear farJob = true ∧ (match stFar.sendNext 0 1 farJob with
      | .ok (some _) => true
      | _ => false) = true ∧
    leads (exec (.colanderChunkLand 0 1 0) stFar) (fun t => (t.job? 0 1).map (fun j => j.rp) == some 1) = true := by decide +kernel
/-- A copy on this chip adds 1 to its flag at the end. -/
def flagJob : Job := { cpJob .running [0] with kind := .cpyr, card := [0, 0, 0, 0, 0, 0, 0, 0, 0, 0x10100, 0x10200, 0, 0, 0, 64, 0x1038000] }
def stFlag : State := (stC id).updDie 0 (fun D => { D with window := [(1, flagJob)] })
theorem wit_CopyFlag : stFlag.runningCopy 0 1 = some flagJob ∧ flagJob.far = false ∧ cpFen flagJob.card = true ∧ flagJob.nChunks ≤ flagJob.landed.length ∧
    stFlag.classClear flagJob = true ∧ (match stFlag.addFlag 0 1 flagJob with
      | .ok _ => true
      | _ => false) = true ∧
    leads (exec (.colanderJobComplete 0 1) stFlag) (fun t => rdNat t.mem 0x10300 8 == 1 && (t.job? 0 1).isNone) = true := by decide +kernel
/-- The check word 5 is not that of the bytes copied. -/
def chkJob : Job := { cpJob .running [0] with card := [0x80300000, 0, 0, 0, 0, 0, 0, 0, 0, 0x10100, 0x10200, 0x8000000000000004, 0x500002000, 0, 64, 0] }
def stChk : State := (stC id).updDie 0 (fun D => { D with window := [(1, chkJob)] })
theorem wit_CopyMismatch : stChk.runningCopy 0 1 = some chkJob ∧ xChk (cpX chkJob.card) = true ∧ crc32c chkJob.checkedBytes ≠ fld (cpX chkJob.card) 63 32 ∧
    chkJob.hm = false ∧ stChk.taskAt 1 = some 0 ∧ chkJob.nChunks ≤ chkJob.landed.length ∧ stChk.classClear chkJob = true ∧
    leads (exec (.colanderJobComplete 0 1) stChk) (fun t => (t.job? 0 1).isNone && (t.sem 0 3).value == 0 &&
      (t.sk 0).info.pend.map (fun p => (p.1, p.2.code)) == [(3, Code.checkMismatch)]) = true := by decide +kernel
/-- A scatter that has landed sets its bits at its completion. -/
def scJob : Job := { cpJob .running [0] with kind := .cpys, sent := true }
def stSc : State := (stC id).updDie 0 (fun D => { D with window := [(1, scJob)] })
theorem wit_ScatterComplete : stSc.runningCopy 0 1 = some scJob ∧ scJob.nChunks ≤ scJob.landed.length ∧ stSc.classClear scJob = true ∧
    cpBen scJob.card = true ∧ cpBoff scJob.card + 0 < 4096 ∧
    leads (exec (.colanderJobComplete 0 1) stSc) (fun t => (t.slot 0 0).bits.getLsbD 4 && (t.job? 0 1).isNone) = true := by decide +kernel
/-- The source page is not mapped. -/
def badCopy : Job := { cpJob .running [] with card := [0, 0, 0, 0, 0, 0, 0, 0, 0, 0x7000000000, 0x10200, 0, 0, 0, 64, 0] }
def stBad : State := (stC id).updDie 0 (fun D => { D with window := [(1, badCopy)] })
theorem wit_CopyHalt : (match stBad.copyChunk 0 1 badCopy 0 with
      | .error (.fault _) => true
      | _ => false) = true ∧ (stBad.launch? 1).any (fun L => L.ending.isNone) = true ∧
    leads (exec (.colanderJobHalt 0 1 0) stBad) (fun t => (t.job? 0 1).map (fun j => j.st.isHalted) == some true) = true := by decide +kernel
/-- Slot 0 has arrived and waits at phase 0, which has since completed. -/
def stPh (elect : Bool) : State :=
  let s := (stC (fun t => { t with cmd := some (.phase 0 0 1 elect ⟨3, 0⟩) })).onInfo 0 (fun i => { i with arr := some ⟨elect, 0, 0⟩ })
  onL s (fun L => { L with teams := [(0, ⟨0, some 0, 0, 0, [(0, { phase := 1, done := [(0, 5)], winner := some 0 })]⟩)] })
theorem wit_PhaseWait : ((stPh true).tk 0).cmd = some (.phase 0 0 1 true ⟨3, 0⟩) ∧ ((stPh true).tk 0).c.st = .run ∧ (stPh true).levelOf 0 < 2 ∧
    ((stPh true).group 0 0 0).arrived = 0 ∧ ((stPh true).group 0 0 0).passed 0 = true ∧
    leads (exec (.phaseWaitResume 0) (stPh true)) (fun t => (t.tk 0).getS 3 == 1 && (t.tk 0).c.pc == 0x10008 && (t.sk 0).info.arr.isNone) = true := by
  decide +kernel

/-! ### Whisk and handles (14) -/

def wkJob (st : JobState) : Job :=
  { kind := .fwzero, seq := 3, srcDie := 0, sk := 0, tid := 1, launch := 1, asid := 1, taskId := 0, clk := 1, card := cardW, st := st, handle := hv }
theorem noMarks_of (s : State) (h : Handle) (hh : s.handles = [(0x1000001, h)]) (ho : ∀ x ∈ h.ord, ∀ dst tok m, x ≠ .mark dst tok m) : s.noMarks := by
  intro e he
  rw [hh, List.mem_singleton] at he
  subst he
  exact ho
def stWa (seq : Nat) : State := stW { hnd with nextSeq := seq } (fun t => { t with cmd := some (.whisk (wkJob .queued) ⟨3, 0⟩) })
theorem wit_WhiskAccept : (stWa 0).noMarks ∧ ((stWa 0).tk 0).cmd = some (.whisk (wkJob .queued) ⟨3, 0⟩) ∧ ((stWa 0).tk 0).c.st = .run ∧
    (stWa 0).fwHandle 0 (wkJob .queued) = .ok hnd ∧ (stWa 0).unreachable hnd = false ∧ hnd.rolling = false ∧ (stWa 0).freeWin 0 = some 0 ∧
    (fwSeqOf cardW + 2 ^ 32 - hnd.nextSeq) % 2 ^ 32 = 0 ∧ (fwSeqOf cardW + 2 ^ 32 - 0xFFFFFFFF) % 2 ^ 32 = 1 :=
  ⟨noMarks_of _ hnd rfl (by simp [hnd]), by decide +kernel, by decide +kernel, ok_of (by decide +kernel), by decide +kernel⟩
theorem test_whisk_accept : leads (exec (.whiskAccept 0) (stWa 0)) (fun t => (t.die 0).wq == [0] && (t.tk 0).c.pc == 0x10008) = true := by decide +kernel
theorem test_whisk_ahead : leads (exec (.whiskAccept 0) (stWa 0xFFFFFFFF)) (fun t => (t.die 0).rs == [0] && (t.die 0).wq == []) = true := by decide +kernel
def hndJ : Handle := { hnd with ord := [.job 0 2] }
def stWr (st : JobState) (run : Option Nat) : State :=
  (stW hndJ id).updDie 0 (fun D => { D with window := [(2, wkJob st)], wq := [2], wrun := run })
theorem wit_WhiskStart : (stWr .ready none).noMarks ∧ (stWr .ready none).whiskNext 0 = some 2 ∧ (stWr .ready none).jobAt 2 = some (wkJob .ready) ∧
    ((stWr .ready none).die 0).wrun = none ∧ (stWr .ready none).handle? hv = some hndJ ∧ fwSeqOf cardW = hndJ.nextSeq ∧
    leads (exec (.whiskJobStart 0) (stWr .ready none)) (fun t => (t.die 0).wrun == some 2) = true :=
  ⟨noMarks_of _ hndJ rfl (by simp [hndJ]), by decide +kernel⟩
theorem wit_WhiskCommit : (stWr .running (some 2)).noMarks ∧ (stWr .running (some 2)).whiskJob 0 = some ⟨0, 2, wkJob .running, hndJ⟩ ∧
    (match (stWr .running (some 2)).whiskRun ⟨0, 2, wkJob .running, hndJ⟩ with
      | (s1, .ok x) => x.image.isSome && (s1.handle? hv).isSome
      | _ => false) = true ∧ (stWr .running (some 2)).classClear (wkJob .running) = true ∧
    leads (exec (.whiskCommit 0) (stWr .running (some 2))) (fun t => (t.handle? hv).map (fun h => (h.nextSeq, h.image, h.res)) == some (1, [], .resident) &&
      (t.jobAt 2).isNone) = true := ⟨noMarks_of _ hndJ rfl (by simp [hndJ]), by rfl, by decide +kernel⟩
/-- An FWLD whose image is not mapped. -/
def ldJob : Job := { wkJob .running with kind := .fwld, card := (List.replicate 12 0) ++ [0x7000000000, 0, 0, 0] }
def stWh : State := (stW hndJ id).updDie 0 (fun D => { D with window := [(2, ldJob)], wq := [2], wrun := some 2 })
theorem wit_WhiskHalt : stWh.noMarks ∧ stWh.whiskJob 0 = some ⟨0, 2, ldJob, hndJ⟩ ∧
    (match stWh.whiskRun ⟨0, 2, ldJob, hndJ⟩ with
      | (s1, .error (.job (.fault _))) => (s1.jobAt 2).isSome && (s1.launch? 1).any (fun L => L.ending.isNone)
      | _ => false) = true ∧ stWh.classClear ldJob = true ∧
    leads (exec (.whiskJobHalt 0) stWh) (fun t => (t.jobAt 2).map (fun j => j.st.isHalted) == some true && (t.die 0).wrun.isNone) = true :=
  ⟨noMarks_of _ hndJ rfl (by simp [hndJ]), by rfl, by decide +kernel⟩
def iss : Issuer := ⟨1, 1, 0, false, 0⟩
def hndP : Handle := { hnd with res := .parked, pages := [], ord := [.pin true iss] }
theorem wit_PageIn : (stW hndP id).atHead 0x1000001 hndP (.pin true iss) [] ∧ hndP.made = true ∧ hndP.res = .parked ∧ (stW hndP id).itemNeeds (.pin true iss) = true ∧
    (stW hndP id).hasCrock 0 = true ∧ ((stW hndP id).takePages 0 hndP.npg).1 = some [0] ∧
    (match (stW hndP id).readBacking hndP with
      | .ok (_, s2) => (Tbl.find s2.handles 0x1000001).isSome
      | _ => false) = true ∧
    leads (exec (.ladlePageIn 0x1000001) (stW hndP id)) (fun t => (Tbl.find t.handles 0x1000001).map (fun y => (y.res, y.pages)) == some (.resident, [0])) =
      true := ⟨⟨noMarks_of _ hndP rfl (by simp [hndP]), by rfl, by rfl, by rfl⟩, by decide +kernel⟩
/-- A Crock of one page, taken by an idle handle while a parked one wants it. -/
def stEv : State :=
  let s := (stW hnd id).updDie 0 (fun D => { D with crockCap := 1 })
  { s with handles := s.handles ++ [(0x2000001, { hndP with value := 0x2000001, backing := 0x10800 })] }
theorem wit_Eviction : stEv.lru 0 = [hnd] ∧ stEv.crockDemand 0 = true ∧
    (match stEv.writeBacking hnd hnd.image with
      | .ok s1 => (s1.handle? hnd.value).isSome
      | _ => false) = true ∧
    leads (exec (.ladleEviction 0) stEv) (fun t => (t.handle? hv).map (fun h => (h.res, h.pages)) == some (.parked, [])) = true := by decide +kernel

def withOrd (i : HItem) : Handle := { hnd with ord := [i], image := [(0, 7)], nextSeq := 4 }
theorem atHead_of (h : Handle) (f : Issue → Issue) (i : HItem) (hv' : h.value = hv) (ho : h.ord = [i]) (hm : ∀ dst tok m, i ≠ .mark dst tok m) :
    (stW h f).atHead 0x1000001 h i [] := by
  refine ⟨noMarks_of _ h rfl ?_, ?_, ?_, ho⟩
  · rw [ho]
    intro x hx
    rw [List.mem_singleton] at hx
    subst hx
    exact hm
  · rfl
  · rw [hv']
    rfl
theorem wit_ShnewAction : (stW { withOrd .new with made := false, pages := [] } id).atHead 0x1000001 { withOrd .new with made := false, pages := [] } .new [] ∧
    hnd.npg ≤ ((stW { withOrd .new with made := false, pages := [] } id).crockFree 0).length ∧
    leads (exec (.shnewAction 0x1000001) (stW { withOrd .new with made := false, pages := [] } id))
      (fun t => (Tbl.find t.handles 0x1000001).map (fun y => (y.made, y.image, y.pages)) == some (true, [], [0])) = true :=
  ⟨atHead_of _ _ _ rfl rfl (by simp), by decide +kernel⟩
/-- A snapshot of handle 1 waits in its order; its own entry is 2. -/
def stSnap (fork : Bool) : State :=
  let s := stW (withOrd (.snap 0x2000001 fork)) id
  { s with handles := s.handles ++ [(0x2000001, { hnd with value := 0x2000001, made := false, pages := [], snapshot := !fork, ord := [] })] }
theorem wit_SnapAction : Tbl.find (stSnap false).handles 0x1000001 = some (withOrd (.snap 0x2000001 false)) ∧
    ((stSnap false).handle? 0x2000001).isSome = true ∧ (0x2000001 : DWord) ≠ hv ∧
    leads (exec (.shsnapAction 0x1000001) (stSnap false)) (fun t => (t.handle? 0x2000001).map (fun y => (y.made, y.image, y.pages, y.nextSeq)) ==
      some (true, [(0, 7)], [0], 4)) = true ∧
    leads (exec (.shforkAction 0x1000001) (stSnap true)) (fun t => (t.handle? 0x2000001).map (fun y => y.made) == some true) = true := by decide +kernel
def hndR : Handle := { withOrd (.roll 9 0x2000001) with kept := [{ tok := 9, m := 0, ok := true, nextSeq := 2, die := 0, pages := [3], image := [(1, 1)] }] }
theorem wit_RollAction : (stW hndR id).atHead 0x1000001 hndR (.roll 9 0x2000001) [] ∧ (0x2000001 : DWord) ≠ hndR.value ∧ (hndR.keptFor 9).length = 1 ∧
    (∀ d ∈ allDies, ((stW hndR id).die d).rs = []) ∧
    leads (exec (.shrollAction 0x1000001) (stW hndR id)) (fun t => (Tbl.find t.handles 0x1000001).map (fun y => (y.image, y.pages, y.nextSeq)) ==
      some ([(1, 1)], [3], 2)) = true := ⟨atHead_of _ _ _ rfl rfl (by simp), by decide +kernel⟩
theorem wit_MoveBegin : (stW (withOrd (.move 1 0)) id).atHead 0x1000001 (withOrd (.move 1 0)) (.move 1 0) [] ∧ mvXchip 1 = false ∧
    (withOrd (.move 1 0)).res ≠ .moving ∧
    leads (exec (.shmoveAction 0x1000001) (stW (withOrd (.move 1 0)) id)) (fun t => (Tbl.find t.handles 0x1000001).map (fun y => (y.res, y.ord.length)) ==
      some (.moving, 1)) = true := ⟨atHead_of _ _ _ rfl rfl (by simp), by decide +kernel⟩
def hndV : Handle := { withOrd (.move 1 0) with res := .moving }
theorem wit_MoveAction : (stW hndV id).atHead 0x1000001 hndV (.move 1 0) [] ∧ mvXchip 1 = false ∧ hndV.res = .moving ∧ hndV.pages ≠ [] ∧
    (stW hndV id).crockDie (mvDie 1) ≠ hndV.die ∧ hndV.npg ≤ ((stW hndV id).crockFree ((stW hndV id).crockDie (mvDie 1))).length ∧
    leads (exec (.shmoveAction 0x1000001) (stW hndV id)) (fun t => (Tbl.find t.handles 0x1000001).map (fun y => (y.die, y.res, y.image, y.pages)) ==
      some (1, .resident, [(0, 7)], [0])) = true := ⟨atHead_of _ _ _ rfl rfl (by simp), by decide +kernel⟩
theorem wit_PinAction : (stW (withOrd (.pin true iss)) id).atHead 0x1000001 (withOrd (.pin true iss)) (.pin true iss) [] ∧
    leads (exec (.shpinAction 0x1000001) (stW (withOrd (.pin true iss)) id)) (fun t => (Tbl.find t.handles 0x1000001).map (fun y => y.pin.isSome) == some true) = true ∧
    leads (exec (.shpinAction 0x1000001) (stW (withOrd (.pin false iss)) id)) (fun t => (Tbl.find t.handles 0x1000001).map (fun y => y.pin.isSome) == some false) = true :=
  ⟨atHead_of _ _ _ rfl rfl (by simp), by decide +kernel⟩
theorem wit_FreeAction : (stW (withOrd .free) id).atHead 0x1000001 (withOrd .free) .free [] ∧ hHome hv = (stW (withOrd .free) id).chipId.toNat ∧
    leads (exec (.shfreeAction 0x1000001) (stW (withOrd .free) id)) (fun t => (Tbl.find t.handles 0x1000001).isNone && Tbl.look 1 t.handleGen 1 == 2) = true :=
  ⟨atHead_of _ _ _ rfl rfl (by simp), by decide +kernel⟩
def hndM : Handle := { withOrd (.move 4 0x10400) with res := .moving, pages := [], sent := 2 }
theorem wit_MoveAck : (stW hndM id).atHead 0x1000001 hndM (.move 4 0x10400) [] ∧
    hndM.sent = (movePackets (stW hndM id) hndM hndM.image 4 0x10400).length ∧
    leads (exec (.handleMoveAck 0x1000001) (stW hndM id)) (fun t => (Tbl.find t.handles 0x1000001).map (fun y => y.res) == some .away) = true :=
  ⟨atHead_of _ _ _ rfl rfl (by simp), by decide +kernel⟩

/-! ### Host and ingest (08, 18) -/

theorem wit_Host : State.reset.hostUp = true ∧ State.reset.cmdBusy = false ∧ homeOf (64 * 4) = some 0 := by decide +kernel
theorem wit_Host_ok : State.reset.physOk 0x100 8 true = .ok () := ok_of (by decide +kernel)
theorem test_host_add : leads (exec (.hostCxlAccess (.atomicAdd 0x10100 1)) (stM .C id)) (fun t => rdNat t.mem 0x10100 8 == 0x8887868584838282) = true := by
  decide +kernel
theorem test_host_own : leads (exec (.hostCxlAccess (.writeOwn 0x100 [7])) { stM .C id with hostMem := [(0x100, 5)] })
    (fun t => rdB t.hostMem 0x100 == 7 && (t.mem == (stM .C id).mem)) = true := by decide +kernel
theorem test_register : leads (exec (.registerWrite 0 0xFFFF000000012345) State.reset) (fun t => t.ctxtbl == 0x000F000000010000) = true := by decide +kernel
theorem test_mdoor_empty : leads (exec (.registerWrite 8 1) State.reset) (fun t => t.mstat == 1) = true := by decide +kernel
def stHl : State := State.reset.updDie 0 (fun D => { D with hostLines := [(4, ⟨[9], true⟩)] })
theorem wit_Snoop : Tbl.find (stHl.die 0).hostLines 4 = some ⟨[9], true⟩ ∧
    leads (exec (.hostSnoop 0 4 true) stHl) (fun t => rdB t.hostMem 0x100 == 9 && (t.die 0).hostLines == []) = true := by decide +kernel
def stTl (w : DWord) : State := (st .C id).updDie 0 (fun D => { D with invst := 0x8000000000000000, invasid := 1, invctl := w })
theorem wit_HostTlbi : ((stTl 1).die 0).invst.getLsbD 63 = true ∧ tlbiOk ((stTl 1).die 0).invctl ((stTl 1).die 0).invlen = true ∧
    tlbiOk ((stTl 3).die 0).invctl ((stTl 3).die 0).invlen = false ∧
    leads (exec (.hostTlbi 0) (stTl 1)) (fun t => (t.die 0).tlb == [] && (t.die 0).invst == 0) = true ∧
    leads (exec (.hostTlbi 0) (stTl 3)) (fun t => (t.die 0).invst == 1) = true := by decide +kernel
/-- 18 R445: a frame on the wire: MAC address 5, VLAN 6, IPv4 without options, UDP port 7, 54 bytes in all, and its frame check sequence. -/
def wire1 : List Byte :=
  let body : List Byte := [0, 0, 0, 0, 0, 5, 0, 0, 0, 0, 0, 1, 0x81, 0, 0, 6, 8, 0, 0x45, 0, 0, 36, 0, 0, 0, 0, 0, 17, 0, 0, 0, 0, 0, 0, 0, 0, 0, 0] ++
    [0, 9, 0, 7] ++ List.replicate 20 1
  body ++ leBytes 4 (crc32 body)
def frame1 : Frame802 := { bytes := List.replicate 104 1, sec := 1, ns := 2 }
/-- The ring of 18 R447's example: 4 KiB at 0x40000, tail 0xF80. -/
def strm (on : Bool) : Stream := { dws := [(if on then 0x8C00000000040000 else 0), 0x50000, 0x50008, 1], tail := 0xF80 }
def stIn (on : Bool) (buf : List (Nat × Frame802)) : State :=
  let s : State := { State.reset with ports := [(0, { cls := [(0, ⟨5, 6, 7⟩)], buf := buf, streams := [(0, strm on)] })] }
  { s with mem := wrCells s.mem (cellsAt 0x50008 (leBytes 8 0xF00)) }
theorem wit_Ingest : ((stIn true []).die (portDie 0)).alive = true ∧ wire1.length = 66 ∧
    ofLe (wire1.drop 62) = crc32 (wire1.take 62) ∧ beAt wire1 0 6 = 5 ∧ beAt wire1 12 2 = 0x8100 ∧ beAt wire1 14 2 % 4096 = 6 ∧ frameUdp wire1 = some 7 ∧
    Tbl.find ((stIn true []).port 0).cls 0 = some ⟨5, 6, 7⟩ ∧ ((stIn true []).stream 0 0).on = true ∧ ((stIn false []).stream 0 0).on = false ∧
    leads (exec (.ingestFrameArrival 0 wire1) (stIn true [])) (fun t => (t.port 0).buf.map (fun e => (e.1, e.2.bytes)) == [(0, wire1.take 62)]) = true ∧
    leads (exec (.ingestFrameArrival 0 (wire1.set 20 1)) (stIn true [])) (fun t => (t.port 0).buf == []) = true ∧
    leads (exec (.ingestFrameArrival 0 wire1) (stIn false [])) (fun t => (t.stream 0 0).sdrop == 1) = true := by decide +kernel
/-- 18 R447: a record of 0xC0 bytes does not fit in the 0x80 that are left: a pad record, the record at offset 0, the tail at 0x10C0. -/
theorem test_ring : leads (exec (.ingestRecordWrite 0 0) (stIn true [(0, { frame1 with bytes := List.replicate 120 1 })]))
    (fun t => (t.stream 0 0).tail == 0x10C0 && rdNat t.mem 0x50000 8 == 0x10C0 && rdNat t.mem 0x40F80 8 == 0 && rdB t.mem 0x40010 == 1 &&
      (t.port 0).buf == []) = true := by decide +kernel
theorem wit_IngestRecord : ((stIn true [(0, frame1)]).port 0).buf.find? (fun e => e.1 == 0) = some (0, frame1) ∧
    (stIn true [(0, frame1)]).streamQueues ((stIn true [(0, frame1)]).stream 0 0) = [] ∧ ((stIn true [(0, frame1)]).stream 0 0).headA = 0x50008 := by
  decide +kernel

/-! ### Links (18) -/

/-- A packet of one byte; 18 R442: one flit, whose checksum stands in its last eight bytes. -/
def pk : Packet := { kind := .write, src := 1, dst := 0, asid := 1, addr := 0x10100, data := [1], job := 0 }
def badFlits : List (List Byte) := (flitsOf 0 pk).map (fun f => f.set 30 7)
/-- The descriptor of ASID 1 stands at 64 (12 R289). -/
def stLk (l : Link) : State :=
  let s := { stM .C id with links := [(2, l)], inbound := [(1, (0x10000, 0x20000))] }
  { s with mem := wrCells s.mem (cellsAt 64 (leBytes 8 0x10000001)) }
theorem wit_Receive : ((stLk {}).link 2).live = true ∧ packetOf (flitsOf 0 pk) = some (0, pk) ∧ packetOf (flitsOf 65535 pk) = some (65535, pk) ∧
    packetOf badFlits = none ∧ ((stLk {}).applyPacket { pk with via := none }).isSome = true ∧ (1 : Nat) ≠ ((stLk {}).link 3).expect := by
  decide +kernel
theorem test_receive : leads (exec (.benvasPacketReceive 2 none badFlits) (stLk {})) (fun t => (t.link 2).naksSent == [65535] && (t.link 2).expect == 0) =
      true ∧
    leads (exec (.benvasPacketReceive 2 none (flitsOf 0 pk)) (stLk {})) (fun t => (t.link 2).expect == 1 && rdB t.mem 0x10100 == 1) = true ∧
    leads (exec (.benvasPacketReceive 2 none (flitsOf 65535 pk)) (stLk {})) (fun t => (t.link 2).acksSent == [65535] && (t.link 2).expect == 0) =
      true := by decide +kernel
def lkR : Link := { replay := [(3, pk), (4, pk)], ackDue := some 0, lastAck := 0, nextSeq := 5 }
theorem wit_Acks : ((stLk lkR).link 2).live = true ∧ lkR.replay.any (fun e => decide (seqBehind 3 e.1 < 32768)) = true ∧ lkR.ackDue.isSome = true ∧
    lkR.replay ≠ [] ∧ lkR.waiting = [] ∧ lkR.cursor = none ∧ seqBehind 3 3 < 32768 ∧
    lkR.replay.find? (fun e => decide (seqBehind e.1 3 < 32768)) = some (3, pk) ∧
    leads (exec (.benvasAckReceive 2 3) (stLk lkR)) (fun t => (t.link 2).replay.map (fun e => e.1) == [4] && (t.link 2).acked == 3) = true ∧
    leads (exec (.benvasNakReceive 2 3) (stLk lkR)) (fun t => (t.link 2).out.length == 0 && (t.link 2).cursor == some 4) = true ∧
    leads (exec (.ackTimer 2) (stLk lkR)) (fun t => (t.link 2).ackDue == none && (t.link 2).acksSent == [65535]) = true ∧
    leads (exec (.replayTimeout 2) { stLk lkR with now := 32000 }) (fun t => (t.link 2).cursor == some 3 && (t.link 2).out.length == 0) = true := by
  decide +kernel
/-- 18 R459: an ACK that comes while a replay goes on lets it go on with the first packet left. -/
theorem test_replay_ack : leads (exec (.benvasAckReceive 2 3) (stLk { lkR with cursor := some 3 })) (fun t => (t.link 2).cursor == some 4) = true ∧
    leads (exec (.replayTimeout 2) (stLk { lkR with cursor := some 4 })) (fun t => (t.link 2).out.map (fun e => e.1) == [4] && (t.link 2).cursor == none) =
      true := by decide +kernel
theorem test_lane : leads (exec (.laneFailure 2 9) (stLk { badLanes := 1 })) (fun t => !(t.link 2).up) = true ∧
    leads (exec (.laneFailure 2 9) (stLk {})) (fun t => (t.link 2).retraining && !(t.link 2).wide) = true := by decide +kernel
/-- A maintenance window is open on die 1. -/
def stLw : State := (stLk { lkR with wide := false }).updDie 1 (fun D => { D with maint := true })
theorem wit_Retrain : ({ lkR with retraining := true } : Link).retraining = true ∧ (stLw.link 2).up = true ∧ (∃ d ∈ allDies, (stLw.die d).maint = true) ∧
    (∀ d ∈ allDies, ((stLk {}).die d).maint = false) ∧ (stLk { lkR with up := false }).bootFail = false ∧
    leads (exec (.linkRetrainComplete 2 false) (stLk { lkR with retraining := true })) (fun t => !(t.link 2).retraining && (t.link 2).cursor == some 3) = true ∧
    leads (exec (.linkRetrainComplete 2 true) stLw) (fun t => (t.link 2).wide) = true ∧
    leads (exec (.fullWidthRetry 2 true) (stLk { lkR with up := false })) (fun t => (t.link 2).up) = true ∧
    leads (exec (.melperLaneLoss 17) State.reset) (fun t => t.melperHalf == (0, 1) && t.melperUp) = true ∧
    leads (exec (.ucieLinkRetrain 0 1 true) State.reset) (fun t => Tbl.look 0 (t.die 0).cec 10 == 1) = true ∧
    leads (exec (.ucieLinkRetrain 0 1 false) State.reset) (fun t => !(t.die 0).alive && t.ucieDown == [(0, 1)]) = true := by decide +kernel

/-! ### Errors, refresh, repair, power (17, 18) -/

def err (kind : Nat) (a : ErrorAt) : ErrorEvent := ⟨0, 2, 0, kind, 0x10100, 0, a, false⟩
theorem wit_Errors : (State.reset.die 0).alive = true ∧ (State.reset.die 0).ring.length < 256 ∧
    leads (exec (.machineCheck (err 0 .unitOnly)) State.reset) (fun t => Tbl.look 0 (t.die 0).cec 2 == 1 && (t.die 0).ring == []) = true ∧
    leads (exec (.machineCheck (err 1 .unitOnly)) State.reset) (fun t => (t.die 0).ring.length == 1 && (t.die 0).mcSeq == 1) = true ∧
    leads (exec (.machineCheck (err 1 (.task 0))) (stC id)) (fun t => (t.sk 0).halted == some 0 && (t.tk 0).c.pc == 0x10000) = true ∧
    leads (exec (.machineCheck (err 1 (.crockPage 0))) (stW hnd id)) (fun t => (t.handle? hv).map (fun h => h.pois) == some true) = true := by decide +kernel
theorem wit_McTimeout : ({ stMc true 0 with now := 160000000 }).mcEntry 0 5 = some (0, ringEnt true) ∧ (ringEnt true).halt = true ∧
    leads (exec (.mcAckTimeout 0 5) { stMc true 0 with now := 160000000 }) (fun t => (t.launch? 1).bind (fun L => L.ending.map (fun w => w.status)) == some 2) =
      true := by decide +kernel
theorem wit_Refresh : (State.reset.stack 0 1).hot = false ∧ (State.reset.stack 0 1).taken = false ∧ (State.reset.stack 0 1).back = false ∧
    leads (exec (.refreshRow 0 2 77) { State.reset with now := 5 }) (fun t => Tbl.find (t.stack 0 2).refreshed 77 == some 5) = true ∧
    leads (exec (.refreshRow 0 1 77) { State.reset with now := 5 }) (fun t => Tbl.find (t.stack 0 1).refreshed 77 == some 5) = true ∧
    leads (exec (.hbmOverTemperature 0 1) State.reset) (fun t => (t.stack 0 1).hot) = true ∧
    leads (exec (.hbmTemperatureRecovery 0 1) ({ State.reset with now := 1600000000 }.updDie 0 (fun D => { D with hbm := [(1, { hot := true })] }))) (fun t => !(t.stack 0 1).hot) = true ∧
    leads (exec (.spinelHeartbeat 0 1) { State.reset with now := 5 }) (fun t => (t.stack 0 1).beat == 5) = true ∧
    leads (exec (.refreshTakeover 0 1 true) State.reset) (fun t => (t.stack 0 1).taken && t.period 0 1 3 == 16) = true ∧
    leads (exec (.spinelResume 0 1) (State.reset.updDie 0 (fun D => { D with hbm := [(1, { taken := true })] }))) (fun t => !(t.stack 0 1).taken && t.period 0 1 9 == 16) = true := by
  decide +kernel
/-- The scrubber of stack 0 stands at its granule 5. -/
def stScr : State := State.reset.updDie 0 (fun D => { D with hbm := [(0, { scrubAt := 5 })] })
theorem wit_Scrub : homeOf (64 * 5) = some 0 ∧ scrubberOf 5 = 0 ∧ stScr.uniform (stScr.stack 0 0) = false ∧ (stScr.die 0).guardsOpen < 16 ∧
    5 = scrubGranule 0 0 (stScr.stack 0 0).scrubAt ∧
    leads (exec (.scrubRead 0 5 .good) stScr) (fun t => (t.stack 0 0).scrubAt == 6) = true ∧
    leads (exec (.scrubRead 0 5 .uncorrectable) stScr) (fun t => t.poison == [5]) = true ∧
    leads (exec (.scrubRead 0 5 .corrected) stScr) (fun t => (t.stack 0 0).guards == [⟨5, 0, true⟩]) = true ∧
    leads (exec (.scrubWriteBack 0 5) (State.reset.updDie 0 (fun D => { D with hbm := [(0, { guards := [⟨5, 0, true⟩] })] })))
      (fun t => (t.stack 0 0).guards == []) = true := by decide +kernel

def stMt (f : Die → Die) : State := State.reset.updDie 0 (fun D => f { D with maint := true })
theorem wit_Repair : (stMt id).window 0 = true ∧
    leads (exec (.plateRepair 0 3) (stMt (fun D => { D with pendRet := 8 }))) (fun t => (t.die 0).underTest == 8) = true ∧
    leads (exec (.plateRepair 0 3) (stMt (fun D => { D with pendRet := 8, underTest := 8 }))) (fun t => Tbl.look 0 (t.die 0).spareCols 3 == 1 &&
      (t.die 0).pendRet == 0) = true ∧
    leads (exec (.plateRepair 0 3) (stMt (fun D => { D with pendRet := 8, underTest := 8, spareCols := [(3, 2)] }))) (fun t => (t.die 0).retired == 8) = true ∧
    leads (exec (.skilletSpareMap 0 4) ((stMt id).updSk 4 (fun x => { x with fenced := true }))) (fun t => !(t.sk 4).fenced && (t.die 0).repair.coreOf 4 == 32) = true ∧
    leads (exec (.skilletSpareMap 0 4) ((stMt (fun D => { D with repair := { D.repair with sparesUsed := 2 } })).updSk 4 (fun x => { x with fenced := true })))
      (fun t => (t.sk 4).fenced && (t.die 0).repair.fenced == 16) = true ∧ (stMt id).dieUsed 0 = false ∧
    (stMt id).handles = [] ∧ ((stMt id).die 0).wrun = none ∧ ((stMt id).die 0).wq = [] ∧ 6 ∈ ((stMt (fun D => { D with bankBad := [6] })).die 0).bankBad ∧
    leads (exec (.crockBankRemap 0 6) (stMt (fun D => { D with bankBad := [6] })))
      (fun t => (t.die 0).repair.bankMap == [(6, 64)] && (t.die 0).bankBad == [] && (t.die 0).crockCap == 512) = true ∧
    leads (exec (.crockBankRemap 0 6) (stMt (fun D => { D with bankBad := [6], repair := { D.repair with banksBad := [64, 65] } })))
      (fun t => (t.die 0).repair.bankMap == [] && (t.die 0).crockCap == 256) = true ∧
    ((stMt id).sk 4).launch = none ∧ ((stMt id).sk 4).busy = false ∧ ((stMt id).sk 4).halted = none ∧
    5 ∈ ((stMt (fun D => { D with hbm := [(0, { candidates := [5] })] })).stack 0 0).candidates := by decide +kernel
theorem wit_Power : State.reset.pinned = false ∧ State.reset.throttled = none ∧
    leads (exec (.powerManagerStep true) State.reset) (fun t => t.griddleMHz == 1500) = true ∧
    leads (exec .thermalThrottle State.reset) (fun t => t.griddleMHz == 800 && t.throttled == some 1600) = true ∧
    leads (exec .thermalRecovery { State.reset with throttled := some 1300, griddleMHz := 800, now := 16000000 }) (fun t => t.griddleMHz == 1300) = true ∧
    leads (exec .thermalTrip (stM .C id)) (fun t => !t.powered && t.mem == [] && t.tripLog.length == 1) = true := by decide +kernel

/-! ### Management (18) -/

def cmd (dws : List DWord) : State :=
  { State.reset with mstat := 0x8000000000000000, mcb := dws.zipIdx.map (fun (x : DWord × Nat) => (x.2, x.1)) }
theorem wit_Management : (∃ f, mgmtRule .route = some (0x0B, f)) ∧ (cmd [0x0B, 7, 9]).cmdBusy = true ∧ fld ((cmd [0x0B, 7, 9]).mdw 0) 7 0 = 0x0B ∧
    (cmd [0x0B, 7, 9]).updating = none ∧ ((cmd [0x0B, 7, 9]).die 0).alive = true ∧ ((cmd [0x0B, 7, 9]).mdw 1).toNat < 4096 ∧
    ((cmd [0x0B, 7, 9]).mdw 2).toNat < 64 ∧ (Instr.route = .attest → (cmd [0x0B, 7, 9]).signReady = true) ∧
    ((cmd [0x0E, 0, 0x1000]).mdw 2).toNat % 8 = 0 ∧ (homeOf (((cmd [0x0E, 0, 0x1000]).mdw 2).toNat + 3363)).isSome = true ∧
    (cmd [0x0E, 0, 0x1000]).leafCtr < 2 ^ 20 ∧ (cmd [0x0E, 0, 0x1000]).signReady = true := ⟨⟨_, rfl⟩, by decide +kernel⟩
theorem test_route : leads (exec .route (cmd [0x0B, 7, 9])) (fun t => t.route 7 == 9 && t.mstat == 0) = true := by decide +kernel
theorem test_unmapq : leads (exec .unmapq (cmd [0x02, 64])) (fun t => t.mstat == 2) = true := by decide +kernel
theorem test_destroyq : leads (exec .destroyq { cmd [0x03, 4] with levels := [(4, recLevel)] }) (fun t => t.levels == [] && t.mstat == 0) = true := by
  decide +kernel
theorem test_ttreg : leads (exec .ttreg (cmd [0x05, 7, 0x40000])) (fun t => Tbl.look 0 t.ttbl 7 == 0x40000) = true := by decide +kernel
theorem test_window : leads (exec .window (cmd [0x06, 2, 1])) (fun t => (t.die 2).maint) = true := by decide +kernel
theorem test_inbound : leads (exec .inbound (cmd [0x0C, 7, 0x1000, 0x2000])) (fun t => Tbl.find t.inbound 7 == some (0x1000, 0x2000)) = true := by decide +kernel
theorem test_attest_spent : leads (exec .attest { cmd [0x0E, 0, 0x1000] with leafCtr := 2 ^ 20 }) (fun t => t.mstat == 5) = true := by decide +kernel
def upd0 : Updating := { comp := 0x30, old := { ver0 := 1 }, ver := 2, since := 0 }
theorem wit_Update : leads (exec (.componentStart 0x30) { cmd [0x0D] with updating := some upd0 }) (fun t => t.updating.isNone && t.mstat == 0 &&
      (t.comp 0x30).minVer == 2) = true ∧
    leads (exec (.updateStartTimeout 0x30) { cmd [0x0D] with updating := some upd0, now := 160000000 }) (fun t => t.updating.isNone && t.mstat == 3 &&
      (t.comp 0x30).ver0 == 1) = true := by decide +kernel

/-! ### Words, steps, memory -/

theorem wit_DecodeEncode : (Instr.add ⟨0, 1, 2, 3⟩).hasWord = true ∧ (Instr.add ⟨0, 1, 2, 3⟩).wellFormed = true := by decide
theorem wit_DecodedWords : (match decodeWords 0x026E9308 0 with
    | .ok i => decide (i = .add ⟨6, 58, 19, 2⟩)
    | _ => false) = true := by decide +kernel
/-- LI s3, 5 stands at 0x10000; CPY s15, s20 likewise. -/
def stF (w : Nat) : State := State.reset.withFetchWord 64 w
theorem wit_StepRuns : (stF 0x1900C005).agenda = [] ∧ (stF 0x1900C005).powered = true ∧ (stF 0x1900C005).fetches 0 .C ∧
    (match (stF 0x1900C005).fetchWord 0 0x10000 with
      | .ok (w, _) => w == 0x1900C005 && tagOf w == Engine.tag .C && !isLong w
      | _ => false) = true ∧
    (match (stF 0x0C0100003F03C050).fetchWord 0 0x10000, (stF 0x0C0100003F03C050).fetchWord 0 0x10004 with
      | .ok (w, _), .ok (w1, _) => isLong w && w1 == 0x0C010000
      | _, _ => false) = true ∧
    (stF 0x1900C005).plainPlace (loc 0x10000) 4 ∧ (stF 0x1900C005).clean (loc 0x10000).pa 4 := by decide +kernel
theorem test_agenda : (match step { stF 0x1900C005 with agenda := [(3, .engine 0 .C)] } with
    | .next t => t.now == 3 && (t.tk 0).getS 3 == 5
    | _ => false) = true := by decide +kernel
theorem test_unpowered : (match step { State.reset with powered := false } with
    | .fault .unpowered => true
    | _ => false) = true := by decide +kernel
theorem wit_MemoryKept : State.reset.memOk ∧ (stM .A id).memOk := by decide +kernel

end Sys2Proof.Tests
end

