-- ==== Sys2Proof/Tests/MoreWitnesses.lean ====
section
/-! SUPPORT. States that meet the hypotheses of further clauses: SHAVG and moves between chips, the divergence of a replay, a resume from a
record, and the loss and return of power. -/

namespace Sys2Proof.Tests

open Sys2Proof Sys2Proof.Machine

set_option Elab.async false

/-! ### Handles (14) -/

/-- A list of one operand, the target itself with weight 0, stands at 0x10200. -/
def stAvg : State := let s := stW hnd (sxy hv 0x10200)
  { s with mem := wrCells s.mem (cellsAt 0x10200 (leBytes 8 1 ++ leBytes 8 0x1000001)) }
theorem wit_Shavg : stAvg.mayCommand lw ∧ (stAvg.tk 0).getS 1 = hv ∧ (stAvg.tk 0).getS 2 = 0x10200 ∧
    (match stAvg.shCapture 0 .avg hv 0x10200 with
      | .ok (cap, t) => cap == [hv, 0] && decide (t = stAvg)
      | _ => false) = true ∧ (∀ e ∈ stAvg.handles, e.2.res = .resident ∧ e.2.made = true ∧ (stAvg.die e.2.die).alive = true) := by decide +kernel
theorem wit_Shavg_check : stAvg.shCheck 0 .avg hv 0x10200 [hv, 0] = .ok () := ok_of (by decide +kernel)
theorem test_shavg : leads (exec (.shavg lw) stAvg) (fun t => (t.handle? hv).map (fun h => h.ord.length) == some 1 && (t.tk 0).c.pc == 0x10008) = true := by
  decide +kernel

/-- An SHPIN waits at the C-engine until its handle can be reached, which it now can. -/
def stAccept : State := stW hnd (fun t => { t with cmd := some (.handle .pin hv 1 [] ⟨0, 0⟩) })
theorem wit_HandleAccept : (stAccept.tk 0).cmd = some (.handle .pin hv 1 [] ⟨0, 0⟩) ∧ (stAccept.sk 0).busy = true ∧ (stAccept.sk 0).halted = none ∧
    (stAccept.tk 0).c.st = .run ∧
    (match stAccept.shAccept 0 .pin hv 1 [] ⟨0, 0⟩ with
      | .ok t => (t.sk 0).busy
      | _ => false) = true ∧
    leads (exec (.handleCommandAccept 0) stAccept) (fun t => (t.handle? hv).map (fun h => h.ord) == some [.pin true (stAccept.issuerOf 0)] && (t.tk 0).c.pc == 0x10008) = true := by
  decide +kernel

/-- A target of one element by one, averaged with itself alone at weight one. -/
def hndA : Handle := { withOrd (.avg 7 [(hv, 0x3F800000)]) with dk := 1, dv := 1, image := imageOf (leBytes 4 0x40400000) }
theorem wit_AvgAction : (stW hndA id).atHead 0x1000001 hndA (.avg 7 [(hv, 0x3F800000)]) [] ∧
    ((stW hndA id).avgAction hndA 7 [(hv, 0x3F800000)]).isSome = true ∧
    leads (exec (.shavgAction 0x1000001) (stW hndA id)) (fun t => (t.handle? hv).map (fun y => (y.image, y.ord)) ==
      some (imageOf (leBytes 4 0x40400000), [])) = true := ⟨atHead_of _ _ _ rfl rfl (by simp), by decide +kernel⟩

/-- A handle of one element on its way to chip 2. -/
def hndX : Handle := { withOrd (.move 0x24 0x10400) with dk := 1, dv := 1 }
theorem wit_MoveAway : (stW hndX id).atHead 0x1000001 hndX (.move 0x24 0x10400) [] ∧ mvXchip 0x24 = true ∧
    ((stW hndX id).moveAway hndX 0x24 0x10400).isSome = true ∧
    leads (exec (.shmoveAction 0x1000001) (stW hndX id)) (fun t => (t.handle? hv).map (fun y => (y.res, y.awayChip)) == some (.moving, 2)) = true :=
  ⟨atHead_of _ _ _ rfl rfl (by simp), by decide +kernel⟩

theorem noMarks_nil (s : State) (h : s.handles = []) : s.noMarks := by
  intro e he
  rw [h] at he
  cases he

/-- Handle 3 of chip 1, one element by one. -/
def arrived : HandleImage := ⟨0x0010000003000001, 1, 1, 1, 1, 9, false, false, false, false, 0, 0x10400, [(0, 7)]⟩
def arrivedH : Handle :=
  { value := arrived.handle, asid := 1, nh := 1, dk := 1, dv := 1, snapshot := false, res := .parked, die := 0, nextSeq := 9, backing := 0x10400, made := true }
/-- Context 1 stands in the table; the packets of the move have come in. -/
def stArr : State :=
  let s := stC id
  { s with mem := wrCells s.mem (cellsAt 64 (leBytes 8 0x10000001)), moves := movePacketsOf 1 s.chipId.toNat arrivedH arrived.image 0 0x10400 }
theorem wit_MoveReceive : (stC id).noMarks ∧ (stC id).handle? arrived.handle = none ∧ hHome arrived.handle ≠ (stC id).chipId.toNat ∧
    hIndex arrived.handle ≠ 0 ∧ hGen arrived.handle ≠ 0 ∧
    ceilDiv (4 * arrived.nh * arrived.dv * arrived.dk) 262144 ≤ (stArr.crockFree (stArr.crockDie arrived.die)).length ∧
    stArr.moves = movePacketsOf 1 stArr.chipId.toNat arrivedH arrived.image 0 0x10400 ∧ (stArr.ctx 1).valid = true ∧
    leads (exec (.handleMoveReceive arrived) stArr) (fun t => (t.handle? arrived.handle).map (fun y => (y.nextSeq, y.image, y.made)) ==
      some (9, [(0, 7)], true)) = true := ⟨noMarks_nil _ (by decide +kernel), by decide +kernel⟩

/-! ### Replay (15) -/

/-- The log of die 0 names Skillet 1 the thief of Skillet 0's task 9, which is not the task at the bottom of that deque. -/
def stDiv : State := let s := { stT [fr 4] with levels := [(4, recLevel)] }
  { s with mem := wrCells s.mem (cellsAt (recLevel.entryAddr 0 0 0) (leBytes 8 (2 ^ 60 + 2 ^ 46) ++ leBytes 8 9)) }
theorem wit_ReplayDivergence : stDiv.logLevel 4 = some recLevel ∧ recLevel.mode = 2 ∧ (stDiv.logOf 0 4).done = false ∧
    (match stDiv.replayHead 3 0 4 recLevel with
      | (some (a, b), s1) => entryType a == 1 && s1.stealParts a b == some 1
      | _ => false) = true := by decide +kernel

/-! ### Return from a trap, power (12, 17) -/

theorem wit_EretResume : (stRec.sk 0).handler = some ⟨0x100000, 1, 2, 3, 4, none, false, false, 0⟩ ∧ (stRec.tk 0).a.st = .ended ∧ (stRec.tk 0).v.st = .ended ∧
    (stRec.tk 0).getS 1 = 0 ∧ (stRec.sk 0).info.pend = [] ∧ (stRec.sk 0).info.stepDone = false ∧ (stRec.sk 0).info.yielded = false ∧
    (stRec.sk 0).info.preempt = none ∧
    (match stRec.getRecord 0 1 0x100000 11 with
      | .ok (im, s1) => recOk im && decide ((s1.sk 0).info = (stRec.sk 0).info) && decide ((s1.sk 0).keep = (stRec.sk 0).keep)
      | _ => false) = true := by decide +kernel

theorem test_power_loss : leads (exec .powerLoss (stM .C id)) (fun t => !t.powered && t.mem == []) = true := by decide +kernel

/-- Component 0x30's slots hold versions below its minimum, so that neither starts. -/
theorem wit_BootFail : 0x30 ∈ components ∧ (({ minVer := 5 } : Firm).choose 0x30) = none :=
  ⟨by decide, by simp [Firm.choose, Firm.fits, Firm.ver]⟩

end Sys2Proof.Tests
end

