-- ==== Sys2Proof/Tests/ResultWitnesses.lean ====
section
/-! SUPPORT. States that meet the hypotheses of the statements about the bytes of memory, the results of jobs, the save records and the
management commands. -/

namespace Sys2Proof.Tests

open Sys2Proof Sys2Proof.Machine

set_option Elab.async false

/-! ### Bytes (08, 17) -/

/-- A place in the memory of die 1, with and without bytes of die 0's own; a page of host memory; a checked page. -/
def locFar : Loc := { loc (2 ^ 37 + 0x10100) with va := 0x10100 }
def locHost : Loc := { loc 0x10100 with host := true }
def locChk : Loc := { loc 0x10100 with chk := true }
def locApt : Loc := { loc (2 ^ 48 + 3 * 2 ^ 34) with va := 0x10100 }
theorem wit_MemoryBytes_far : let s := stM .A id
    locFar.pa % 64 + 8 ≤ 64 ∧ locFar.host = false ∧ locFar.chk = false ∧ locFar.homeOnly = false ∧ apertureOf locFar.pa = none ∧
      homeOf locFar.pa = some 1 ∧ (1 : Nat) ≠ dieOf s.cur ∧ (s.sk 0).info.snap = none ∧ s.clean locFar.pa 8 ∧ (s.die 0).dirty.length < 1024 := by
  decide +kernel
theorem wit_MemoryBytes_host : let s := stM .A id
    locHost.host = true ∧ locHost.chk = false ∧ s.melperUp = true ∧ (s.sk 0).info.snap = none ∧
      (∀ d ∈ allDies, Tbl.find (s.die d).hostLines (locHost.pa / 64) = none) := by decide +kernel
/-- The race records of context 1 stand in the page itself. -/
def stRace : State :=
  let s := stC id
  { s with mem := wrCells s.mem (cellsAt 80 (leBytes 8 0x10000)) }
theorem wit_MemoryBytes_checked : locChk.chk = true ∧ locChk.pa % 64 + 8 ≤ 64 ∧ (stRace.die 0).dirty = [] ∧
    (stRace.launch? (stRace.sk 0).info.launch).isSome = true ∧ (stRace.launch? 1).all (fun L => decide (L.tag < 2 ^ 32)) = true ∧
    (stRace.sk 0).info.sclk < 2 ^ 32 ∧ ¬ clashRule (recEntry stRace.mem 0x18080 1 0) 0 1 := by
  refine ⟨rfl, by decide, by decide +kernel, by decide +kernel, by decide +kernel, by decide +kernel, ?_⟩
  simp only [clashRule]
  decide +kernel
/-- Tensor handle 3 of ASID 1 on die 0: a view of 8 by 8 bytes, not tiled, at 0x2000 with rows 16 apart. -/
def stView : State := (stM .A id).updDie 0 (fun D => { D with tcache := [(4099, [2 ^ 63 + 3 * 2 ^ 48 + 3 * 2 ^ 44, 0x2000, 8 * 2 ^ 32 + 8, 16, 0, 0, 0, 0])] })
theorem wit_MemoryBytes_view : apertureOf locApt.pa = some (0, 3, 0) ∧ locApt.pa % 2 ^ 34 + 8 ≤ 2 ^ 34 ∧ (stView.die 0).dirty = [] ∧ stView.poison = [] ∧
    (tensorRule (fun i => ([2 ^ 63 + 3 * 2 ^ 48 + 3 * 2 ^ 44, 0x2000, 8 * 2 ^ 32 + 8, 16, 0, 0, 0, 0] : List Nat).getD i 0)).fits
      (fun i => ([2 ^ 63 + 3 * 2 ^ 48 + 3 * 2 ^ 44, 0x2000, 8 * 2 ^ 32 + 8, 16, 0, 0, 0, 0] : List Nat).getD i 0) 0 := by
  refine ⟨by decide, by decide, by decide +kernel, by decide +kernel, ?_⟩
  simp only [TensorRule.fits, tensorRule]
  decide +kernel
theorem wit_MemoryBytes_view_words : stView.tensorDws 0 (stView.asidOf 0) 3 =
    .ok [2 ^ 63 + 3 * 2 ^ 48 + 3 * 2 ^ 44, 0x2000, 8 * 2 ^ 32 + 8, 16, 0, 0, 0, 0] := ok_of (by decide +kernel)
theorem test_view : (match stView.store 0 locApt 8 0x0807060504030201 with
    | .ok t => rdNat t.mem 0x2000 8 == 0x0807060504030201
    | _ => false) = true := by decide +kernel
/-- A line of die 0 holds byte 5 of a line of die 1. -/
theorem test_eviction_far : leads (exec (.cacheEviction 0 (2 ^ 31 + 4)) ((stM .A id).updDie 0 (fun D => { D with dirty := [⟨2 ^ 31 + 4, [(5, 7)]⟩] })))
    (fun t => (t.die 0).dirty == [] && rdB t.mem (2 ^ 37 + 0x105) == 7) = true := by decide +kernel
def alHs : AL := { al false with scope := 3, ord := false }
theorem wit_Atomic_cached : let s := { stM .A id with hostCopies := [0x404] }
    (alHs.ord = false ∧ alHs.scope = 3 ∧ (loc 0x10100).pa / 64 ∈ s.hostCopies) ∧ leads (exec (.aadd alHs) s) (fun t => t.backInv == [0x404] && (t.tk 0).a.pc == 0x10000) = true := by decide +kernel

/-! ### Jobs (09, 10, 14) -/

/-- A page in a TLB is translated alike whatever memory holds. -/
theorem sees_of (s : State) (ag : Agent) (need : Need) (a n : Nat) (h : a + n ≤ 2 ^ 56)
    (hit : ∀ i, i < n → ag.tlbs.findSome? (fun t => tlbHit t ag.asid (a + i)) = some ⟨1, 0x10000, 16, 0x1001F, 3⟩ ∧ permits 0x1001F need = true ∧
      locOf 0x1001F 3 (a + i) = loc (a + i) ∧ apertureOf (a + i) = none ∧ (homeOf (a + i)).isSome = true) : s.seesAt ag need id a n := by
  refine ⟨h, fun va h1 h2 => ⟨⟨loc va, fun m => ?_, ?_⟩, fun _ h3 => ?_⟩⟩
  · have := hit (va - a) (by omega)
    rw [show a + (va - a) = va by omega] at this
    unfold State.xlate State.lookup
    simp only [this.1]
    rw [if_pos this.2.1, this.2.2.1]
  · have := hit (va - a) (by omega)
    rw [show a + (va - a) = va by omega] at this
    exact ⟨rfl, rfl, this.2.2.2.1, this.2.2.2.2, rfl⟩
  · simp only [id]
    omega
theorem mayRead_of (s : State) (ag : Agent) (a n : Nat) (hs : s.seesAt ag .rd id a n) (h : s.poison = []) : s.mayRead ag id a n :=
  ⟨hs, by simp [h]⟩

def cardOf (l : Tbl DWord) : List DWord := (List.range 17).map (fun i => Tbl.look 0 l i)
/-- A job of set 1 runs at the head of slab 5's queue; its operands stand at 0x10200. -/
def stJob (j : Job) (set : ASet) (bs : List Byte) : State :=
  let s := (stG { slab1 with queue := [2], sets := [(1, set)] } id).updDie 0 (fun D => { D with window := [(2, j)] })
  { s with mem := wrCells s.mem (cellsAt 0x10200 bs) }
/-- INT8 by INT8 into INT32, one by one element, K = 2, onto the old element. -/
def mulJob : Job := { zeroJob .gmma .running with
  card := cardOf [(9, 0x10200), (10, 8), (11, 0x10208), (12, 8), (13, 0x8000000200010001)], fmt := 0x6129 }
def stMul : State := stJob mulJob { st := .live, aty := 2, data := [(0, 100)] } [1, 0xFF, 0, 0, 0, 0, 0, 0, 10, 3]
/-- INT32 to INT8, one by three elements, the set kept. -/
def drnJob : Job := { zeroJob .gdrain .running with card := cardOf [(9, 0x10200), (10, 0x0010120000000010), (14, 0x0003000100000000)] }
def stDrn : State := stJob drnJob { st := .live, aty := 2, data := [(0, 100), (1, 0xFFFFFF00), (2, 300)] } []
theorem wit_JobResults_griddle : (stMul.headJob 0 5).map (fun x => (x.1, x.2.2)) = some (2, mulJob) ∧
    (stMul.headJob 0 5).all (fun x => !x.2.1.halt && x.2.1.rp == 0) = true ∧ mulJob.st = .running ∧ stMul.classClear mulJob = true ∧
    (sigSem mulJob.card mulJob.srcDie).isNone = true ∧ fld mulJob.fmt 14 10 = 0x18 ∧ fld mulJob.fmt 9 5 = 9 ∧ fld mulJob.fmt 63 15 = 0 ∧
    stMul.memOk ∧ stMul.recOf = [] ∧ (∀ d ∈ allDies, (stMul.die d).dirty = []) ∧
    (stDrn.headJob 0 5).map (fun x => (x.1, x.2.2)) = some (2, drnJob) ∧ stDrn.classClear drnJob = true ∧ (drnJob.card.getD 10 0).getLsbD 40 = false ∧
    fld (drnJob.card.getD 10 0) 45 41 = 9 ∧ (drnJob.card.getD 10 0).getLsbD 50 = false := by decide +kernel
theorem wit_JobResults_sees : stMul.mayRead (stMul.jobAgent 0 2 mulJob) id 0x10200 2 ∧ stMul.mayRead (stMul.jobAgent 0 2 mulJob) id 0x10208 2 ∧
    stDrn.mayWrite (stDrn.jobAgent 0 2 drnJob) id 0x10200 3 :=
  ⟨mayRead_of _ _ _ _ (sees_of _ _ _ _ _ (by decide) (by decide +kernel)) rfl,
    mayRead_of _ _ _ _ (sees_of _ _ _ _ _ (by decide) (by decide +kernel)) rfl, sees_of _ _ _ _ _ (by decide) (by decide +kernel)⟩
/-- 100 + 1·10 - 1·3. -/
theorem test_gmma_int : leads (exec (.griddleJobComplete 0 5) stMul)
    (fun t => (Tbl.find (t.die 0).slabs 5).map (fun b => (b.aset 1).el 0 0) == some 107) = true := by decide +kernel
theorem test_gdrain_clamps : leads (exec (.griddleJobComplete 0 5) stDrn)
    (fun t => rdNat t.mem 0x10200 4 == 0x7F8064 && (Tbl.find (t.die 0).slabs 5).map (fun b => (b.aset 1).st) == some .clean) = true := by decide +kernel

/-- Two INT16 elements at 0x10200, copied in reverse order. -/
def revJob : Job := { cpJob .running [] with
  card := cardOf [(9, 0x10200), (10, 0x10284), (13, 0x10300), (14, 0x10340)]
  rec1 := [0x3A, 2, 0, 2, 0, 0, 0, 0], rec2 := [0x3A, 2, 0, 0xFFFFFFFFFC, 0, 0, 0, 0] }
def stRev : State :=
  let s := (stC id).updDie 0 (fun D => { D with window := [(1, revJob)] })
  { s with mem := wrCells s.mem (cellsAt 0x10200 [1, 2, 3, 4]) }
theorem wit_JobResults_copy : stRev.runningCopy 0 1 = some revJob ∧ revJob.far = false ∧ 0 < revJob.nChunks ∧ stRev.classClear revJob = true ∧
    revJob.card.getD 13 0 ≠ 0 ∧ revJob.card.getD 12 0 = 0 ∧ (cpJob .running []).card.getD 13 0 = 0 := by decide +kernel
theorem test_shaped_copy : leads (exec (.colanderChunkLand 0 1 0) stRev)
    (fun t => rdNat t.mem 0x10280 6 == 0x020100000403) = true := by decide +kernel

/-- Handle 1 as one head of one by one element, 3; α = 2, one token with k = 1, v = 5, β = 1, q = 1. -/
def hndS : Handle := { hndJ with dk := 1, dv := 1, image := imageOf (leBytes 4 0x40400000) }
def stepJob (kind : JobKind) (oen : Bool) : Job := { wkJob .running with
  kind := kind, card := cardOf [(10, if oen then 0x4000100000000 else 0x100000000), (11, 0x40000000)], rec1 := [0x10200, 0x10204, 0x10208, 0x1020C, 0x10200, 0, 0, 0] }
def stStep (kind : JobKind) (oen : Bool) : State :=
  let s := (stW hndS id).updDie 0 (fun D => { D with window := [(2, stepJob kind oen)], wq := [2], wrun := some 2 })
  { s with mem := wrCells s.mem (cellsAt 0x10200 (leBytes 4 0x3F800000 ++ leBytes 4 0x3F800000 ++ leBytes 4 0x40A00000)) }
theorem wit_JobResults_whisk : (stStep (.fwstep 2) true).whiskJob 0 = some ⟨0, 2, stepJob (.fwstep 2) true, hndS⟩ ∧
    (stStep (.fwstep 2) true).classClear (stepJob (.fwstep 2) true) = true ∧ hndS.pois = false ∧
    hndS.npg ≤ ((stStep (.fwstep 2) true).crockFree hndS.die).length ∧ (sigSem (stepJob (.fwstep 2) true).card 0).isNone = true :=
  ⟨by rfl, by decide +kernel⟩
theorem wit_JobResults_whisk_sees : let s := stStep (.fwstep 2) true
    let ag := s.whiskAgent ⟨0, 2, stepJob (.fwstep 2) true, hndS⟩
    s.mayRead ag id 0x10200 4 ∧ s.mayRead ag id 0x10204 4 ∧ s.mayRead ag id 0x10208 4 ∧ s.mayWrite ag id 0x1020C 4 :=
  ⟨mayRead_of _ _ _ _ (sees_of _ _ _ _ _ (by decide) (by decide +kernel)) rfl, mayRead_of _ _ _ _ (sees_of _ _ _ _ _ (by decide) (by decide +kernel)) rfl,
    mayRead_of _ _ _ _ (sees_of _ _ _ _ _ (by decide) (by decide +kernel)) rfl, sees_of _ _ _ _ _ (by decide) (by decide +kernel)⟩
/-- F = 6, u = 5 - 6 = -1, S' = 6 - 1 = 5, o = 5. -/
theorem test_fwstep_result : leads (exec (.whiskCommit 0) (stStep (.fwstep 2) true))
    (fun t => (t.handle? hv).map (fun h => headElem h.image 1 1 0 0 0) == some 0x40A00000 && rdNat t.mem 0x1020C 4 == 0x40A00000) = true := by
  decide +kernel

/-! ### Save records (12) -/

def recPlace (base : Nat) (j : Nat) : Loc := ⟨base + 65536 * j, base + 65536 * j, false, false, false, 0x1F, 1⟩
theorem recordPages_of (s : State) (base : Nat) (need : Need) (hm : s.memOk) (hd : (s.die 0).dirty = []) (hr : s.recOf = [])
    (h : ∀ j, j < 43 → (match s.xlate (s.dTlbs 0) 1 (base + 65536 * j) need with
      | .ok l => l == recPlace base j
      | _ => false) = true ∧ apertureOf (base + 65536 * j) = none ∧ (homeOf (base + 65536 * j)).isSome = true ∧ (base + 65536 * j) % 65536 = 0) :
    s.recordPages 0 1 base need (recPlace base) := by
  refine ⟨hm, hd, hr, fun j hj => ⟨ok_of ?_, rfl, (h j hj).2.1, (h j hj).2.2.1, (h j hj).2.2.2, fun i hi => ?_⟩⟩
  · have := (h j hj).1
    revert this
    cases s.xlate (s.dTlbs 0) 1 (base + 65536 * j) need <;> simp
  · simp only [recPlace]
    omega
theorem wit_SaveRecords_trap : stTrap.recordPages 0 1 (stTrap.trapRec 0) .wr (recPlace (stTrap.trapRec 0)) ∧ (stTrap.tk 0).vret = none :=
  ⟨recordPages_of _ _ _ (by decide +kernel) (by decide +kernel) rfl (by decide +kernel), rfl⟩
def stChk1 : State := stCtx stopAll (fun i => { i with stop := some .checkpoint })
theorem wit_SaveRecords_checkpoint : stChk1.recordPages 0 1 ((stChk1.ctx 1).saveBase + 0x2B0000 * 0) .wr (recPlace ((stChk1.ctx 1).saveBase)) ∧
    (∀ e ∈ (stChk1.die 0).slabs, e.1 < 64) ∧ (stChk1.sk 0).info.snap = none ∧ (stChk1.tk 0).pfs = [] ∧ (stChk1.tk 0).vret = none :=
  ⟨recordPages_of _ _ _ (by decide +kernel) (by decide +kernel) rfl (by decide +kernel), by decide +kernel, rfl, rfl, rfl⟩
theorem wit_SaveRecords_bounded : (stChk1.sk 0).bounded [] := by
  refine ⟨?_, by decide +kernel, by decide +kernel, by decide +kernel, by decide +kernel, by decide +kernel, by decide +kernel, ?_, by decide +kernel,
    by decide +kernel, by decide +kernel, by decide +kernel, by decide +kernel, by decide +kernel, by decide +kernel, by decide +kernel, ?_,
    by decide +kernel, by decide +kernel⟩
  · simp only [Tbl.within]
    decide +kernel
  · intro e
    cases e <;> decide +kernel
  · intro a h
    rw [show (stChk1.sk 0).info.arr = none by rfl] at h
    cases h
theorem wit_SaveRecords_trap_bounded : (stTrap.sk 0).bounded (stTrap.sk 0).info.saved := by
  refine ⟨?_, by decide +kernel, by decide +kernel, by decide +kernel, by decide +kernel, by decide +kernel, by decide +kernel, ?_, by decide +kernel,
    by decide +kernel, by decide +kernel, by decide +kernel, by decide +kernel, by decide +kernel, by decide +kernel, by decide +kernel, ?_,
    by decide +kernel, by decide +kernel⟩
  · simp only [Tbl.within]
    decide +kernel
  · intro e
    cases e <;> decide +kernel
  · intro a h
    rw [show (stTrap.sk 0).info.arr = none by rfl] at h
    cases h
/-- The record of a checkpoint: VERSION and KIND, PC of the C-engine, SLIPW. -/
theorem test_record : leads (exec (.checkpoint 0) stChk1) (fun t =>
    rdNat t.mem 0x2000000 8 == (stChk1.recordDw 0 1 false { eng := 3 } [] 0).toNat && !(t.sk 0).busy) = true := by decide +kernel

/-- A task that JOIN suspends; its counter, at 0x10100, stands at 3. -/
def stJn : State :=
  let s := stCtx (fun t => { stopAll t with cmd := some (.spin 0 0x10100) }) (fun i => { i with stop := some .join })
  { s with mem := wrCells s.mem (cellsAt 0x10100 (leBytes 8 3)) }
def locJ : Loc := ⟨0x10100, 0x10100, false, false, false, 0x1F, 1⟩
theorem wit_SaveRecords_join : (stJn.sk 0).info.stop = some .join ∧ stJn.levelOf 0 < 2 ∧ (stJn.tk 0).cmd = some (.spin 0 0x10100) ∧
    stJn.plainPlace locJ 8 ∧ stJn.clean locJ.pa 8 ∧ jcCount (rdNat stJn.mem 0x10100 8) ≠ 0 ∧ jcWaiter (rdNat stJn.mem 0x10100 8) = 0 ∧
    (match stJn.jcAtomic 0 locJ (fun x => jcMake 1 (jcWsc x) (jcCount x)) with
      | .ok (_, s1) => (s1.ctx 1).saveBase == 0x2000000
      | _ => false) = true ∧
    leads (exec (.checkpoint 0) stJn) (fun t => jcWaiter (rdNat t.mem 0x10100 8) == 1 && jcCount (rdNat t.mem 0x10100 8) == 3 && !(t.sk 0).busy &&
      (t.die 0).resume == [] && t.saved.length == 1) = true := by decide +kernel
theorem wit_SaveRecords_join_loc : stJn.jctrLoc 0 0x10100 = .ok locJ := ok_of (by decide +kernel)

/-! ### Management (18) -/

theorem wit_Mapq : let s := { cmd [1, 0x8000, 0x200] with mem := wrCells [] (cellsAt 0x8000 (leBytes 8 0x10004) ++ cellsAt 0x8018 (leBytes 8 0x300010009)) }
    (s.mdw 1).toNat % 64 = 0 ∧ (homeOf 0x8000).isSome = true ∧ (homeOf (0x8000 + 63)).isSome = true ∧ s.clean 0x8000 64 ∧ fld (s.mdw 2) 63 14 = 0 ∧ fld (s.mdw 2) 7 2 = 0 ∧
    (∀ d ∈ allDies, (s.die d).qslots = []) ∧
    leads (exec .mapq s) (fun t => t.mstat == 0 && (Tbl.find (t.die 0).qslots 2).map (fun q => (q.qid, q.asid, q.base, q.lg, q.prio)) ==
      some (9, 1, 0x10000, 4, 3) && rdNat t.mem 0x8020 8 == 0x202) = true := by decide +kernel
theorem wit_Unmapq : let s := (cmd [2, 0x8000]).updDie 0 (fun D => { D with qslots := [(2, { qs with head := 6 })] })
    Tbl.find (s.die 0).qslots 2 = some { qs with head := 6 } ∧ (homeOf (0x8000 + 63)).isSome = true ∧
    leads (exec .unmapq s) (fun t => t.mstat == 0 && (t.die 0).qslots == [] && rdNat t.mem 0x8008 8 == 6) = true := by decide +kernel
theorem wit_Freeh : let s := { cmd [4, hv, 1] with handles := [(0x1000001, hnd)], handleGen := [(1, 1)] }
    s.handle? hv = some hnd ∧ hnd.asid = (s.mdw 2).toNat ∧ (s.ctx 1).valid = false ∧ hnd.value = hv ∧ hnd.ord = [] ∧ hHome hv = s.chipId.toNat ∧
    leads (exec .freeh s) (fun t => t.mstat == 0 && (t.handle? hv).isNone && Tbl.look 1 t.handleGen 1 == 2) = true := by decide +kernel
theorem wit_Mcackh : let s := (cmd [8, 5]).updDie 0 (fun D => { D with ring := [(0, { ringEnt false with asid := 0 })] })
    Tbl.find (s.die 0).ring 0 = some { ringEnt false with asid := 0 } ∧ fld (ringEnt false).dw0 63 32 = 5 ∧ (ringEnt false).dw0.getLsbD 31 = false ∧
    (ringEnt false).dw0.getLsbD 30 = false ∧
    leads (exec .mcackh s) (fun t => t.mstat == 0 && (Tbl.find (t.die 0).ring 0).map McEnt.acked == some true) = true := by decide +kernel
/-- Launch 1, whose completion record stands at 0x9000, runs nothing. -/
def stEndl : State :=
  let s := onL (cmd [9, 0x9000, 7]) id
  { s with launches := (stC id).launches.map (fun e => (e.1, { e.2 with compl := 0x9000 })) }
theorem wit_Endl : (stEndl.launch? 1).any (fun L => L.compl == 0x9000 && L.ending.isNone) = true ∧ (∀ k ∈ allSks, (stEndl.sk k).busy = false ∧ (stEndl.sk k).reserved = false) ∧
    (∀ d ∈ allDies, (stEndl.die d).window = []) ∧
    leads (exec .endl stEndl) (fun t => t.mstat == 0 && (t.launch? 1).bind (fun L => L.ending) == some ⟨2, 7, 0, 0, 0⟩) = true := by decide +kernel
def stStream : State := { cmd [10, 3, 0x8000] with
  mem := wrCells [] (cellsAt 0x8000 (leBytes 8 0x8C00000000040000 ++ leBytes 8 0x50000 ++ leBytes 8 0x50008 ++ leBytes 8 1) ++ cellsAt 0x50000 (leBytes 8 0xF80)) }
theorem wit_Stream : streamRule (fun i => rdDW stStream.mem (0x8000 + 8 * i)) ∧ (homeOf 0x50000).isSome = true ∧ stStream.poison = [] ∧
    leads (exec .stream stStream) (fun t => t.mstat == 0 && (t.stream 0 3).tail == 0xF80 && (t.stream 0 3).on) = true := by
  refine ⟨?_, by decide +kernel⟩
  simp only [streamRule]
  decide +kernel
theorem wit_Rdrep : (cmd [7, 0, 0x8000]).mayManage ∧ ((cmd [7, 0, 0x8000]).mdw 2).toNat % 8 = 0 ∧ (homeOf 0x8000).isSome = true := by decide +kernel

/-! ### Handles of other chips (14) -/

/-- A handle of chip 1 is freed; link 0 leads there. -/
def hndF : Handle := { withOrd .free with value := 0x10000001000001 }
def stFf : State := { stW hndF id with handles := [(0x10000001000001, hndF)], routes := [(1, 1)] }
theorem wit_FreeAway : Tbl.find stFf.handles 0x10000001000001 = some hndF ∧ hndF.value.toNat = 0x10000001000001 ∧ hHome hndF.value = 1 ∧ stFf.chipId.toNat ≠ 1 ∧ stFf.route 1 ≠ 0 ∧
    leads (exec (.shfreeAction 0x10000001000001) stFf) (fun t => t.handles == [] && (t.link 0).replay.map (fun e => (e.2.kind, e.2.data)) ==
      [(.handleMove, leBytes 8 0x10000001000001)]) = true := by decide +kernel

/-! ### Slabs, elements, results (05, 06, 09) -/

theorem wit_Galloc : let s := stG slab1 (sxy 0 0)
    placeOk ((s.tk 0).getS 1) ∧ (s.launch? 1).any (fun L => decide (¬ fld (L.pkt.getD 0 0) 44 36 < (s.die 0).heldBy 1 + 1)) = true ∧
    Tbl.find (s.die 0).slabs 0 = none ∧ (s.die 0).heldBy 1 = 1 := by
  refine ⟨?_, by decide +kernel⟩
  simp only [placeOk, placeReq]
  decide +kernel
theorem test_galloc_quota : gives3 (exec (.galloc lw) (onL (stG slab1 (sxy 0 0)) (fun L => { L with pkt := [0x1000000000, 0, 0, 0, 0x4000010000] }))) 0x8000000000000003 =
    true := by decide +kernel
theorem wit_VectorLoads_elements : ∃ a o, vectorLoadRule (.vldxS ⟨0, 0, 1, 1, 0⟩) = some a ∧ a.offsets ((stV id).tk 0) = some o ∧ a.spec = true ∧
    a.on o 0 = true ∧ a.on o 1 = true ∧ (a.addr ((stV id).tk 0) o 1 1).toNat = 0x10101 ∧ ((stV id).tk 0).getAP 30 = false := ⟨_, _, rfl, rfl, rfl, by decide +kernel⟩
/-- Element 1 of a speculative load has no page: it is zero and poisoned, and PADDR is its address. -/
theorem test_vldxS : leads (exec (.vldxS ⟨0, 0, 1, 1, 0⟩) (stM .A (fun t =>
      { t.setA 30 2 false with sq1 := [⟨0x7000000000000000, 3, 0, 0, true⟩] })))
    (fun t => (t.tk 0).lq0.map (fun e => (e.data, e.poison, e.paddr)) == [(0x81, 1, 0x70010100)]) = true := by decide +kernel
/-- Lanes of 2 by 1 elements of FP32: 3 / 2, and the square root of 2.25. -/
def vlw : VL := ⟨0, 3, 1, 2, 0, 0, false, 0, 0, 0, false, 0⟩
def stVf : State := st .V (fun t => ({ t with vl := 1 }.setV 1 0x40400000 0).setV 2 0x40000000 0)
theorem wit_FloatResults : (∃ r n p, floatRule (.vdiv vlw) = some (r, n, p) ∧ r.f = vlw) ∧ vlw.ty = 0 ∧ vlw.rm = 0 ∧ vlw.qsel = 0 ∧ stVf.mayIssue .V 0 none none ∧
    stVf.straight .V ∧ (stVf.tk 0).vl ≤ 2048 ∧ (stVf.tk 0).fpctl = 0 ∧ f32Finite ((stVf.tk 0).lane 1 0) := ⟨⟨_, _, _, rfl, rfl⟩, by decide +kernel⟩
theorem test_vdiv : leads (exec (.vdiv vlw) stVf) (fun t => (t.tk 0).lane 3 0 == 0x3FC00000) = true := by decide +kernel
theorem wit_LaneResults_moves : (∃ r g, moveRule (.vperm vlw) = some (r, g) ∧ r.f.qsel = 0 ∧ r.ok (stVf.tk 0) [] = true) ∧
    (∃ r op, shiftRule (.vshlLong vlw) = some (r, op)) ∧ (stVf.tk 0).getKP 2 = false ∧ satType 9 = some (8, true) ∧
    (∃ f op, satRule (.vadds f) = some (f, op) ∧ f.ty = 9) ∧ (stVf.tk 0).qn < 8 ∧ (stVf.tk 0).wp < 8 ∧ ¬ f32NaN ((stVf.tk 0).lane 1 0) :=
  ⟨⟨_, _, rfl, rfl, rfl⟩, ⟨_, _, rfl⟩, by decide +kernel, rfl, ⟨{ vlw with ty := 9 }, _, rfl, rfl⟩, by decide +kernel⟩
theorem test_vadds : leads (exec (.vadds { vlw with ty := 9 }) (st .V (fun t => ({ t with vl := 1 }.setV 1 0x7F7F80 0).setV 2 0x01FF80 0)))
    (fun t => (t.tk 0).lane 3 0 == 0x7F7E80) = true := by decide +kernel

/-! ### Steps (01, 03) -/

theorem wit_StepRuns_vret : let s := (stF 0x1900C005).onTk 0 (fun t => { t with vret := some ⟨1, 5⟩ })
    let s := { s with curEng := .V }
    s.agenda = [] ∧ s.powered = true ∧ (s.tk s.cur).vret = some ⟨1, 5⟩ := by decide +kernel
theorem wit_StepRuns_illegal : (stF 0).agenda = [] ∧ (stF 0).powered = true ∧ (stF 0).fetches 0 .C ∧ ((stF 0).sk 0).handler = none ∧
    (match decodeWords 0 0 with
      | .error _ => true
      | _ => false) = true ∧ tagOf 0 = Engine.tag .C ∧ isLong 0 = false ∧
    (match step (stF 0) with
      | .next t => match (t.tk 0).c.st with
        | .faulted r => r.code == Code.illegalOp && r.addr == 0x10000
        | _ => false
      | _ => false) = true := by decide +kernel

end Sys2Proof.Tests
end

