-- ==== Sys2Proof/Tests/WellFormed.lean ====
section
/-! SUPPORT. Ill-formed terms, one field of a well-formed word changed, which the checks of 01 R15 and 02 R45 to R52 refuse. -/

namespace Sys2Proof.Tests

open Sys2Proof

set_option Elab.async false

theorem test_refused_0 : ([
    .nop ⟨6, 1, 0⟩,
    .nop ⟨6, 0, 1⟩,
    .clz ⟨12, 27, 4, 1⟩,
    .ctz ⟨15, 34, 42, 1⟩,
    .popc ⟨14, 5, 9, 1⟩,
    .shli ⟨1, 21, 25, 64⟩,
    .shri ⟨14, 5, 15, 64⟩,
    .srai ⟨11, 2, 24, 64⟩,
    .sendCa ⟨4, 1, 6, 0⟩,
    .sendCa ⟨4, 0, 6, 1⟩,
    .sendCv ⟨14, 1, 25, 0⟩,
    .sendCv ⟨14, 0, 25, 1⟩,
    .recvAc ⟨6, 6, 1, 0⟩,
    .recvAc ⟨6, 6, 0, 1⟩,
    .recvVc ⟨7, 59, 1, 0⟩,
    .recvVc ⟨7, 59, 0, 1⟩,
    .callr ⟨52, 1, 0⟩,
    .callr ⟨52, 0, 1⟩,
    .ret ⟨1, 0, 0⟩,
    .ret ⟨0, 1, 0⟩,
    .ret ⟨0, 0, 1⟩,
    .loop ⟨13, 0⟩,
    .loopr ⟨64, 1011⟩,
    .loopr ⟨6, 0⟩,
    .loopm ⟨16, 13⟩,
    .loopm ⟨9, 0⟩,
    .ldIndexed ⟨3, 13, 7, 26, 7⟩,
    .ldIndexedS ⟨14, 6, 26, 28, 7⟩,
    .stIndexed ⟨11, 18, 3, 11, 4⟩,
    .vld ⟨8, 2, 23, 10⟩,
    .vldS ⟨11, 2, 3, 124⟩,
    .vst ⟨13, 2, 5, 100⟩,
    .vlds ⟨1, 1, 29, 6, 1⟩,
    .vlds ⟨1, 2, 29, 6, 0⟩,
    .vldsS ⟨14, 1, 8, 6, 1⟩,
    .vldsS ⟨14, 2, 8, 6, 0⟩,
    .vldx ⟨10, 1, 19, 0, 1⟩,
    .vldx ⟨10, 2, 19, 0, 0⟩,
    .vldx ⟨10, 1, 19, 2, 0⟩,
    .vldxS ⟨9, 0, 12, 0, 1⟩] : List Instr).all (fun i => !i.wellFormed) = true := by decide +kernel

theorem test_refused_1 : ([
    .vldxS ⟨9, 2, 12, 0, 0⟩,
    .vldxS ⟨9, 0, 12, 2, 0⟩,
    .vsts ⟨4, 0, 6, 13, 1⟩,
    .vsts ⟨4, 2, 6, 13, 0⟩,
    .vstx ⟨0, 1, 29, 0, 1⟩,
    .vstx ⟨0, 2, 29, 0, 0⟩,
    .vstx ⟨0, 1, 29, 2, 0⟩,
    .mova ⟨2, 23, 25, 1⟩,
    .sendAAc ⟨2, 1, 10, 0⟩,
    .sendAAc ⟨2, 0, 10, 1⟩,
    .sendAAv ⟨7, 1, 10, 0⟩,
    .sendAAv ⟨7, 0, 10, 1⟩,
    .recvACa ⟨9, 31, 1, 0⟩,
    .recvACa ⟨9, 31, 0, 1⟩,
    .recvAVa ⟨12, 15, 1, 0⟩,
    .recvAVa ⟨12, 15, 0, 1⟩,
    .shla ⟨10, 14, 2, 64⟩,
    .spld ⟨4, false, 10, 0, 0, 0, 1, false, 0, 8⟩,
    .spld ⟨4, false, 10, 0, 1, 0, 0, false, 0, 8⟩,
    .spld ⟨4, false, 10, 0, 0, 1, 0, false, 0, 8⟩,
    .spld ⟨4, false, 10, 0, 0, 0, 0, false, 1, 8⟩,
    .spld ⟨4, true, 10, 0, 0, 0, 0, false, 0, 8⟩,
    .spld ⟨4, false, 10, 0, 0, 0, 0, true, 0, 8⟩,
    .spldVector ⟨0, false, 0, 31, 0, 0, 1, false, 2, 0⟩,
    .spldVector ⟨0, false, 1, 31, 0, 0, 0, false, 2, 0⟩,
    .spldVector ⟨0, false, 0, 31, 1, 0, 0, false, 2, 0⟩,
    .spldVector ⟨0, false, 0, 31, 0, 1, 0, false, 2, 0⟩,
    .spldVector ⟨0, true, 0, 31, 0, 0, 0, false, 2, 0⟩,
    .spldVector ⟨0, false, 0, 31, 0, 0, 0, true, 2, 0⟩,
    .spst ⟨8, false, 0, 1, 9, 0, 1, false, 0, 8⟩,
    .spst ⟨8, false, 1, 1, 9, 0, 0, false, 0, 8⟩,
    .spst ⟨8, false, 0, 1, 9, 1, 0, false, 0, 8⟩,
    .spst ⟨8, false, 0, 1, 9, 0, 0, false, 1, 8⟩,
    .spst ⟨8, true, 0, 1, 9, 0, 0, false, 0, 8⟩,
    .spst ⟨8, false, 0, 1, 9, 0, 0, true, 0, 8⟩,
    .spstVector ⟨14, false, 0, 0, 0, 0, 1, false, 4, 0⟩,
    .spstVector ⟨14, false, 1, 0, 0, 0, 0, false, 4, 0⟩,
    .spstVector ⟨14, false, 0, 0, 1, 0, 0, false, 4, 0⟩,
    .spstVector ⟨14, false, 0, 0, 0, 1, 0, false, 4, 0⟩,
    .spstVector ⟨14, true, 0, 0, 0, 0, 0, false, 4, 0⟩] : List Instr).all (fun i => !i.wellFormed) = true := by decide +kernel

theorem test_refused_2 : ([
    .spstVector ⟨14, false, 0, 0, 0, 0, 0, true, 4, 0⟩,
    .lda ⟨11, true, 15, 1, 1, 0, 1, false, 0, 10415⟩,
    .lda ⟨11, true, 15, 1, 0, 1, 1, false, 0, 10415⟩,
    .lda ⟨11, true, 15, 1, 0, 0, 1, false, 1, 10415⟩,
    .stl ⟨6, true, 1, 23, 17, 0, 1, false, 0, 21524⟩,
    .stl ⟨6, true, 0, 23, 17, 1, 1, false, 0, 21524⟩,
    .stl ⟨6, true, 0, 23, 17, 0, 1, false, 1, 21524⟩,
    .fence ⟨0, false, 1, 0, 0, 0, 0, false, 0, 0⟩,
    .fence ⟨0, false, 0, 1, 0, 0, 0, false, 0, 0⟩,
    .fence ⟨0, false, 0, 0, 1, 0, 0, false, 0, 0⟩,
    .fence ⟨0, false, 0, 0, 0, 1, 0, false, 0, 0⟩,
    .fence ⟨0, false, 0, 0, 0, 0, 0, false, 1, 0⟩,
    .fence ⟨0, false, 0, 0, 0, 0, 0, false, 0, 1⟩,
    .fence ⟨0, true, 0, 0, 0, 0, 0, false, 0, 0⟩,
    .aadd ⟨14, true, 8, 1, 2, 1, 2, true, 0, 3⟩,
    .aadd ⟨14, true, 8, 1, 2, 0, 2, true, 1, 3⟩,
    .aand ⟨7, true, 11, 10, 0, 1, 1, true, 0, 14445⟩,
    .aand ⟨7, true, 11, 10, 0, 0, 1, true, 1, 14445⟩,
    .aor ⟨4, true, 29, 15, 13, 1, 1, false, 0, 5⟩,
    .aor ⟨4, true, 29, 15, 13, 0, 1, false, 1, 5⟩,
    .axor ⟨13, false, 30, 8, 1, 1, 2, true, 0, 826⟩,
    .axor ⟨13, false, 30, 8, 1, 0, 2, true, 1, 826⟩,
    .aswap ⟨2, false, 29, 28, 9, 1, 1, true, 0, 15⟩,
    .aswap ⟨2, false, 29, 28, 9, 0, 1, true, 1, 15⟩,
    .acas ⟨9, true, 12, 23, 2, 9, 2, true, 1, 44555⟩,
    .amin ⟨2, true, 13, 15, 3, 1, 2, true, 0, 1⟩,
    .amin ⟨2, true, 13, 15, 3, 0, 2, true, 1, 1⟩,
    .amax ⟨1, true, 23, 8, 16, 1, 3, false, 0, 27102⟩,
    .amax ⟨1, true, 23, 8, 16, 0, 3, false, 1, 27102⟩,
    .aminn ⟨10, true, 6, 11, 8, 1, 3, false, 0, 11⟩,
    .aminn ⟨10, true, 6, 11, 8, 0, 3, false, 1, 11⟩,
    .amaxn ⟨14, true, 1, 15, 3, 1, 1, true, 0, 37996⟩,
    .amaxn ⟨14, true, 1, 15, 3, 0, 1, true, 1, 37996⟩,
    .waita ⟨12, false, 20, 7, 13, 11, 1, true, 1, 11⟩,
    .waita ⟨12, true, 20, 7, 13, 11, 1, true, 0, 11⟩,
    .pfb ⟨3, false, 0, 3, 2, 6, 1, false, 0, 2716⟩,
    .pfb ⟨3, false, 1, 3, 2, 6, 0, false, 0, 2716⟩,
    .pfb ⟨3, false, 0, 3, 2, 6, 0, false, 1, 2716⟩,
    .pfb ⟨3, true, 0, 3, 2, 6, 0, false, 0, 2716⟩,
    .pfb ⟨3, false, 0, 3, 2, 6, 0, true, 0, 2716⟩] : List Instr).all (fun i => !i.wellFormed) = true := by decide +kernel

theorem test_refused_3 : ([
    .chkp ⟨0, false, 0, 13, 0, 0, 1, false, 0, 0⟩,
    .chkp ⟨0, false, 1, 13, 0, 0, 0, false, 0, 0⟩,
    .chkp ⟨0, false, 0, 13, 1, 0, 0, false, 0, 0⟩,
    .chkp ⟨0, false, 0, 13, 0, 1, 0, false, 0, 0⟩,
    .chkp ⟨0, false, 0, 13, 0, 0, 0, false, 0, 1⟩,
    .chkp ⟨0, false, 0, 13, 0, 0, 0, false, 1, 0⟩,
    .chkp ⟨0, true, 0, 13, 0, 0, 0, false, 0, 0⟩,
    .chkp ⟨0, false, 0, 13, 0, 0, 0, true, 0, 0⟩,
    .chkpQueue ⟨8, false, 0, 0, 0, 0, 1, false, 2, 0⟩,
    .chkpQueue ⟨8, false, 0, 1, 0, 0, 0, false, 2, 0⟩,
    .chkpQueue ⟨8, false, 1, 0, 0, 0, 0, false, 2, 0⟩,
    .chkpQueue ⟨8, false, 0, 0, 1, 0, 0, false, 2, 0⟩,
    .chkpQueue ⟨8, false, 0, 0, 0, 1, 0, false, 2, 0⟩,
    .chkpQueue ⟨8, false, 0, 0, 0, 0, 0, false, 2, 1⟩,
    .chkpQueue ⟨8, true, 0, 0, 0, 0, 0, false, 2, 0⟩,
    .chkpQueue ⟨8, false, 0, 0, 0, 0, 0, true, 2, 0⟩,
    .vmov ⟨7, 13, 29, 1⟩,
    .vnot ⟨14, 8, 63, 1⟩,
    .vabs ⟨7, 31, 48, 1⟩,
    .vneg ⟨8, 15, 20, 1⟩,
    .vbcast ⟨2, 15, 1, 9⟩,
    .kadd ⟨4, 16, 7, 1⟩,
    .kadd ⟨4, 14, 16, 1⟩,
    .kadd ⟨4, 14, 7, 16⟩,
    .kmov ⟨3, 15, 15, 1⟩,
    .kmov ⟨3, 16, 15, 0⟩,
    .kmov ⟨3, 15, 16, 0⟩,
    .sendVVc ⟨14, 1, 9, 0⟩,
    .sendVVc ⟨14, 0, 9, 1⟩,
    .sendVVc ⟨14, 0, 16, 0⟩,
    .sendVVa ⟨13, 1, 15, 0⟩,
    .sendVVa ⟨13, 0, 15, 1⟩,
    .sendVVa ⟨13, 0, 16, 0⟩,
    .recvVCv ⟨4, 13, 1, 0⟩,
    .recvVCv ⟨4, 13, 0, 1⟩,
    .recvVCv ⟨4, 16, 0, 0⟩,
    .recvVAv ⟨1, 13, 1, 0⟩,
    .recvVAv ⟨1, 13, 0, 1⟩,
    .recvVAv ⟨1, 16, 0, 0⟩,
    .vcfg ⟨0, 16, 6, 0, 0, 0, false, 0, 0, 0, false, 0⟩] : List Instr).all (fun i => !i.wellFormed) = true := by decide +kernel

theorem test_refused_4 : ([
    .vcfg ⟨0, 0, 16, 0, 0, 0, false, 0, 0, 0, false, 0⟩,
    .vaddLong ⟨13, 0, 23, 0, 1, 0, true, 0, 0, 0, false, 0⟩,
    .vaddLong ⟨13, 0, 23, 0, 0, 0, true, 0, 0, 0, false, 1⟩,
    .vaddLong ⟨13, 0, 23, 16, 0, 0, true, 0, 0, 0, false, 0⟩,
    .vaddLong ⟨13, 0, 23, 0, 0, 0, true, 0, 6, 0, false, 0⟩,
    .vaddLong ⟨13, 0, 23, 0, 0, 0, true, 0, 0, 31, false, 0⟩,
    .vaddLong ⟨13, 2, 23, 0, 0, 0, true, 8, 0, 0, false, 0⟩,
    .vaddLong ⟨13, 0, 4, 0, 0, 0, true, 4, 0, 0, false, 0⟩,
    .vaddLong ⟨13, 0, 23, 0, 0, 0, true, 2, 0, 0, false, 0⟩,
    .vaddLong ⟨13, 0, 23, 0, 0, 0, true, 1, 0, 0, false, 0⟩,
    .vaddLong ⟨13, 0, 23, 0, 0, 1, false, 0, 0, 0, false, 0⟩,
    .vsubLong ⟨11, 42, 0, 0, 1, 0, false, 0, 0, 0, false, 0⟩,
    .vsubLong ⟨11, 42, 0, 0, 0, 0, false, 0, 0, 0, false, 1⟩,
    .vsubLong ⟨11, 42, 0, 16, 0, 0, false, 0, 0, 0, false, 0⟩,
    .vsubLong ⟨11, 42, 0, 0, 0, 0, false, 0, 6, 0, false, 0⟩,
    .vsubLong ⟨11, 42, 0, 0, 0, 0, false, 0, 0, 31, false, 0⟩,
    .vsubLong ⟨11, 2, 0, 0, 0, 0, false, 8, 0, 0, false, 0⟩,
    .vsubLong ⟨11, 42, 4, 0, 0, 0, false, 4, 0, 0, false, 0⟩,
    .vsubLong ⟨11, 42, 0, 0, 0, 0, false, 2, 0, 0, false, 0⟩,
    .vsubLong ⟨11, 42, 0, 0, 0, 0, false, 1, 0, 0, false, 0⟩,
    .vsubLong ⟨11, 42, 0, 0, 0, 1, false, 0, 0, 0, false, 0⟩,
    .vmulLong ⟨0, 0, 8, 0, 1, 0, false, 0, 0, 1, false, 0⟩,
    .vmulLong ⟨0, 0, 8, 0, 0, 0, false, 0, 0, 1, false, 1⟩,
    .vmulLong ⟨0, 0, 8, 16, 0, 0, false, 0, 0, 1, false, 0⟩,
    .vmulLong ⟨0, 0, 8, 0, 0, 0, false, 0, 6, 1, false, 0⟩,
    .vmulLong ⟨0, 0, 8, 0, 0, 0, false, 0, 0, 31, false, 0⟩,
    .vmulLong ⟨0, 2, 8, 0, 0, 0, false, 8, 0, 1, false, 0⟩,
    .vmulLong ⟨0, 0, 4, 0, 0, 0, false, 4, 0, 1, false, 0⟩,
    .vmulLong ⟨0, 0, 8, 0, 0, 0, false, 2, 0, 1, false, 0⟩,
    .vmulLong ⟨0, 0, 8, 0, 0, 0, false, 1, 0, 1, false, 0⟩,
    .vmulLong ⟨0, 0, 8, 0, 0, 1, false, 0, 0, 1, false, 0⟩,
    .vfma ⟨15, 8, 12, 4, 9, 5, true, 0, 4, 0, false, 1⟩,
    .vfma ⟨15, 8, 12, 4, 9, 5, true, 0, 6, 0, false, 0⟩,
    .vfma ⟨15, 8, 12, 4, 9, 5, true, 0, 4, 31, false, 0⟩,
    .vfma ⟨15, 2, 12, 4, 9, 5, true, 8, 4, 0, false, 0⟩,
    .vfma ⟨15, 8, 4, 4, 9, 5, true, 4, 4, 0, false, 0⟩,
    .vfma ⟨15, 8, 12, 4, 9, 5, true, 2, 4, 0, false, 0⟩,
    .vfma ⟨15, 8, 12, 4, 4, 5, true, 1, 4, 0, false, 0⟩,
    .vfma ⟨15, 8, 12, 4, 9, 1, false, 0, 4, 0, false, 0⟩,
    .vfms ⟨11, 9, 17, 13, 14, 3, true, 0, 5, 1, false, 1⟩] : List Instr).all (fun i => !i.wellFormed) = true := by decide +kernel

theorem test_refused_5 : ([
    .vfms ⟨11, 9, 17, 13, 14, 3, true, 0, 6, 1, false, 0⟩,
    .vfms ⟨11, 9, 17, 13, 14, 3, true, 0, 5, 31, false, 0⟩,
    .vfms ⟨11, 2, 17, 13, 14, 3, true, 8, 5, 1, false, 0⟩,
    .vfms ⟨11, 9, 4, 13, 14, 3, true, 4, 5, 1, false, 0⟩,
    .vfms ⟨11, 9, 17, 4, 14, 3, true, 2, 5, 1, false, 0⟩,
    .vfms ⟨11, 9, 17, 13, 4, 3, true, 1, 5, 1, false, 0⟩,
    .vfms ⟨11, 9, 17, 13, 14, 1, false, 0, 5, 1, false, 0⟩,
    .vfnma ⟨7, 0, 45, 10, 15, 7, true, 0, 4, 1, true, 1⟩,
    .vfnma ⟨7, 0, 45, 10, 15, 7, true, 0, 6, 1, true, 0⟩,
    .vfnma ⟨7, 0, 45, 10, 15, 7, true, 0, 4, 31, true, 0⟩,
    .vfnma ⟨7, 2, 45, 10, 15, 7, true, 8, 4, 1, true, 0⟩,
    .vfnma ⟨7, 0, 4, 10, 15, 7, true, 4, 4, 1, true, 0⟩,
    .vfnma ⟨7, 0, 45, 4, 15, 7, true, 2, 4, 1, true, 0⟩,
    .vfnma ⟨7, 0, 45, 10, 4, 7, true, 1, 4, 1, true, 0⟩,
    .vfnma ⟨7, 0, 45, 10, 15, 1, false, 0, 4, 1, true, 0⟩,
    .vdiv ⟨7, 0, 44, 8, 1, 5, true, 0, 5, 0, false, 0⟩,
    .vdiv ⟨7, 0, 44, 8, 0, 5, true, 0, 5, 0, false, 1⟩,
    .vdiv ⟨7, 0, 44, 8, 0, 5, true, 0, 6, 0, false, 0⟩,
    .vdiv ⟨7, 0, 44, 8, 0, 5, true, 0, 5, 31, false, 0⟩,
    .vdiv ⟨7, 2, 44, 8, 0, 5, true, 8, 5, 0, false, 0⟩,
    .vdiv ⟨7, 0, 4, 8, 0, 5, true, 4, 5, 0, false, 0⟩,
    .vdiv ⟨7, 0, 44, 4, 0, 5, true, 2, 5, 0, false, 0⟩,
    .vdiv ⟨7, 0, 44, 8, 0, 5, true, 1, 5, 0, false, 0⟩,
    .vdiv ⟨7, 0, 44, 8, 0, 1, false, 0, 5, 0, false, 0⟩,
    .vsqrt ⟨0, 0, 18, 1, 0, 3, true, 0, 2, 0, false, 0⟩,
    .vsqrt ⟨0, 0, 18, 0, 1, 3, true, 0, 2, 0, false, 0⟩,
    .vsqrt ⟨0, 0, 18, 0, 0, 3, true, 0, 2, 0, false, 1⟩,
    .vsqrt ⟨0, 0, 18, 0, 0, 3, true, 0, 6, 0, false, 0⟩,
    .vsqrt ⟨0, 0, 18, 0, 0, 3, true, 0, 2, 31, false, 0⟩,
    .vsqrt ⟨0, 2, 18, 0, 0, 3, true, 8, 2, 0, false, 0⟩,
    .vsqrt ⟨0, 0, 4, 0, 0, 3, true, 4, 2, 0, false, 0⟩,
    .vsqrt ⟨0, 0, 18, 0, 0, 3, true, 2, 2, 0, false, 0⟩,
    .vsqrt ⟨0, 0, 18, 0, 0, 3, true, 1, 2, 0, false, 0⟩,
    .vsqrt ⟨0, 0, 18, 0, 0, 1, false, 0, 2, 0, false, 0⟩,
    .vrcp ⟨0, 16, 0, 1, 0, 0, true, 0, 0, 0, false, 0⟩,
    .vrcp ⟨0, 16, 0, 0, 1, 0, true, 0, 0, 0, false, 0⟩,
    .vrcp ⟨0, 16, 0, 0, 0, 0, true, 0, 0, 0, false, 1⟩,
    .vrcp ⟨0, 16, 0, 0, 0, 0, true, 0, 6, 0, false, 0⟩,
    .vrcp ⟨0, 16, 0, 0, 0, 0, true, 0, 0, 31, false, 0⟩,
    .vrcp ⟨0, 2, 0, 0, 0, 0, true, 8, 0, 0, false, 0⟩] : List Instr).all (fun i => !i.wellFormed) = true := by decide +kernel

theorem test_refused_6 : ([
    .vrcp ⟨0, 16, 4, 0, 0, 0, true, 4, 0, 0, false, 0⟩,
    .vrcp ⟨0, 16, 0, 0, 0, 0, true, 2, 0, 0, false, 0⟩,
    .vrcp ⟨0, 16, 0, 0, 0, 0, true, 1, 0, 0, false, 0⟩,
    .vrcp ⟨0, 16, 0, 0, 0, 1, false, 0, 0, 0, false, 0⟩,
    .vrsq ⟨0, 0, 0, 1, 0, 0, true, 0, 0, 0, true, 0⟩,
    .vrsq ⟨0, 0, 0, 0, 1, 0, true, 0, 0, 0, true, 0⟩,
    .vrsq ⟨0, 0, 0, 0, 0, 0, true, 0, 0, 0, true, 1⟩,
    .vrsq ⟨0, 0, 0, 0, 0, 0, true, 0, 6, 0, true, 0⟩,
    .vrsq ⟨0, 0, 0, 0, 0, 0, true, 0, 0, 31, true, 0⟩,
    .vrsq ⟨0, 2, 0, 0, 0, 0, true, 8, 0, 0, true, 0⟩,
    .vrsq ⟨0, 0, 4, 0, 0, 0, true, 4, 0, 0, true, 0⟩,
    .vrsq ⟨0, 0, 0, 0, 0, 0, true, 2, 0, 0, true, 0⟩,
    .vrsq ⟨0, 0, 0, 0, 0, 0, true, 1, 0, 0, true, 0⟩,
    .vrsq ⟨0, 0, 0, 0, 0, 1, false, 0, 0, 0, true, 0⟩,
    .vminLong ⟨0, 43, 0, 15, 1, 0, true, 0, 0, 0, false, 0⟩,
    .vminLong ⟨0, 43, 0, 15, 0, 0, true, 0, 0, 0, false, 1⟩,
    .vminLong ⟨0, 43, 0, 15, 0, 0, true, 0, 1, 0, false, 0⟩,
    .vminLong ⟨0, 43, 0, 16, 0, 0, true, 0, 0, 0, false, 0⟩,
    .vminLong ⟨0, 43, 0, 15, 0, 0, true, 0, 0, 31, false, 0⟩,
    .vminLong ⟨0, 2, 0, 15, 0, 0, true, 8, 0, 0, false, 0⟩,
    .vminLong ⟨0, 43, 4, 15, 0, 0, true, 4, 0, 0, false, 0⟩,
    .vminLong ⟨0, 43, 0, 15, 0, 0, true, 2, 0, 0, false, 0⟩,
    .vminLong ⟨0, 43, 0, 15, 0, 0, true, 1, 0, 0, false, 0⟩,
    .vminLong ⟨0, 43, 0, 15, 0, 1, false, 0, 0, 0, false, 0⟩,
    .vmaxLong ⟨12, 0, 53, 0, 1, 7, true, 0, 0, 0, false, 0⟩,
    .vmaxLong ⟨12, 0, 53, 0, 0, 7, true, 0, 0, 0, false, 1⟩,
    .vmaxLong ⟨12, 0, 53, 0, 0, 7, true, 0, 1, 0, false, 0⟩,
    .vmaxLong ⟨12, 0, 53, 16, 0, 7, true, 0, 0, 0, false, 0⟩,
    .vmaxLong ⟨12, 0, 53, 0, 0, 7, true, 0, 0, 31, false, 0⟩,
    .vmaxLong ⟨12, 2, 53, 0, 0, 7, true, 8, 0, 0, false, 0⟩,
    .vmaxLong ⟨12, 0, 4, 0, 0, 7, true, 4, 0, 0, false, 0⟩,
    .vmaxLong ⟨12, 0, 53, 0, 0, 7, true, 2, 0, 0, false, 0⟩,
    .vmaxLong ⟨12, 0, 53, 0, 0, 7, true, 1, 0, 0, false, 0⟩,
    .vmaxLong ⟨12, 0, 53, 0, 0, 1, false, 0, 0, 0, false, 0⟩,
    .vabsLong ⟨0, 2, 0, 1, 0, 0, true, 0, 0, 0, true, 0⟩,
    .vabsLong ⟨0, 2, 0, 0, 1, 0, true, 0, 0, 0, true, 0⟩,
    .vabsLong ⟨0, 2, 0, 0, 0, 0, true, 0, 0, 0, true, 1⟩,
    .vabsLong ⟨0, 2, 0, 0, 0, 0, true, 0, 1, 0, true, 0⟩,
    .vabsLong ⟨0, 2, 0, 0, 0, 0, true, 0, 0, 31, true, 0⟩,
    .vabsLong ⟨0, 2, 0, 0, 0, 0, true, 8, 0, 0, true, 0⟩] : List Instr).all (fun i => !i.wellFormed) = true := by decide +kernel

theorem test_refused_7 : ([
    .vabsLong ⟨0, 2, 4, 0, 0, 0, true, 4, 0, 0, true, 0⟩,
    .vabsLong ⟨0, 2, 0, 0, 0, 0, true, 2, 0, 0, true, 0⟩,
    .vabsLong ⟨0, 2, 0, 0, 0, 0, true, 1, 0, 0, true, 0⟩,
    .vabsLong ⟨0, 2, 0, 0, 0, 1, false, 0, 0, 0, true, 0⟩,
    .vnegLong ⟨4, 0, 0, 1, 0, 0, true, 0, 0, 0, true, 0⟩,
    .vnegLong ⟨4, 0, 0, 0, 1, 0, true, 0, 0, 0, true, 0⟩,
    .vnegLong ⟨4, 0, 0, 0, 0, 0, true, 0, 0, 0, true, 1⟩,
    .vnegLong ⟨4, 0, 0, 0, 0, 0, true, 0, 1, 0, true, 0⟩,
    .vnegLong ⟨4, 0, 0, 0, 0, 0, true, 0, 0, 31, true, 0⟩,
    .vnegLong ⟨4, 2, 0, 0, 0, 0, true, 8, 0, 0, true, 0⟩,
    .vnegLong ⟨4, 0, 4, 0, 0, 0, true, 4, 0, 0, true, 0⟩,
    .vnegLong ⟨4, 0, 0, 0, 0, 0, true, 2, 0, 0, true, 0⟩,
    .vnegLong ⟨4, 0, 0, 0, 0, 0, true, 1, 0, 0, true, 0⟩,
    .vnegLong ⟨4, 0, 0, 0, 0, 1, false, 0, 0, 0, true, 0⟩,
    .vcpys ⟨0, 0, 15, 38, 1, 0, false, 0, 0, 0, false, 0⟩,
    .vcpys ⟨0, 0, 15, 38, 0, 0, false, 0, 0, 0, false, 1⟩,
    .vcpys ⟨0, 0, 15, 38, 0, 0, false, 0, 1, 0, false, 0⟩,
    .vcpys ⟨0, 0, 15, 38, 0, 0, false, 0, 0, 31, false, 0⟩,
    .vcpys ⟨0, 2, 15, 38, 0, 0, false, 8, 0, 0, false, 0⟩,
    .vcpys ⟨0, 0, 4, 38, 0, 0, false, 4, 0, 0, false, 0⟩,
    .vcpys ⟨0, 0, 15, 4, 0, 0, false, 2, 0, 0, false, 0⟩,
    .vcpys ⟨0, 0, 15, 38, 0, 0, false, 1, 0, 0, false, 0⟩,
    .vcpys ⟨0, 0, 15, 38, 0, 1, false, 0, 0, 0, false, 0⟩,
    .vandLong ⟨0, 14, 0, 0, 1, 0, false, 0, 0, 24, false, 0⟩,
    .vandLong ⟨0, 14, 0, 0, 0, 0, false, 0, 0, 24, false, 1⟩,
    .vandLong ⟨0, 14, 0, 0, 0, 0, false, 0, 1, 24, false, 0⟩,
    .vandLong ⟨0, 14, 0, 0, 0, 0, false, 0, 0, 31, false, 0⟩,
    .vandLong ⟨0, 2, 0, 0, 0, 0, false, 8, 0, 24, false, 0⟩,
    .vandLong ⟨0, 14, 4, 0, 0, 0, false, 4, 0, 24, false, 0⟩,
    .vandLong ⟨0, 14, 0, 4, 0, 0, false, 2, 0, 24, false, 0⟩,
    .vandLong ⟨0, 14, 0, 0, 0, 0, false, 1, 0, 24, false, 0⟩,
    .vandLong ⟨0, 14, 0, 0, 0, 1, false, 0, 0, 24, false, 0⟩,
    .vorLong ⟨0, 0, 45, 39, 1, 5, true, 0, 0, 25, false, 0⟩,
    .vorLong ⟨0, 0, 45, 39, 0, 5, true, 0, 0, 25, false, 1⟩,
    .vorLong ⟨0, 0, 45, 39, 0, 5, true, 0, 1, 25, false, 0⟩,
    .vorLong ⟨0, 0, 45, 39, 0, 5, true, 0, 0, 31, false, 0⟩,
    .vorLong ⟨0, 2, 45, 39, 0, 5, true, 8, 0, 25, false, 0⟩,
    .vorLong ⟨0, 0, 4, 39, 0, 5, true, 4, 0, 25, false, 0⟩,
    .vorLong ⟨0, 0, 45, 4, 0, 5, true, 2, 0, 25, false, 0⟩,
    .vorLong ⟨0, 0, 45, 39, 0, 5, true, 1, 0, 25, false, 0⟩] : List Instr).all (fun i => !i.wellFormed) = true := by decide +kernel

theorem test_refused_8 : ([
    .vorLong ⟨0, 0, 45, 39, 0, 1, false, 0, 0, 25, false, 0⟩,
    .vxorLong ⟨5, 21, 0, 13, 1, 0, false, 0, 0, 25, false, 0⟩,
    .vxorLong ⟨5, 21, 0, 13, 0, 0, false, 0, 0, 25, false, 1⟩,
    .vxorLong ⟨5, 21, 0, 13, 0, 0, false, 0, 1, 25, false, 0⟩,
    .vxorLong ⟨5, 21, 0, 13, 0, 0, false, 0, 0, 31, false, 0⟩,
    .vxorLong ⟨5, 2, 0, 13, 0, 0, false, 8, 0, 25, false, 0⟩,
    .vxorLong ⟨5, 21, 4, 13, 0, 0, false, 4, 0, 25, false, 0⟩,
    .vxorLong ⟨5, 21, 0, 4, 0, 0, false, 2, 0, 25, false, 0⟩,
    .vxorLong ⟨5, 21, 0, 13, 0, 0, false, 1, 0, 25, false, 0⟩,
    .vxorLong ⟨5, 21, 0, 13, 0, 1, false, 0, 0, 25, false, 0⟩,
    .vnotLong ⟨0, 10, 0, 1, 0, 0, true, 0, 0, 24, false, 0⟩,
    .vnotLong ⟨0, 10, 0, 0, 1, 0, true, 0, 0, 24, false, 0⟩,
    .vnotLong ⟨0, 10, 0, 0, 0, 0, true, 0, 0, 24, false, 1⟩,
    .vnotLong ⟨0, 10, 0, 0, 0, 0, true, 0, 1, 24, false, 0⟩,
    .vnotLong ⟨0, 10, 0, 0, 0, 0, true, 0, 0, 31, false, 0⟩,
    .vnotLong ⟨0, 2, 0, 0, 0, 0, true, 8, 0, 24, false, 0⟩,
    .vnotLong ⟨0, 10, 4, 0, 0, 0, true, 4, 0, 24, false, 0⟩,
    .vnotLong ⟨0, 10, 0, 0, 0, 0, true, 2, 0, 24, false, 0⟩,
    .vnotLong ⟨0, 10, 0, 0, 0, 0, true, 1, 0, 24, false, 0⟩,
    .vnotLong ⟨0, 10, 0, 0, 0, 1, false, 0, 0, 24, false, 0⟩,
    .vshlLong ⟨0, 0, 0, 0, 1, 0, true, 0, 0, 24, false, 0⟩,
    .vshlLong ⟨0, 0, 0, 0, 0, 0, true, 0, 0, 24, false, 1⟩,
    .vshlLong ⟨0, 0, 0, 0, 0, 0, true, 0, 1, 24, false, 0⟩,
    .vshlLong ⟨0, 0, 0, 16, 0, 0, true, 0, 0, 24, false, 0⟩,
    .vshlLong ⟨0, 0, 0, 0, 0, 0, true, 0, 0, 31, false, 0⟩,
    .vshlLong ⟨0, 2, 0, 0, 0, 0, true, 8, 0, 24, false, 0⟩,
    .vshlLong ⟨0, 0, 4, 0, 0, 0, true, 4, 0, 24, false, 0⟩,
    .vshlLong ⟨0, 0, 0, 0, 0, 0, true, 2, 0, 24, false, 0⟩,
    .vshlLong ⟨0, 0, 0, 0, 0, 0, true, 1, 0, 24, false, 0⟩,
    .vshlLong ⟨0, 0, 0, 0, 0, 1, false, 0, 0, 24, false, 0⟩,
    .vshrLong ⟨14, 23, 5, 0, 1, 0, false, 0, 0, 24, false, 0⟩,
    .vshrLong ⟨14, 23, 5, 0, 0, 0, false, 0, 0, 24, false, 1⟩,
    .vshrLong ⟨14, 23, 5, 0, 0, 0, false, 0, 1, 24, false, 0⟩,
    .vshrLong ⟨14, 23, 5, 16, 0, 0, false, 0, 0, 24, false, 0⟩,
    .vshrLong ⟨14, 23, 5, 0, 0, 0, false, 0, 0, 31, false, 0⟩,
    .vshrLong ⟨14, 2, 5, 0, 0, 0, false, 8, 0, 24, false, 0⟩,
    .vshrLong ⟨14, 23, 4, 0, 0, 0, false, 4, 0, 24, false, 0⟩,
    .vshrLong ⟨14, 23, 5, 0, 0, 0, false, 2, 0, 24, false, 0⟩,
    .vshrLong ⟨14, 23, 5, 0, 0, 0, false, 1, 0, 24, false, 0⟩,
    .vshrLong ⟨14, 23, 5, 0, 0, 1, false, 0, 0, 24, false, 0⟩] : List Instr).all (fun i => !i.wellFormed) = true := by decide +kernel

theorem test_refused_9 : ([
    .vsraLong ⟨6, 3, 36, 11, 1, 0, false, 0, 0, 25, false, 0⟩,
    .vsraLong ⟨6, 3, 36, 11, 0, 0, false, 0, 0, 25, false, 1⟩,
    .vsraLong ⟨6, 3, 36, 11, 0, 0, false, 0, 1, 25, false, 0⟩,
    .vsraLong ⟨6, 3, 36, 16, 0, 0, false, 0, 0, 25, false, 0⟩,
    .vsraLong ⟨6, 3, 36, 11, 0, 0, false, 0, 0, 31, false, 0⟩,
    .vsraLong ⟨6, 2, 36, 11, 0, 0, false, 8, 0, 25, false, 0⟩,
    .vsraLong ⟨6, 3, 4, 11, 0, 0, false, 4, 0, 25, false, 0⟩,
    .vsraLong ⟨6, 3, 36, 11, 0, 0, false, 2, 0, 25, false, 0⟩,
    .vsraLong ⟨6, 3, 36, 11, 0, 0, false, 1, 0, 25, false, 0⟩,
    .vsraLong ⟨6, 3, 36, 11, 0, 1, false, 0, 0, 25, false, 0⟩,
    .vadds ⟨10, 2, 0, 38, 1, 0, false, 0, 0, 9, false, 0⟩,
    .vadds ⟨10, 2, 0, 38, 0, 0, false, 0, 0, 9, false, 1⟩,
    .vadds ⟨10, 2, 0, 38, 0, 0, false, 0, 1, 9, false, 0⟩,
    .vadds ⟨10, 2, 0, 38, 0, 0, false, 0, 0, 31, false, 0⟩,
    .vadds ⟨10, 2, 0, 38, 0, 0, false, 8, 0, 9, false, 0⟩,
    .vadds ⟨10, 2, 4, 38, 0, 0, false, 4, 0, 9, false, 0⟩,
    .vadds ⟨10, 2, 0, 4, 0, 0, false, 2, 0, 9, false, 0⟩,
    .vadds ⟨10, 2, 0, 38, 0, 0, false, 1, 0, 9, false, 0⟩,
    .vadds ⟨10, 2, 0, 38, 0, 1, false, 0, 0, 9, false, 0⟩,
    .vsubs ⟨15, 6, 0, 0, 1, 0, false, 0, 0, 25, false, 0⟩,
    .vsubs ⟨15, 6, 0, 0, 0, 0, false, 0, 0, 25, false, 1⟩,
    .vsubs ⟨15, 6, 0, 0, 0, 0, false, 0, 1, 25, false, 0⟩,
    .vsubs ⟨15, 6, 0, 0, 0, 0, false, 0, 0, 31, false, 0⟩,
    .vsubs ⟨15, 2, 0, 0, 0, 0, false, 8, 0, 25, false, 0⟩,
    .vsubs ⟨15, 6, 4, 0, 0, 0, false, 4, 0, 25, false, 0⟩,
    .vsubs ⟨15, 6, 0, 4, 0, 0, false, 2, 0, 25, false, 0⟩,
    .vsubs ⟨15, 6, 0, 0, 0, 0, false, 1, 0, 25, false, 0⟩,
    .vsubs ⟨15, 6, 0, 0, 0, 1, false, 0, 0, 25, false, 0⟩,
    .vcmp ⟨4, 6, 37, 59, 1, 4, true, 0, 0, 1, false, 1⟩,
    .vcmp ⟨4, 6, 37, 59, 0, 4, true, 0, 1, 1, false, 1⟩,
    .vcmp ⟨4, 8, 37, 59, 0, 4, true, 0, 0, 1, false, 1⟩,
    .vcmp ⟨4, 6, 37, 59, 0, 4, true, 0, 0, 1, false, 7⟩,
    .vcmp ⟨4, 6, 37, 59, 0, 4, true, 0, 0, 31, false, 1⟩,
    .vcmp ⟨4, 6, 37, 59, 0, 4, true, 8, 0, 1, false, 1⟩,
    .vcmp ⟨4, 6, 4, 59, 0, 4, true, 4, 0, 1, false, 1⟩,
    .vcmp ⟨4, 6, 37, 4, 0, 4, true, 2, 0, 1, false, 1⟩,
    .vcmp ⟨4, 6, 37, 59, 0, 4, true, 1, 0, 1, false, 1⟩,
    .vcmp ⟨4, 6, 37, 59, 0, 1, false, 0, 0, 1, false, 1⟩,
    .vsel ⟨0, 11, 0, 59, 1, 6, true, 0, 0, 0, false, 0⟩,
    .vsel ⟨0, 11, 0, 59, 0, 6, true, 0, 0, 0, false, 1⟩] : List Instr).all (fun i => !i.wellFormed) = true := by decide +kernel

theorem test_refused_10 : ([
    .vsel ⟨0, 11, 0, 59, 0, 6, true, 0, 1, 0, false, 0⟩,
    .vsel ⟨0, 11, 0, 59, 0, 6, true, 0, 0, 0, true, 0⟩,
    .vsel ⟨0, 11, 0, 59, 0, 0, false, 0, 0, 0, false, 0⟩,
    .vsel ⟨0, 11, 0, 59, 0, 6, true, 0, 0, 31, false, 0⟩,
    .vsel ⟨0, 2, 0, 59, 0, 6, true, 8, 0, 0, false, 0⟩,
    .vsel ⟨0, 11, 4, 59, 0, 6, true, 4, 0, 0, false, 0⟩,
    .vsel ⟨0, 11, 0, 4, 0, 6, true, 2, 0, 0, false, 0⟩,
    .vsel ⟨0, 11, 0, 59, 0, 6, true, 1, 0, 0, false, 0⟩,
    .vsel ⟨0, 11, 0, 59, 0, 1, false, 0, 0, 0, false, 0⟩,
    .vmop ⟨15, 0, 0, 0, 0, 0, false, 0, 0, 0, false, 7⟩,
    .vcvt ⟨2, 6, 13, 1, 7, 0, true, 0, 2, 0, true, 0⟩,
    .vcvt ⟨2, 6, 13, 0, 7, 0, true, 0, 2, 0, true, 1⟩,
    .vcvt ⟨2, 6, 13, 0, 32, 0, true, 0, 2, 0, true, 0⟩,
    .vcvt ⟨2, 6, 13, 0, 7, 0, true, 0, 6, 0, true, 0⟩,
    .vcvt ⟨2, 6, 13, 0, 7, 0, true, 0, 2, 31, true, 0⟩,
    .vcvt ⟨2, 2, 13, 0, 7, 0, true, 8, 2, 0, true, 0⟩,
    .vcvt ⟨2, 6, 4, 0, 7, 0, true, 4, 2, 0, true, 0⟩,
    .vcvt ⟨2, 6, 13, 0, 7, 0, true, 2, 2, 0, true, 0⟩,
    .vcvt ⟨2, 6, 13, 0, 7, 0, true, 1, 2, 0, true, 0⟩,
    .vcvt ⟨2, 6, 13, 0, 7, 1, false, 0, 2, 0, true, 0⟩,
    .vqmax ⟨0, 1, 0, 1, 0, 0, false, 0, 0, 4, false, 0⟩,
    .vqmax ⟨0, 1, 0, 0, 1, 0, false, 0, 0, 4, false, 0⟩,
    .vqmax ⟨0, 1, 0, 0, 0, 0, false, 0, 0, 4, false, 1⟩,
    .vqmax ⟨0, 1, 0, 0, 0, 0, false, 0, 1, 4, false, 0⟩,
    .vqmax ⟨0, 1, 0, 0, 0, 0, false, 0, 0, 31, false, 0⟩,
    .vqmax ⟨0, 1, 0, 0, 0, 0, false, 8, 0, 4, false, 0⟩,
    .vqmax ⟨0, 1, 4, 0, 0, 0, false, 4, 0, 4, false, 0⟩,
    .vqmax ⟨0, 1, 0, 0, 0, 0, false, 2, 0, 4, false, 0⟩,
    .vqmax ⟨0, 1, 0, 0, 0, 0, false, 1, 0, 4, false, 0⟩,
    .vqmax ⟨0, 1, 0, 0, 0, 0, true, 0, 0, 4, false, 0⟩,
    .vqmax ⟨0, 1, 0, 0, 0, 1, false, 0, 0, 4, false, 0⟩,
    .vqcvt ⟨8, 0, 1, 2, 0, 0, false, 0, 5, 11, false, 0⟩,
    .vqcvt ⟨8, 0, 0, 2, 1, 0, false, 0, 5, 11, false, 0⟩,
    .vqcvt ⟨8, 0, 0, 2, 0, 0, false, 0, 5, 11, false, 1⟩,
    .vqcvt ⟨8, 0, 0, 2, 0, 0, false, 0, 6, 11, false, 0⟩,
    .vqcvt ⟨8, 0, 0, 2, 0, 0, false, 0, 5, 31, false, 0⟩,
    .vqcvt ⟨8, 2, 0, 2, 0, 0, false, 8, 5, 11, false, 0⟩,
    .vqcvt ⟨8, 0, 0, 2, 0, 0, false, 4, 5, 11, false, 0⟩,
    .vqcvt ⟨8, 0, 0, 2, 0, 0, false, 2, 5, 11, false, 0⟩,
    .vqcvt ⟨8, 0, 0, 2, 0, 0, false, 1, 5, 11, false, 0⟩] : List Instr).all (fun i => !i.wellFormed) = true := by decide +kernel

theorem test_refused_11 : ([
    .vqcvt ⟨8, 0, 0, 2, 0, 0, true, 0, 5, 11, false, 0⟩,
    .vqcvt ⟨8, 0, 0, 2, 0, 1, false, 0, 5, 11, false, 0⟩,
    .vqcvtx ⟨2, 4, 1, 0, 0, 0, false, 0, 0, 10, false, 0⟩,
    .vqcvtx ⟨2, 4, 0, 0, 1, 0, false, 0, 0, 10, false, 0⟩,
    .vqcvtx ⟨2, 4, 0, 0, 0, 0, false, 0, 0, 10, false, 1⟩,
    .vqcvtx ⟨2, 4, 0, 0, 0, 0, false, 0, 6, 10, false, 0⟩,
    .vqcvtx ⟨2, 4, 0, 0, 0, 0, false, 0, 0, 31, false, 0⟩,
    .vqcvtx ⟨2, 2, 0, 0, 0, 0, false, 8, 0, 10, false, 0⟩,
    .vqcvtx ⟨2, 4, 0, 0, 0, 0, false, 4, 0, 10, false, 0⟩,
    .vqcvtx ⟨2, 4, 0, 0, 0, 0, false, 2, 0, 10, false, 0⟩,
    .vqcvtx ⟨2, 4, 0, 0, 0, 0, false, 1, 0, 10, false, 0⟩,
    .vqcvtx ⟨2, 4, 0, 0, 0, 0, true, 0, 0, 10, false, 0⟩,
    .vqcvtx ⟨2, 4, 0, 0, 0, 1, false, 0, 0, 10, false, 0⟩,
    .vredsum ⟨0, 10, 16, 1, 0, 0, false, 0, 0, 0, false, 0⟩,
    .vredsum ⟨0, 10, 16, 0, 1, 0, false, 0, 0, 0, false, 0⟩,
    .vredsum ⟨0, 10, 16, 0, 0, 0, false, 0, 0, 0, false, 1⟩,
    .vredsum ⟨0, 10, 16, 0, 0, 0, false, 0, 2, 0, false, 0⟩,
    .vredsum ⟨0, 16, 16, 0, 0, 0, false, 0, 0, 0, false, 0⟩,
    .vredsum ⟨0, 10, 16, 0, 0, 0, true, 0, 0, 0, true, 0⟩,
    .vredsum ⟨0, 10, 16, 0, 0, 0, false, 0, 0, 31, false, 0⟩,
    .vredsum ⟨0, 10, 16, 0, 0, 0, false, 8, 0, 0, false, 0⟩,
    .vredsum ⟨0, 10, 4, 0, 0, 0, false, 4, 0, 0, false, 0⟩,
    .vredsum ⟨0, 10, 16, 0, 0, 0, false, 2, 0, 0, false, 0⟩,
    .vredsum ⟨0, 10, 16, 0, 0, 0, false, 1, 0, 0, false, 0⟩,
    .vredsum ⟨0, 10, 16, 0, 0, 1, false, 0, 0, 0, false, 0⟩,
    .vredmax ⟨0, 0, 0, 1, 0, 0, false, 0, 0, 0, false, 0⟩,
    .vredmax ⟨0, 0, 0, 0, 1, 0, false, 0, 0, 0, false, 0⟩,
    .vredmax ⟨0, 0, 0, 0, 0, 0, false, 0, 0, 0, false, 1⟩,
    .vredmax ⟨0, 0, 0, 0, 0, 0, false, 0, 2, 0, false, 0⟩,
    .vredmax ⟨0, 16, 0, 0, 0, 0, false, 0, 0, 0, false, 0⟩,
    .vredmax ⟨0, 0, 0, 0, 0, 0, true, 0, 0, 0, true, 0⟩,
    .vredmax ⟨0, 0, 0, 0, 0, 0, false, 0, 0, 31, false, 0⟩,
    .vredmax ⟨0, 0, 0, 0, 0, 0, false, 8, 0, 0, false, 0⟩,
    .vredmax ⟨0, 0, 4, 0, 0, 0, false, 4, 0, 0, false, 0⟩,
    .vredmax ⟨0, 0, 0, 0, 0, 0, false, 2, 0, 0, false, 0⟩,
    .vredmax ⟨0, 0, 0, 0, 0, 0, false, 1, 0, 0, false, 0⟩,
    .vredmax ⟨0, 0, 0, 0, 0, 1, false, 0, 0, 0, false, 0⟩,
    .vredmin ⟨13, 9, 0, 1, 0, 0, true, 0, 0, 0, false, 0⟩,
    .vredmin ⟨13, 9, 0, 0, 1, 0, true, 0, 0, 0, false, 0⟩,
    .vredmin ⟨13, 9, 0, 0, 0, 0, true, 0, 0, 0, false, 1⟩] : List Instr).all (fun i => !i.wellFormed) = true := by decide +kernel

theorem test_refused_12 : ([
    .vredmin ⟨13, 9, 0, 0, 0, 0, true, 0, 2, 0, false, 0⟩,
    .vredmin ⟨13, 16, 0, 0, 0, 0, true, 0, 0, 0, false, 0⟩,
    .vredmin ⟨13, 9, 0, 0, 0, 0, true, 0, 0, 0, true, 0⟩,
    .vredmin ⟨13, 9, 0, 0, 0, 0, true, 0, 0, 31, false, 0⟩,
    .vredmin ⟨13, 9, 0, 0, 0, 0, true, 8, 0, 0, false, 0⟩,
    .vredmin ⟨13, 9, 4, 0, 0, 0, true, 4, 0, 0, false, 0⟩,
    .vredmin ⟨13, 9, 0, 0, 0, 0, true, 2, 0, 0, false, 0⟩,
    .vredmin ⟨13, 9, 0, 0, 0, 0, true, 1, 0, 0, false, 0⟩,
    .vredmin ⟨13, 9, 0, 0, 0, 1, false, 0, 0, 0, false, 0⟩,
    .vredamax ⟨0, 0, 6, 1, 0, 0, false, 0, 0, 0, false, 0⟩,
    .vredamax ⟨0, 0, 6, 0, 1, 0, false, 0, 0, 0, false, 0⟩,
    .vredamax ⟨0, 0, 6, 0, 0, 0, false, 0, 0, 0, false, 1⟩,
    .vredamax ⟨0, 0, 6, 0, 0, 0, false, 0, 2, 0, false, 0⟩,
    .vredamax ⟨0, 16, 6, 0, 0, 0, false, 0, 0, 0, false, 0⟩,
    .vredamax ⟨0, 0, 6, 0, 0, 0, true, 0, 0, 0, true, 0⟩,
    .vredamax ⟨0, 0, 6, 0, 0, 0, false, 0, 0, 31, false, 0⟩,
    .vredamax ⟨0, 0, 6, 0, 0, 0, false, 8, 0, 0, false, 0⟩,
    .vredamax ⟨0, 0, 4, 0, 0, 0, false, 4, 0, 0, false, 0⟩,
    .vredamax ⟨0, 0, 6, 0, 0, 0, false, 2, 0, 0, false, 0⟩,
    .vredamax ⟨0, 0, 6, 0, 0, 0, false, 1, 0, 0, false, 0⟩,
    .vredamax ⟨0, 0, 6, 0, 0, 1, false, 0, 0, 0, false, 0⟩,
    .vperm ⟨0, 0, 0, 0, 1, 0, true, 0, 0, 0, false, 0⟩,
    .vperm ⟨0, 0, 0, 0, 0, 0, true, 0, 0, 0, false, 1⟩,
    .vperm ⟨0, 0, 0, 0, 0, 0, true, 0, 1, 0, false, 0⟩,
    .vperm ⟨0, 0, 0, 0, 0, 0, true, 0, 0, 31, false, 0⟩,
    .vperm ⟨0, 2, 0, 0, 0, 0, true, 8, 0, 0, false, 0⟩,
    .vperm ⟨0, 0, 4, 0, 0, 0, true, 4, 0, 0, false, 0⟩,
    .vperm ⟨0, 0, 0, 4, 0, 0, true, 2, 0, 0, false, 0⟩,
    .vperm ⟨0, 0, 0, 0, 0, 0, true, 1, 0, 0, false, 0⟩,
    .vperm ⟨0, 0, 0, 0, 0, 1, false, 0, 0, 0, false, 0⟩,
    .vslupLong ⟨0, 0, 0, 0, 1, 0, true, 0, 0, 0, false, 0⟩,
    .vslupLong ⟨0, 0, 0, 0, 0, 0, true, 0, 0, 0, false, 1⟩,
    .vslupLong ⟨0, 0, 0, 0, 0, 0, true, 0, 1, 0, false, 0⟩,
    .vslupLong ⟨0, 0, 0, 16, 0, 0, true, 0, 0, 0, false, 0⟩,
    .vslupLong ⟨0, 0, 0, 0, 0, 0, true, 0, 0, 31, false, 0⟩,
    .vslupLong ⟨0, 2, 0, 0, 0, 0, true, 8, 0, 0, false, 0⟩,
    .vslupLong ⟨0, 0, 4, 0, 0, 0, true, 4, 0, 0, false, 0⟩,
    .vslupLong ⟨0, 0, 0, 0, 0, 0, true, 2, 0, 0, false, 0⟩,
    .vslupLong ⟨0, 0, 0, 0, 0, 0, true, 1, 0, 0, false, 0⟩,
    .vslupLong ⟨0, 0, 0, 0, 0, 1, false, 0, 0, 0, false, 0⟩] : List Instr).all (fun i => !i.wellFormed) = true := by decide +kernel

theorem test_refused_13 : ([
    .vsldnLong ⟨1, 0, 5, 0, 1, 0, false, 0, 0, 0, false, 0⟩,
    .vsldnLong ⟨1, 0, 5, 0, 0, 0, false, 0, 0, 0, false, 1⟩,
    .vsldnLong ⟨1, 0, 5, 0, 0, 0, false, 0, 1, 0, false, 0⟩,
    .vsldnLong ⟨1, 0, 5, 16, 0, 0, false, 0, 0, 0, false, 0⟩,
    .vsldnLong ⟨1, 0, 5, 0, 0, 0, false, 0, 0, 31, false, 0⟩,
    .vsldnLong ⟨1, 2, 5, 0, 0, 0, false, 8, 0, 0, false, 0⟩,
    .vsldnLong ⟨1, 0, 4, 0, 0, 0, false, 4, 0, 0, false, 0⟩,
    .vsldnLong ⟨1, 0, 5, 0, 0, 0, false, 2, 0, 0, false, 0⟩,
    .vsldnLong ⟨1, 0, 5, 0, 0, 0, false, 1, 0, 0, false, 0⟩,
    .vsldnLong ⟨1, 0, 5, 0, 0, 1, false, 0, 0, 0, false, 0⟩,
    .vbcastLong ⟨0, 0, 1, 13, 0, 0, true, 0, 0, 0, false, 0⟩,
    .vbcastLong ⟨0, 0, 0, 13, 1, 0, true, 0, 0, 0, false, 0⟩,
    .vbcastLong ⟨0, 0, 0, 13, 0, 0, true, 0, 0, 0, false, 1⟩,
    .vbcastLong ⟨0, 0, 0, 13, 0, 0, true, 0, 1, 0, false, 0⟩,
    .vbcastLong ⟨0, 0, 0, 16, 0, 0, true, 0, 0, 0, false, 0⟩,
    .vbcastLong ⟨0, 0, 0, 13, 0, 0, true, 0, 0, 31, false, 0⟩,
    .vbcastLong ⟨0, 2, 0, 13, 0, 0, true, 8, 0, 0, false, 0⟩,
    .vbcastLong ⟨0, 0, 0, 13, 0, 0, true, 4, 0, 0, false, 0⟩,
    .vbcastLong ⟨0, 0, 0, 13, 0, 0, true, 2, 0, 0, false, 0⟩,
    .vbcastLong ⟨0, 0, 0, 13, 0, 0, true, 1, 0, 0, false, 0⟩,
    .vbcastLong ⟨0, 0, 0, 13, 0, 1, false, 0, 0, 0, false, 0⟩,
    .viota ⟨0, 0, 1, 0, 0, 0, false, 0, 0, 0, false, 0⟩,
    .viota ⟨0, 0, 0, 1, 0, 0, false, 0, 0, 0, false, 0⟩,
    .viota ⟨0, 0, 0, 0, 1, 0, false, 0, 0, 0, false, 0⟩,
    .viota ⟨0, 0, 0, 0, 0, 0, false, 0, 0, 0, false, 1⟩,
    .viota ⟨0, 0, 0, 0, 0, 0, false, 0, 1, 0, false, 0⟩,
    .viota ⟨0, 0, 0, 0, 0, 0, false, 0, 0, 31, false, 0⟩,
    .viota ⟨0, 2, 0, 0, 0, 0, false, 8, 0, 0, false, 0⟩,
    .viota ⟨0, 0, 0, 0, 0, 0, false, 4, 0, 0, false, 0⟩,
    .viota ⟨0, 0, 0, 0, 0, 0, false, 2, 0, 0, false, 0⟩,
    .viota ⟨0, 0, 0, 0, 0, 0, false, 1, 0, 0, false, 0⟩,
    .viota ⟨0, 0, 0, 0, 0, 1, false, 0, 0, 0, false, 0⟩,
    .vcompr ⟨10, 29, 37, 0, 1, 2, true, 0, 0, 0, false, 0⟩,
    .vcompr ⟨10, 29, 37, 0, 0, 2, true, 0, 0, 0, false, 1⟩,
    .vcompr ⟨10, 29, 37, 0, 0, 2, true, 0, 1, 0, false, 0⟩,
    .vcompr ⟨10, 29, 37, 16, 0, 2, true, 0, 0, 0, false, 0⟩,
    .vcompr ⟨10, 29, 37, 0, 0, 0, false, 0, 0, 0, false, 0⟩,
    .vcompr ⟨10, 29, 37, 0, 0, 2, true, 0, 0, 31, false, 0⟩,
    .vcompr ⟨10, 2, 37, 0, 0, 2, true, 8, 0, 0, false, 0⟩,
    .vcompr ⟨10, 29, 4, 0, 0, 2, true, 4, 0, 0, false, 0⟩] : List Instr).all (fun i => !i.wellFormed) = true := by decide +kernel

theorem test_refused_14 : ([
    .vcompr ⟨10, 29, 37, 0, 0, 2, true, 2, 0, 0, false, 0⟩,
    .vcompr ⟨10, 29, 37, 0, 0, 2, true, 1, 0, 0, false, 0⟩,
    .vcompr ⟨10, 29, 37, 0, 0, 1, false, 0, 0, 0, false, 0⟩,
    .vext ⟨9, 14, 4, 0, 1, 0, false, 0, 0, 0, false, 0⟩,
    .vext ⟨9, 14, 4, 0, 0, 0, false, 0, 0, 0, false, 1⟩,
    .vext ⟨9, 14, 4, 0, 0, 0, false, 0, 1, 0, false, 0⟩,
    .vext ⟨9, 16, 4, 0, 0, 0, false, 0, 0, 0, false, 0⟩,
    .vext ⟨9, 14, 4, 16, 0, 0, false, 0, 0, 0, false, 0⟩,
    .vext ⟨9, 14, 4, 0, 0, 0, false, 0, 0, 31, false, 0⟩,
    .vext ⟨9, 14, 4, 0, 0, 0, false, 8, 0, 0, false, 0⟩,
    .vext ⟨9, 14, 4, 0, 0, 0, false, 4, 0, 0, false, 0⟩,
    .vext ⟨9, 14, 4, 0, 0, 0, false, 2, 0, 0, false, 0⟩,
    .vext ⟨9, 14, 4, 0, 0, 0, false, 1, 0, 0, false, 0⟩,
    .vext ⟨9, 14, 4, 0, 0, 0, true, 0, 0, 0, false, 0⟩,
    .vext ⟨9, 14, 4, 0, 0, 1, false, 0, 0, 0, false, 0⟩,
    .vins ⟨0, 16, 0, 0, 1, 0, false, 0, 0, 0, false, 0⟩,
    .vins ⟨0, 16, 0, 0, 0, 0, false, 0, 0, 0, false, 1⟩,
    .vins ⟨0, 16, 0, 0, 0, 0, false, 0, 1, 0, false, 0⟩,
    .vins ⟨0, 16, 16, 0, 0, 0, false, 0, 0, 0, false, 0⟩,
    .vins ⟨0, 16, 0, 16, 0, 0, false, 0, 0, 0, false, 0⟩,
    .vins ⟨0, 16, 0, 0, 0, 0, false, 0, 0, 31, false, 0⟩,
    .vins ⟨0, 16, 0, 0, 0, 0, false, 8, 0, 0, false, 0⟩,
    .vins ⟨0, 16, 0, 0, 0, 0, false, 4, 0, 0, false, 0⟩,
    .vins ⟨0, 16, 0, 0, 0, 0, false, 2, 0, 0, false, 0⟩,
    .vins ⟨0, 16, 0, 0, 0, 0, false, 1, 0, 0, false, 0⟩,
    .vins ⟨0, 16, 0, 0, 0, 0, true, 0, 0, 0, false, 0⟩,
    .vins ⟨0, 16, 0, 0, 0, 1, false, 0, 0, 0, false, 0⟩,
    .vmovLong ⟨10, 0, 15, 1, 0, 0, false, 0, 0, 0, false, 0⟩,
    .vmovLong ⟨10, 0, 15, 0, 1, 0, false, 0, 0, 0, false, 0⟩,
    .vmovLong ⟨10, 0, 15, 0, 0, 0, false, 0, 0, 0, false, 1⟩,
    .vmovLong ⟨10, 0, 15, 0, 0, 0, false, 0, 1, 0, false, 0⟩,
    .vmovLong ⟨10, 0, 15, 0, 0, 0, false, 0, 0, 31, false, 0⟩,
    .vmovLong ⟨10, 2, 15, 0, 0, 0, false, 8, 0, 0, false, 0⟩,
    .vmovLong ⟨10, 0, 4, 0, 0, 0, false, 4, 0, 0, false, 0⟩,
    .vmovLong ⟨10, 0, 15, 0, 0, 0, false, 2, 0, 0, false, 0⟩,
    .vmovLong ⟨10, 0, 15, 0, 0, 0, false, 1, 0, 0, false, 0⟩,
    .vmovLong ⟨10, 0, 15, 0, 0, 1, false, 0, 0, 0, false, 0⟩,
    .vtlu ⟨10, 12, 12, 0, 1, 0, false, 0, 0, 0, false, 0⟩,
    .vtlu ⟨10, 12, 12, 0, 0, 0, false, 0, 0, 0, false, 1⟩,
    .vtlu ⟨10, 12, 12, 0, 0, 0, false, 0, 2, 0, false, 0⟩] : List Instr).all (fun i => !i.wellFormed) = true := by decide +kernel

theorem test_refused_15 : ([
    .vtlu ⟨10, 2, 12, 0, 0, 0, false, 8, 0, 0, false, 0⟩,
    .vtlu ⟨10, 12, 4, 0, 0, 0, false, 4, 0, 0, false, 0⟩,
    .vtlu ⟨10, 12, 12, 4, 0, 0, false, 2, 0, 0, false, 0⟩,
    .vtlu ⟨10, 12, 12, 0, 0, 0, false, 1, 0, 0, false, 0⟩,
    .vtlu ⟨10, 12, 12, 0, 0, 1, false, 0, 0, 0, false, 0⟩,
    .vtld ⟨14, 0, 0, 0, 1, 0, false, 0, 1, 0, false, 0⟩,
    .vtld ⟨14, 0, 0, 0, 0, 0, false, 0, 1, 0, false, 1⟩,
    .vtld ⟨14, 0, 0, 0, 0, 0, false, 0, 2, 0, false, 0⟩,
    .vtld ⟨14, 2, 0, 0, 0, 0, false, 8, 1, 0, false, 0⟩,
    .vtld ⟨14, 0, 4, 0, 0, 0, false, 4, 1, 0, false, 0⟩,
    .vtld ⟨14, 0, 0, 4, 0, 0, false, 2, 1, 0, false, 0⟩,
    .vtld ⟨14, 0, 0, 0, 0, 0, false, 1, 1, 0, false, 0⟩,
    .vtld ⟨14, 0, 0, 0, 0, 1, false, 0, 1, 0, false, 0⟩,
    .spawn ⟨7, 3, 44, 60, 5⟩,
    .spawnl ⟨6, 41, 15, 60, 25712⟩,
    .join ⟨2, 1, 23, 0, 3⟩,
    .join ⟨2, 0, 23, 1, 3⟩,
    .tend ⟨1, 0, 0, 0, 0⟩,
    .tend ⟨0, 1, 0, 0, 0⟩,
    .tend ⟨0, 0, 1, 0, 0⟩,
    .tend ⟨0, 0, 0, 1, 0⟩,
    .yield ⟨11, 10, 1, 0, 18747⟩,
    .yield ⟨11, 10, 0, 1, 18747⟩,
    .galloc ⟨12, 10, 22, 1, 51105⟩,
    .gfree ⟨14, 1, 11, 0, 30657⟩,
    .gfree ⟨14, 0, 11, 1, 30657⟩,
    .glease ⟨4, 1, 2, 29, 11⟩,
    .grel ⟨9, 1, 15, 0, 28458⟩,
    .grel ⟨9, 0, 15, 1, 28458⟩,
    .gfmt ⟨4, 1, 7, 32, 8404⟩,
    .gzero ⟨8, 1, 26, 0, 5⟩,
    .gzero ⟨8, 0, 26, 1, 5⟩,
    .cpy ⟨15, 8, 1, 23, 8⟩,
    .cpyg ⟨1, 7, 1, 10, 14822⟩,
    .cpys ⟨12, 15, 1, 4, 11⟩,
    .cpyr ⟨2, 3, 1, 29, 6711⟩,
    .cwait ⟨13, 1, 41, 44, 8⟩,
    .ctest ⟨15, 18, 9, 1, 50900⟩,
    .swait ⟨7, 1, 7, 7, 62710⟩,
    .ssig ⟨11, 1, 1, 0, 33161⟩] : List Instr).all (fun i => !i.wellFormed) = true := by decide +kernel

theorem test_refused_16 : ([
    .ssig ⟨11, 0, 1, 1, 33161⟩,
    .srdv ⟨12, 43, 12, 1, 17896⟩,
    .bar ⟨2, 1, 13, 0, 15⟩,
    .bar ⟨2, 0, 13, 1, 15⟩,
    .bara ⟨11, 5, 3, 1, 20765⟩,
    .barw ⟨8, 1, 1, 31, 15⟩,
    .elect ⟨7, 46, 8, 1, 10⟩,
    .shavg ⟨4, 1, 3, 26, 12400⟩,
    .shroll ⟨4, 1, 6, 60, 39476⟩,
    .shpin ⟨5, 1, 8, 62, 10⟩,
    .shfree ⟨14, 1, 13, 0, 3⟩,
    .shfree ⟨14, 0, 13, 1, 3⟩,
    .trap ⟨4, 1, 7, 0, 52536⟩,
    .trap ⟨4, 0, 7, 1, 52536⟩,
    .sysc ⟨12, 1, 2, 0, 53366⟩,
    .sysc ⟨12, 0, 2, 1, 53366⟩,
    .brk ⟨1, 0, 0, 0, 0⟩,
    .brk ⟨0, 1, 0, 0, 0⟩,
    .brk ⟨0, 0, 1, 0, 0⟩,
    .brk ⟨0, 0, 0, 1, 0⟩,
    .eretResume ⟨1, 0, 20, 0, 6431⟩,
    .eretResume ⟨0, 1, 20, 0, 6431⟩,
    .eretResume ⟨0, 0, 20, 1, 6431⟩,
    .tlbi ⟨3, 1, 50, 46, 48671⟩,
    .cwb ⟨11, 1, 14, 7, 62814⟩,
    .cinv ⟨8, 1, 27, 5, 19902⟩,
    .vmop ⟨0, 0, 0, 1, 0, 0, false, 0, 0, 0, false, 4⟩,
    .vmop ⟨0, 0, 1, 0, 0, 0, false, 0, 0, 0, false, 5⟩] : List Instr).all (fun i => !i.wellFormed) = true := by decide +kernel

end Sys2Proof.Tests
end

section
/-! Said once for every C-engine word that writes one s register: it retires with its value there and changes nothing else
(01 R23, 04 R81). -/

namespace Sys2Proof.Machine

open Sys2Proof

/-- The instruction `i` retires at `s` with `v` in register `d` and changes nothing else. -/
def State.writesS (s : State) (i : Instr) (d : BitVec 6) (v : DWord) : Prop :=
  ∃ t, exec i s = .next t ∧ (t.tk s.cur).sameRegs ((s.tk s.cur).setS d v) ∧ s.sameElse t ∧ s.retired t .C 4

theorem State.writesS.of_eq {s : State} {i : Instr} {d : BitVec 6} {v w : DWord} (h : s.writesS i d v) (hv : v = w) : s.writesS i d w :=
  hv ▸ h

@[simp] theorem Issue.getS_zero (t : Issue) : t.getS 0 = 0 := rfl
@[simp] theorem Issue.setS_zero (t : Issue) (x : DWord) : t.setS 0 x = t := rfl

theorem State.sk_onTk_other (s : State) {k j : Nat} (f : Issue → Issue) (h : j ≠ k) : (s.onTk k f).sk j = s.sk j :=
  State.sk_updSk_other _ _ h

theorem State.sameElse_onTk (s : State) (f : Issue → Issue) : s.sameElse (s.onTk s.cur f) :=
  ⟨rfl, rfl, rfl, rfl, rfl, fun _ hj => State.sk_onTk_other _ _ hj, by simp, by simp⟩

theorem State.sameElse_trans {s t u : State} (hc : t.cur = s.cur) (h : s.sameElse t) (g : t.sameElse u) : s.sameElse u := by
  obtain ⟨hm, hh, hd, hx, hl, ho, hr, hp⟩ := h
  obtain ⟨gm, gh, gd, gx, gl, go, gr, gp⟩ := g
  rw [hc] at go gr gp
  exact ⟨gm.trans hm, gh.trans hh, gd.trans hd, gx.trans hx, gl.trans hl, fun j hj => (go j hj).trans (ho j hj), gr.trans hr,
    gp.trans hp⟩

theorem State.sameElse_retire_onTk (s : State) (f : Issue → Issue) (e : Engine) (n : Nat) (tok : BitVec 4) :
    s.sameElse ((s.onTk s.cur f).retire s.cur e n tok) :=
  State.sameElse_trans (t := s.onTk s.cur f) rfl (State.sameElse_onTk s f) (State.retire_sameElse _ _ e n tok rfl)

theorem State.sameRegs_retire_onTk (s : State) (k : Nat) (f : Issue → Issue) (e : Engine) (n : Nat) (tok : BitVec 4) :
    (((s.onTk k f).retire k e n tok).tk k).sameRegs (f (s.tk k)) :=
  State.tk_onTk_same s k f ▸ State.retire_regs (s.onTk k f) k e n tok

/-- Outside hardware loops and single steps, an engine retires its word once the word has acted and left the engine as it was. -/
theorem State.retired_retire_onTk {s : State} {f : Issue → Issue} {e : Engine} (n : Nat) (tok : BitVec 4) (hs : s.straight e)
    (hf : (f (s.tk s.cur)).eng e = (s.tk s.cur).eng e) : s.retired ((s.onTk s.cur f).retire s.cur e n tok) e n := by
  obtain ⟨hloops, hstep, -⟩ := hs
  have heng := State.retire_eng (s.onTk s.cur f) s.cur e n tok (by rwa [State.tk_onTk_same, hf]) (by simpa using hstep)
  rw [State.tk_onTk_same, hf] at heng
  exact ⟨by rw [heng], by rw [heng]⟩

theorem cWrite_eq_retire {s : State} {tok : BitVec 4} (d : BitVec 6) (val : Issue → DWord) (hi : s.mayIssue .C tok none none) :
    cWrite tok d val s = .next ((s.onTk s.cur (fun t => t.setS d (val t))).retire s.cur .C 4 tok) := by
  obtain ⟨hbusy, hready⟩ := hi
  exact congrArg Host.Outcome.next (State.issue_ok s _ s.cur .C 4 tok none none _ hready rfl (by simpa using hbusy))

/-- A word of the form `cWrite` that finds its tokens writes its register and retires. -/
theorem State.writesS_of_cWrite {s : State} {i : Instr} {tok : BitVec 4} {d : BitVec 6} {val : Issue → DWord}
    (he : exec i s = cWrite tok d val s) (hi : s.mayIssue .C tok none none) (hs : s.straight .C) :
    s.writesS i d (val (s.tk s.cur)) :=
  ⟨_, he.trans (cWrite_eq_retire d val hi), State.sameRegs_retire_onTk .., State.sameElse_retire_onTk ..,
    State.retired_retire_onTk 4 tok hs (by simp [Issue.eng])⟩

end Sys2Proof.Machine
end

section
/-! LI and LIH (04 R89). -/

namespace Sys2Proof.Machine

open Sys2Proof

/-- What LIH makes of the register's value (04 R89). -/
def lihD (v : DWord) (i : BitVec 14) : DWord := v <<< 14 ||| i.setWidth 64

theorem getLsbD_lihD (v : DWord) (i : BitVec 14) {n : Nat} (h : n < 64) :
    (lihD v i).getLsbD n = if n < 14 then i.getLsbD n else v.getLsbD (n - 14) := by
  rw [lihD, BitVec.getLsbD_or, BitVec.getLsbD_shiftLeft, BitVec.getLsbD_setWidth]
  split
  · simp [*]
  · simp only [*, BitVec.getLsbD_of_ge i n (by omega), decide_true, decide_false, Bool.not_false, Bool.true_and, Bool.and_false,
      Bool.or_false]

/-- One LIH puts fourteen more bits of `x` below the `m` bits of it that the register already holds. -/
theorem getLsbD_lihD_extract {x v : DWord} {k m : Nat} (hm : m + 14 ≤ 64) (h : ∀ n < m, v.getLsbD n = x.getLsbD (k + 14 + n)) :
    ∀ n < m + 14, (lihD v (x.extractLsb' k 14)).getLsbD n = x.getLsbD (k + n) := by
  intro n hn
  rw [getLsbD_lihD _ _ (by omega)]
  split
  · rename_i hlow
    simp only [BitVec.getLsbD_extractLsb', hlow, decide_true, Bool.true_and]
  · rw [h _ (by omega), show k + 14 + (n - 14) = k + n by omega]

/-- Four LIH put the four low immediates below whatever the LI left, of which the lowest eight bits stay. -/
theorem lihD_chain {x v : DWord} (h : ∀ n < 8, v.getLsbD n = x.getLsbD (42 + 14 + n)) :
    lihD (lihD (lihD (lihD v (x.extractLsb' 42 14)) (x.extractLsb' 28 14)) (x.extractLsb' 14 14)) (x.extractLsb' 0 14) = x := by
  have h1 := getLsbD_lihD_extract (by decide) h
  have h2 := getLsbD_lihD_extract (k := 28) (by decide) h1
  have h3 := getLsbD_lihD_extract (k := 14) (by decide) h2
  have h4 := getLsbD_lihD_extract (k := 0) (by decide) h3
  exact BitVec.eq_of_getLsbD_eq fun n hn => by rw [h4 n hn, Nat.zero_add]

/-- The eight bits an LI supplies to the chain. -/
theorem getLsbD_signExtend_top {x : DWord} {top : BitVec 14} (h : top.extractLsb' 0 8 = x.extractLsb' 56 8) {n : Nat} (hn : n < 8) :
    (top.signExtend 64).getLsbD n = x.getLsbD (56 + n) := by
  have hb := congrArg (fun b => b.getLsbD n) h
  simp only [BitVec.getLsbD_extractLsb', hn, decide_true, Bool.true_and, Nat.zero_add] at hb
  rw [BitVec.getLsbD_signExtend, ← hb]
  simp [show n < 64 by omega, show n < 14 by omega]

theorem writesS_li {f : CU} {s : State} (hi : s.mayIssue .C f.tok none none) (hs : s.straight .C) :
    s.writesS (.li f) f.d (f.imm.signExtend 64) :=
  State.writesS_of_cWrite (val := fun _ => f.imm.signExtend 64) rfl hi hs

theorem writesS_lih {f : CU} {s : State} (hi : s.mayIssue .C f.tok none none) (hs : s.straight .C) :
    s.writesS (.lih f) f.d (lihD ((s.tk s.cur).getS f.d) f.imm) :=
  State.writesS_of_cWrite (val := fun t => lihD (t.getS f.d) f.imm) rfl hi hs

end Sys2Proof.Machine

open Sys2Proof Sys2Proof.Machine

/-- Settles O3: each word is a `cWrite`, and the chain gives bit `n` of the constant from the word that supplied it. -/
theorem constantsLoaded : Obligations.ConstantsLoaded := by
  unfold Obligations.ConstantsLoaded
  refine ⟨fun f s hi hs => ⟨writesS_li hi hs, writesS_lih hi hs, rfl, rfl⟩, fun x top h => ?_⟩
  exact lihD_chain fun n hn => getLsbD_signExtend_top h hn
end

section
/-! CLZ, CTZ, POPC and the bit fields bit by bit (04 R86, R87). -/

namespace Sys2Proof.Machine

open Sys2Proof

/-! ### CLZ, CTZ, POPC -/

theorem popBits_eq_length_filter (n x : Nat) : popBits n x = ((List.range n).filter x.testBit).length := by
  induction n generalizing x with
  | zero => rfl
  | succ n ih =>
    have hshift : x.testBit ∘ Nat.succ = (x / 2).testBit := funext fun i => Nat.testBit_succ x i
    rw [popBits, ih, List.range_succ_eq_map, List.filter_cons, List.filter_map, hshift, Nat.testBit_zero]
    rcases Nat.mod_two_eq_zero_or_one x with h | h
    · simp [h]
    · simp [h, Nat.add_comm]

theorem popD_eq (x : DWord) : popD x = BitVec.ofNat 64 ((List.range 64).filter x.getLsbD).length :=
  congrArg (BitVec.ofNat 64) (popBits_eq_length_filter 64 x.toNat)

theorem ctzBits_eq_of_lowest {k n x : Nat} (hn : n < k) (hbit : x.testBit n = true) (hlow : ∀ j < n, x.testBit j = false) :
    ctzBits k x = n := by
  induction k generalizing n x with
  | zero => omega
  | succ k ih =>
    cases n with
    | zero =>
      have hodd : x % 2 = 1 := by simpa [Nat.testBit_zero] using hbit
      simp [ctzBits, hodd]
    | succ n =>
      have heven : ¬ x % 2 = 1 := by simpa [Nat.testBit_zero] using hlow 0 (Nat.succ_pos n)
      rw [ctzBits, if_neg heven, ih (by omega) (Nat.testBit_succ x n ▸ hbit)
        (fun j hj => Nat.testBit_succ x j ▸ hlow (j + 1) (by omega)), Nat.add_comm]

theorem ctzD_eq_of_lowest {x : DWord} {n : Nat} (hn : n < 64) (hbit : x.getLsbD n = true) (hlow : ∀ j < n, x.getLsbD j = false) :
    ctzD x = BitVec.ofNat 64 n :=
  congrArg (BitVec.ofNat 64) (ctzBits_eq_of_lowest hn hbit hlow)

theorem clzD_eq_of_highest {x : DWord} {n : Nat} (hbit : x.getLsbD n = true) (hhigh : ∀ j, n < j → j < 64 → x.getLsbD j = false) :
    clzD x = BitVec.ofNat 64 (63 - n) := by
  have hx : x ≠ 0 := by rintro rfl; simp at hbit
  have hpos : x.toNat ≠ 0 := fun h => hx (BitVec.eq_of_toNat_eq (by simpa using h))
  have hlog : x.toNat.log2 = n := by
    refine (Nat.log2_eq_iff hpos).mpr ⟨Nat.ge_two_pow_of_testBit hbit, Nat.lt_pow_two_of_testBit _ fun j hj => ?_⟩
    by_cases h : j < 64
    · exact hhigh j (by omega) h
    · exact BitVec.getLsbD_of_ge x j (by omega)
  rw [clzD, if_neg hx, hlog]

theorem clzD_zero : clzD 0 = 64 := rfl
theorem ctzD_zero : ctzD 0 = 64 := rfl
theorem popD_zero : popD 0 = 0 := rfl

/-! ### BFX and BFI -/

theorem bfPos_eq (b : DWord) : bfPos b = (b.extractLsb' 0 6).toNat := by simp [bfPos, fld, bitsN]

theorem bfLen_eq (b : DWord) : bfLen b = min (b.extractLsb' 8 7).toNat (64 - (b.extractLsb' 0 6).toNat) := by
  simp [bfLen, bfPos_eq, fld, bitsN]

theorem bfPos_add_bfLen_le (b : DWord) : bfPos b + bfLen b ≤ 64 := by
  have hpos : bfPos b < 64 := Nat.mod_lt _ (by decide)
  unfold bfLen
  omega

/-- Sign extension as the library has it. -/
theorem wrapD_signExt (x : Nat) {n : Nat} (h : n ≠ 0) : wrapD (signExt x n) = (BitVec.ofNat n x).signExtend 64 := by
  have h2 : 2 ^ (n - 1) + 2 ^ (n - 1) = 2 ^ n := Nat.two_pow_pred_add_two_pow_pred (Nat.pos_of_ne_zero h)
  have : signExt x n = (BitVec.ofNat n x).toInt := by
    rw [signExt, if_neg h, BitVec.toInt_eq_toNat_cond, BitVec.toNat_ofNat]
    congr 1
    exact propext (by omega)
  rw [this]
  rfl

theorem testBit_fld (a : DWord) {hi lo i : Nat} : (fld a hi lo).testBit i = (decide (i < hi + 1 - lo) && a.getLsbD (lo + i)) := by
  rw [fld, bitsN, Nat.testBit_mod_two_pow, Nat.testBit_shiftRight]
  rfl

theorem getLsbD_insertBits (x : DWord) (lo n y : Nat) {i : Nat} (hi : i < 64) :
    (insertBits x lo n y).getLsbD i = if lo ≤ i ∧ i < lo + n then y.testBit (i - lo) else x.getLsbD i := by
  have hmask : (BitVec.ofNat 64 ((2 ^ n - 1) <<< lo)).getLsbD i = decide (lo ≤ i ∧ i < lo + n) := by
    rw [BitVec.getLsbD_ofNat, Nat.testBit_shiftLeft, Nat.testBit_two_pow_sub_one, Bool.eq_iff_iff]
    simp only [Bool.and_eq_true, decide_eq_true_eq]
    omega
  rw [insertBits, mergeBits, BitVec.getLsbD_or, BitVec.getLsbD_and, BitVec.getLsbD_and, BitVec.getLsbD_not, hmask, BitVec.getLsbD_ofNat,
    Nat.testBit_shiftLeft, Nat.testBit_mod_two_pow]
  split
  · rename_i h
    simp [hi, h, show i - lo < n by omega]
  · rename_i h
    simp [hi, h]

theorem getLsbD_bfxD (a b : DWord) {n : Nat} (hn : n < 64) :
    (bfxD a b).getLsbD n =
      if n < bfLen b then a.getLsbD (bfPos b + n)
      else decide (bfLen b ≠ 0) && b.getLsbD 15 && a.getLsbD (bfPos b + bfLen b - 1) := by
  have hle := bfPos_add_bfLen_le b
  rw [bfxD]
  split
  · rename_i hlen
    simp [hlen]
  rename_i hlen
  have hw : bfPos b + bfLen b - 1 + 1 - bfPos b = bfLen b := by omega
  split
  · rename_i hsx
    rw [wrapD_signExt _ hlen, BitVec.getLsbD_signExtend, BitVec.msb_eq_getLsbD_last, BitVec.getLsbD_ofNat, BitVec.getLsbD_ofNat,
      testBit_fld, testBit_fld, hw]
    split <;> simp [*, show bfPos b + (bfLen b - 1) = bfPos b + bfLen b - 1 by omega, show bfLen b - 1 < bfLen b by omega]
  · rename_i hsx
    rw [BitVec.getLsbD_ofNat, testBit_fld, hw, Bool.eq_false_iff.mpr hsx]
    split <;> simp [*]

theorem getLsbD_bfiD (d a b : DWord) {n : Nat} (hn : n < 64) :
    (bfiD d a b).getLsbD n = if bfPos b ≤ n ∧ n < bfPos b + bfLen b then a.getLsbD (n - bfPos b) else d.getLsbD n := by
  rw [bfiD]
  split
  · rename_i hlen
    rw [if_neg (by omega)]
  · rw [getLsbD_insertBits _ _ _ _ hn]
    split
    · rw [Nat.testBit_mod_two_pow, decide_eq_true (by omega), Bool.true_and]
      rfl
    · rfl

end Sys2Proof.Machine
end

section
/-! SEL, the bit counts and the bit fields (04 R85 to R87). -/

namespace Sys2Proof.Machine

open Sys2Proof

section
variable {f : CR} {s : State} (hi : s.mayIssue .C f.tok none none) (hs : s.straight .C)
include hi hs

theorem writesS_sel : s.writesS (.sel f) f.d
    (if (s.tk s.cur).getS f.d = 0 then (s.tk s.cur).getS f.b else (s.tk s.cur).getS f.a) :=
  State.writesS_of_cWrite (val := fun t => if t.getS f.d = 0 then t.getS f.b else t.getS f.a) rfl hi hs

theorem writesS_clz : s.writesS (.clz f) f.d (clzD ((s.tk s.cur).getS f.a)) :=
  State.writesS_of_cWrite (val := fun t => clzD (t.getS f.a)) rfl hi hs

theorem writesS_ctz : s.writesS (.ctz f) f.d (ctzD ((s.tk s.cur).getS f.a)) :=
  State.writesS_of_cWrite (val := fun t => ctzD (t.getS f.a)) rfl hi hs

theorem writesS_popc : s.writesS (.popc f) f.d (popD ((s.tk s.cur).getS f.a)) :=
  State.writesS_of_cWrite (val := fun t => popD (t.getS f.a)) rfl hi hs

theorem writesS_bfx : s.writesS (.bfx f) f.d (bfxD ((s.tk s.cur).getS f.a) ((s.tk s.cur).getS f.b)) :=
  State.writesS_of_cWrite (val := fun t => bfxD (t.getS f.a) (t.getS f.b)) rfl hi hs

theorem writesS_bfi : s.writesS (.bfi f) f.d
    (bfiD ((s.tk s.cur).getS f.d) ((s.tk s.cur).getS f.a) ((s.tk s.cur).getS f.b)) :=
  State.writesS_of_cWrite (val := fun t => bfiD (t.getS f.d) (t.getS f.a) (t.getS f.b)) rfl hi hs

end

end Sys2Proof.Machine

open Sys2Proof Sys2Proof.Machine

/-- Settles O2: each word is a `cWrite`, and its value is the model's function of the operands, known bit by bit. -/
theorem selectAndBitCounts : Obligations.SelectAndBitCounts := by
  unfold Obligations.SelectAndBitCounts
  intro f s hi hs x gives
  refine ⟨fun hd => ?sel, fun hd => ?selZero, fun hd => ?s0, fun n _ hbit hhigh => ?clz, fun n hn hbit hlow => ?ctz,
    fun hx => ?zero, ?popc, ?fields, rfl, rfl, rfl, rfl, rfl, rfl, beq_iff_eq, beq_iff_eq, beq_iff_eq⟩
  case sel => exact (writesS_sel hi hs).of_eq (if_neg hd)
  case selZero => exact (writesS_sel hi hs).of_eq (if_pos hd)
  case s0 => rw [hd]; exact ⟨Issue.getS_zero _, Issue.setS_zero _⟩
  case clz => exact (writesS_clz hi hs).of_eq (clzD_eq_of_highest hbit hhigh)
  case ctz => exact (writesS_ctz hi hs).of_eq (ctzD_eq_of_lowest hn hbit hlow)
  case zero =>
    exact ⟨(writesS_clz hi hs).of_eq ((congrArg clzD hx).trans clzD_zero),
      (writesS_ctz hi hs).of_eq ((congrArg ctzD hx).trans ctzD_zero),
      (writesS_popc hi hs).of_eq ((congrArg popD hx).trans popD_zero)⟩
  case popc => exact (writesS_popc hi hs).of_eq (popD_eq x)
  case fields =>
    intro b pos len
    refine ⟨_, _, writesS_bfx hi hs, writesS_bfi hi hs, fun n hn => ⟨?_, ?_⟩⟩
    · rw [getLsbD_bfxD _ _ hn, bfLen_eq, bfPos_eq]
    · rw [getLsbD_bfiD _ _ _ hn, bfLen_eq, bfPos_eq]
end
